-- ==== Sys2Proof/Word.lean ====
section
/-! DEFINITION. The words the rest of the model is written over: bytes of a frame, and the sample
sequence number. Everything the part computes with is an exact integer (R111), so `Nat` and `Int`
carry the figures and only frame bytes, raw frame fields and the sequence number are bit vectors. -/

namespace Sys2Proof

/-- One byte of a 64-byte frame (R186). -/
abbrev Byte := BitVec 8

/-- A sample sequence number: a 32-bit count of samples that wraps to 0 (R90). -/
abbrev Seq := BitVec 32

end Sys2Proof
end

