-- ==== Sys2Proof/Syntax.lean ====
section
/-! DEFINITION. The commands of the part: one constructor of `Instr` for each row of
spec/opcode_table.json, with the operands the row takes. A command frame's fields are held RAW, at the
widths of R187, so that a value outside a field's accepted values can be written and is then
examined by the command's own rule. -/

namespace Sys2Proof

/-- The five measured channels (R13). -/
inductive Channel where
  | vOut | iOut | vLine | pLine | tInlet
  deriving DecidableEq, Repr, Inhabited

/-- One check entry of a WRITE_STEP frame (R187): `low` and `high` are two's complement. -/
structure CheckFields where
  channel : Byte
  statistic : Byte
  low : BitVec 32
  high : BitVec 32
  deriving DecidableEq, Repr, Inhabited

/-- The fields of WRITE_STEP (R3 to R7, bytes in R187); `k24` to `k31` are the kind fields. -/
structure StepFields where
  page : Byte
  index : Byte
  kind : Byte
  tag : Byte
  nextPass : Byte
  nextFail : Byte
  timeLimit : BitVec 32
  lineSetpoint : BitVec 16
  window : BitVec 16
  captureBlocks : Byte
  checkCount : Byte
  check1 : CheckFields
  check2 : CheckFields
  check3 : CheckFields
  k24 : BitVec 16
  k25 : BitVec 16
  k26 : BitVec 16
  k27 : BitVec 16
  k28 : BitVec 16
  k29 : BitVec 16
  k30 : BitVec 16
  k31 : BitVec 16
  deriving DecidableEq, Repr, Inhabited

/-- The fields of WRITE_CURVE (R10): the twelve point slots of the frame, x (two's complement) and y. -/
structure CurveFields where
  curve : Byte
  axis : Byte
  n : Byte
  points : List (BitVec 16 × BitVec 16)
  deriving DecidableEq, Repr, Inhabited

/-- The fields of WRITE_PROFILE (R12). -/
structure ProfileFields where
  profile : Byte
  pRated : BitVec 16
  vNom : BitVec 16
  vRegLow : BitVec 16
  vCollapse : BitVec 16
  iMax : BitVec 16
  lineNominal : BitVec 16
  deriving DecidableEq, Repr, Inhabited

/-- The fields of WRITE_CHANNEL (R13); `offset` is two's complement. -/
structure ChannelFields where
  channel : Byte
  gain : BitVec 32
  offset : BitVec 32
  averaging : Byte
  settle : BitVec 16
  rangeSettle : BitVec 16
  policy : Byte
  deriving DecidableEq, Repr, Inhabited

/-- The fields of CONFIGURE (R57). -/
structure ConfigFields where
  limit : BitVec 16
  lineSettle : Byte
  backoffUnit : Byte
  attemptLimit : Byte
  gateQuiet : BitVec 16
  alarmPolarity : Byte
  deriving DecidableEq, Repr, Inhabited

/-- The fields of START_WALK (R21). -/
structure StartFields where
  page : Byte
  index : Byte
  profile : Byte
  restLevel : BitVec 16
  safeSlope : BitVec 16
  pageWaitLimit : BitVec 16
  stopOnFail : Byte
  chain : Byte
  deriving DecidableEq, Repr, Inhabited

/-- What the part takes in at one sample (R90, R44): the five codes, the electrical level of the
shelf alarm input, and the currents the other stations of the bay put on the two lines, as this
station's readings show them, in whole microamperes. The part adds its own contribution; `claimLag`
and `censusLag` say which of its values of the last line_settle the reading shows, 0 the newest
(R45; notes/assumptions/6.md). `alarmLate` and `kneeLate` say in which order an alarm detection and
a knee of this sample are taken with the other events of the same sample, which the spec lets fall
either way (R27, R161, R162; notes/assumptions/4.md). -/
structure SampleInput where
  vOut : BitVec 16
  iOut : BitVec 16
  vLine : BitVec 16
  pLine : BitVec 16
  tInlet : BitVec 16
  alarmHigh : Bool
  peersClaim : Nat
  peersCensus : Nat
  claimLag : Nat
  censusLag : Nat
  alarmLate : Bool
  kneeLate : Bool
  deriving DecidableEq, Repr, Inhabited

/-- The commands, in the order of the table. -/
inductive Instr where
  /-- Chip select goes active (R171). -/
  | transactionBegin
  /-- Chip select goes inactive after the given whole bytes (R170, R172). `straps` is the level of
  the bay address straps at the event; only a RESET frame reads them (R47). -/
  | transactionComplete (bytes : List Byte) (straps : BitVec 4)
  /-- Chip select goes inactive after the given number of whole bytes, fewer than 64 (R170). -/
  | transactionIncomplete (wholeBytes : Nat)
  /-- A frame whose byte 0 is the given code, which names no command (R173). -/
  | badCommand (code : Byte)
  | nop
  | status
  | configure (f : ConfigFields)
  | writeStep (f : StepFields)
  | writeCurve (f : CurveFields)
  | writeProfile (f : ProfileFields)
  | writeChannel (f : ChannelFields)
  | startWalk (f : StartFields)
  | pause
  | resume
  | abort
  | release
  | armChain
  | disarmChain
  /-- The RESET command, with the strap levels read at the reset (R185, R47). -/
  | reset (straps : BitVec 4)
  /-- The reset pin, with the strap levels read at the reset (R184, R47). -/
  | pinReset (straps : BitVec 4)
  /-- One sample interval (R90). -/
  | sample (i : SampleInput)
  | collapseDetect
  | regulationEvent
  | stepTimeLimitExpiry
  | pageWaitExpiry
  | admissionDecision
  | backoffEnd
  | quietWaitEnd
  | gateDecision
  | gateBackoffEnd
  | releaseSpanEnd
  | generatorSetEnd
  | pulseCycleEnd
  | pulseStopRequest
  | rangeDownEnd
  | relayCountExpiry
  | applyComplete
  /-- The blank of one channel closes (R95). -/
  | blankClose (channel : Channel)
  | windowDone
  | ceilingHoldEnd
  | tripWaitEnd
  | couplingSpanEnd
  | resetPulseEnd
  | captureBlockOffer
  | stalledRecordPlaced
  | interlockOpen
  | interlockClose
  deriving DecidableEq, Repr, Inhabited

end Sys2Proof
end

