-- ==== Sys2Proof/Decode.lean ====
section
/-! DEFINITION. The host's decoding of a table word. No row of spec/opcode_table.json gives bits: the
part takes commands, not instruction words, so no word spells one. The reading of a 64-byte command
FRAME (R187) is `Sys2Proof.Machine.frameCommand` in Sys2Proof/Machine/Operands.lean. -/

namespace Sys2Proof

/-- The command a word of `nbits` bits spells by the table's bits: none, since no row gives bits. -/
def decodeTableWord (_nbits _w : Nat) : Option Instr := none

end Sys2Proof
end

