-- ==== Sys2Proof/Config.lean ====
section
/-! DEFINITION. What is fixed for the part: the numbers its rules name once, and the one value the
spec leaves open (a free value: a constant with no body, see notes/assumptions/15.md). -/

namespace Sys2Proof.Config

/-- Records the result queue holds (R179). -/
def queueDepth : Nat := 32

/-- Free entries a capture block needs at its offer (R181). -/
def captureReserve : Nat := 8

/-- Whole bytes of a complete transaction, and the length of a frame (R170). -/
def frameBytes : Nat := 64

/-- Samples the acquisition history keeps (R97). -/
def historyLength : Nat := 48

/-- Samples a trip capture takes after the delivery sample (R108). -/
def tripCaptureAfter : Nat := 48

/-- Pairs of a full capture block (R106). -/
def blockPairs : Nat := 12

/-- Samples of a relay wait (R77). -/
def relayWait : Nat := 200

/-- Samples of a TRIP_SEARCH ceiling hold (R145). -/
def ceilingHold : Nat := 1000

/-- Length of the watch of a RECOVER step (R154). -/
def watchLength : Nat := 100

/-- A TRIP_TIME wait ends this many samples after `b + t_max` (R147). -/
def tripWaitExtra : Nat := 3

/-- Samples below the threshold that make a collapse (R101). -/
def collapseRun : Nat := 3

/-- Samples in regulation that make a regulation event (R104). -/
def regulationRun : Nat := 10

/-- Samples the trip current is taken over (R121). -/
def tripCurrentSamples : Nat := 16

/-- Claim units are formed by dividing dA × mV by this (R48, R119). -/
def claimDivisor : Nat := 5000000

/-- Microamperes one claim unit puts on the claim line (The Bay Lines, Lines and readings). -/
def claimUnitMicroamps : Nat := 20

/-- Microamperes one census unit sinks from the census line (The Bay Lines, Lines and readings). -/
def censusUnitMicroamps : Nat := 250

/-- Where the completed cycles count of a pulse stops (R74). -/
def cyclesCeiling : Nat := 65535

/-- Where a walk tally stops: FFFFFFFFh (R188). -/
def tallyCeiling : Nat := 4294967295

/-- DESIGN CHOICE (notes/assumptions/15.md). What the alarm detector takes the shelf alarm input to
read, at a sample of the given sequence number and input level, while no CONFIGURE has set a
polarity: the spec gives no reading, so this constant has no body. -/
opaque unsetAlarmReading : Seq → Bool → Bool

end Sys2Proof.Config
end

