-- ==== Sys2Proof/Machine/State.lean ====
section
/-! DEFINITION. The state of the part, block by block as the spec names it, as plain data; the reset
state; and the reasons a command can stop. INVENTORY.md lists every field with its rule. -/

namespace Sys2Proof.Machine

/-! ## Named values (R186 gives their codes) -/

/-- A plan page (R2). -/
inductive Page where
  | a | b
  deriving DecidableEq, Repr, Inhabited

/-- The kind of a step (R3); `none` marks an empty slot. -/
inductive Kind where
  | none | hold | ramp | pulse | tripSearch | tripTime | recover | derate | dropout
  deriving DecidableEq, Repr, Inhabited

/-- A channel a check may name: a measured one, or P_OUT or EFF (R4). -/
inductive CheckChannel where
  | measured (c : Channel)
  | pOut
  | eff
  deriving DecidableEq, Repr, Inhabited

/-- The statistic of a check (R4). -/
inductive Statistic where
  | mean | minimum | maximum
  deriving DecidableEq, Repr, Inhabited

/-- The detect source of a trip step (R6). -/
inductive Detect where
  | collapse | alarm | either
  deriving DecidableEq, Repr, Inhabited

/-- The source of a trip event (R103). -/
inductive TripSource where
  | collapse | alarm | both
  deriving DecidableEq, Repr, Inhabited

/-- The axis of a curve table (R9). -/
inductive Axis where
  | voltage | temperature
  deriving DecidableEq, Repr, Inhabited

/-- The disturbance policy of a channel (R13). -/
inductive Policy where
  | restart | mark
  deriving DecidableEq, Repr, Inhabited

/-- The polarity of the shelf alarm input (R57). -/
inductive Polarity where
  | activeHigh | activeLow
  deriving DecidableEq, Repr, Inhabited

/-- The load range, and the position of the range relay (R70). -/
inductive LoadRange where
  | low | high
  deriving DecidableEq, Repr, Inhabited

/-- The walk state (R19). -/
inductive WalkState where
  | idle | running | paused | pageWait | winddown | held
  deriving DecidableEq, Repr, Inhabited

/-- The phase shown by the engine record (R19). -/
inductive Phase where
  | none | admitting | backoff | gate | gateBackoff | applying | settle | body | exiting | outputStall
  deriving DecidableEq, Repr, Inhabited

/-- The own census unit, with the reason it is asserted for (R58). -/
inductive OwnUnit where
  | released | attempt | gate | trip
  deriving DecidableEq, Repr, Inhabited

/-- The protocol state of the bay interface (R47). -/
inductive Protocol where
  | idle | raising | backoff | quiet | asserting | gateBackoff
  deriving DecidableEq, Repr, Inhabited

/-- A verdict, and a contribution to one (R29). -/
inductive Verdict where
  | pass | limit | tripCurrent | tripEarly | noTrip | derateLow | derateHigh | noKnee | holdup
  | noRecovery | unexpectedTrip | denied | overBay | timeout | aborted
  deriving DecidableEq, Repr, Inhabited

/-- A summary reason (R32). -/
inductive Reason where
  | pass | fail | aborted | interlock | starved | emptyStep
  deriving DecidableEq, Repr, Inhabited

/-- The answer to a command (R178); BAD_FIELD carries its field number. -/
inductive Answer where
  | ok | badCommand | badField (field : Nat) | inUse | busy | held | notHeld | notConfigured
  | alreadySet | interlock | noWalk | gated | emptyStep | chainArmed
  deriving DecidableEq, Repr, Inhabited

/-- The span of the dropout coupling a trip was delivered in (R167). -/
inductive TripSpan where
  | lead | off | restore
  deriving DecidableEq, Repr, Inhabited

/-! ## The plan store (R1 to R18) -/

/-- One value for each measured channel. -/
structure PerChannel (α : Type) where
  vOut : α
  iOut : α
  vLine : α
  pLine : α
  tInlet : α
  deriving DecidableEq, Repr

/-- A check entry of a stored step record (R4). -/
structure Check where
  channel : CheckChannel
  statistic : Statistic
  low : Int
  high : Int
  deriving DecidableEq, Repr, Inhabited

/-- The kind of a step record with its kind fields (R5 to R7); `none` is the empty slot. -/
inductive StepBody where
  | none
  | hold (iSet : Nat)
  | ramp (iFrom iTo slope : Nat)
  | pulse (iLo iHi period highTime cycles : Nat)
  | tripSearch (iFrom slope iCeiling : Nat) (detect : Detect) (threshold tripLo tripHi : Nat)
  | tripTime (iPre iOver : Nat) (detect : Detect) (threshold tMin tMax : Nat)
  | recover (iRest resetPulse : Nat)
  | derate (curveV : Nat) (curveT : Option Nat) (iFrom slope iCeiling kneeDrop tolLo tolHi : Nat)
  | dropout (iHold lead dropout restore vMin : Nat)
  deriving DecidableEq, Repr, Inhabited

/-- A stored step record: the common fields of R3, its checks and its kind (R2). -/
structure StepRecord where
  tag : Nat
  nextPass : Nat
  nextFail : Nat
  timeLimit : Nat
  lineSetpoint : Nat
  window : Nat
  captureBlocks : Nat
  checks : List Check
  body : StepBody
  deriving DecidableEq, Repr, Inhabited

/-- An empty slot: kind NONE, all other fields 0 (R18). -/
def StepRecord.empty : StepRecord := ⟨0, 0, 0, 0, 0, 0, 0, [], .none⟩

/-- A curve table (R9). The point count n is the length of `points`; an empty curve has no axis. -/
structure Curve where
  axis : Option Axis
  points : List (Int × Nat)
  deriving DecidableEq, Repr, Inhabited

/-- The six ratings of a shelf profile (R12). -/
structure Ratings where
  pRated : Nat
  vNom : Nat
  vRegLow : Nat
  vCollapse : Nat
  iMax : Nat
  lineNominal : Nat
  deriving DecidableEq, Repr, Inhabited

/-- A shelf profile: its ratings and its valid flag (R12). -/
structure Profile where
  valid : Bool
  ratings : Ratings
  deriving DecidableEq, Repr, Inhabited

/-- A channel profile (R13). -/
structure ChannelProfile where
  gain : Nat
  offset : Int
  averaging : Nat
  settle : Nat
  rangeSettle : Nat
  policy : Policy
  deriving DecidableEq, Repr, Inhabited

/-- The bay configuration record (R15, R57). -/
structure BayConfig where
  limit : Nat
  lineSettle : Nat
  backoffUnit : Nat
  attemptLimit : Nat
  gateQuiet : Nat
  alarmPolarity : Polarity
  deriving DecidableEq, Repr, Inhabited

/-- The plan store. The configured flag is set exactly when `config` holds a record (R15). -/
structure PlanStore where
  pageA : Vector StepRecord 32
  pageB : Vector StepRecord 32
  curves : Vector Curve 8
  profiles : Vector Profile 4
  channels : PerChannel ChannelProfile
  config : Option BayConfig
  deriving DecidableEq, Repr

/-! ## The drive unit (R70) -/

/-- A generator set (R72). A LEVEL target is held in the generator's unit of 0.1 mA, because a halt
leaves a LEVEL set at a level between whole deciamperes (R75); the other currents are in dA. -/
inductive GenSet where
  | level (target : Nat)
  | ramp (start : Option Nat) (stop slope : Nat)
  | pulse (lo hi period highTime cycles : Nat)
  deriving DecidableEq, Repr, Inhabited

/-- How far the set in force has come: still acting, at an end that has not been reported yet, or at
rest with no end to report (R72). -/
inductive SetStatus where
  | acting | ended | rest
  deriving DecidableEq, Repr, Inhabited

/-- A set waiting to take force; `range` is the range an APPLY request carries (R73, R77). -/
structure Staged where
  set : GenSet
  range : Option LoadRange
  deriving DecidableEq, Repr, Inhabited

/-- The range change stages of R78. DOWN keeps the range the relay is to move to and whether the
level has reached 0. -/
inductive RangeChange where
  | none
  | down (target : LoadRange) (reached : Bool)
  | relayWait
  deriving DecidableEq, Repr, Inhabited

/-- The dropout coupling with the samples remaining in its span (R86), and the lengths of the spans
still to come. -/
inductive Coupling where
  | none
  | lead (left dropout restore : Nat)
  | off (left restore : Nat)
  | restore (left : Nat)
  deriving DecidableEq, Repr, Inhabited

/-- The cycle number and the sample within the cycle of a PULSE set in force (R70, R74). -/
structure PulsePosition where
  cycle : Nat
  sample : Nat
  deriving DecidableEq, Repr, Inhabited

/-- The drive record of R70. `loadRequest` is a load enable waiting for the relay count (R77),
`cycleEnded` a pulse cycle at its last low sample whose end has not been taken yet (R74), and
`rangeChanged` whether a range change has run in the APPLY in progress (R78). The pulse's completed
cycles stand apart from its position, so that the STEP_RESULT can report them (R139). A `resetPulse`
of `none` is no shelf reset pulse. -/
structure Drive where
  level : Nat
  loadEnable : Bool
  loadRequest : Bool
  range : LoadRange
  relayCount : Nat
  rangeChange : RangeChange
  rangeChanged : Bool
  active : GenSet
  status : SetStatus
  staged : Option Staged
  pulse : Option PulsePosition
  completed : Nat
  cycleEnded : Bool
  dropHold : Bool
  stopPending : Bool
  lineSetpoint : Nat
  lineEnable : Bool
  coupling : Coupling
  shelfEnable : Bool
  resetPulse : Option Nat
  deriving DecidableEq, Repr

/-! ## The bay interface (R47) -/

/-- What the readings of a bay line may still show of this station (R45): its contribution at the last
sample, and older ones, newest first, each with the samples in which a reading may still show it. -/
structure Contribution where
  current : Nat
  fading : List (Nat × Nat)
  deriving DecidableEq, Repr, Inhabited

/-- The bay interface record of R47, with what the two lines carry of this station (R45). A
`releaseSpan` of `none` is no span running, and `some 0` a span that has run out and whose end has not
been taken yet. -/
structure Bay where
  address : Nat
  drivenClaim : Nat
  priorClaim : Nat
  ownUnit : OwnUnit
  protocol : Protocol
  admissionAttempts : Nat
  gateAttempts : Nat
  protocolCount : Nat
  releaseSpan : Option Nat
  bayTotal : Nat
  censusReading : Nat
  censusOthers : Nat
  claimOnLine : Contribution
  censusOnLine : Contribution
  deriving DecidableEq, Repr

/-! ## Acquisition (R90 to R110) -/

/-- The blank of a channel (R94); a count of 0 is a blank whose close has not been taken yet. -/
inductive Blank where
  | closed | waiting | counting (left : Nat)
  deriving DecidableEq, Repr, Inhabited

/-- The internal sample record (R97), with the commanded load and the alarm input's reading gathered at
the sample (R90, R102). -/
structure SampleRecord where
  seq : Seq
  raw : PerChannel Int
  average : PerChannel Int
  overRange : PerChannel Bool
  pOut : Nat
  eff : Nat
  pOutOver : Bool
  effOver : Bool
  disturbed : Bool
  blank : PerChannel Bool
  range : LoadRange
  load : Nat
  alarm : Bool
  deriving DecidableEq, Repr

/-- A raw sample kept by the history and by capture (R97, R107). -/
structure RawSample where
  seq : Seq
  vOut : Int
  iOut : Int
  vOver : Bool
  iOver : Bool
  disturbed : Bool
  range : LoadRange
  deriving DecidableEq, Repr, Inhabited

/-- The mode of a measurement window. -/
inductive WindowMode where
  | counted | span
  deriving DecidableEq, Repr, Inhabited

/-- The state of a measurement window. -/
inductive WindowState where
  | opened | waiting | done | closed
  deriving DecidableEq, Repr, Inhabited

/-- What a window holds for one channel: the sum, the extremes once a value is accumulated, and the
over-range mark (R98). -/
structure Accumulator where
  channel : CheckChannel
  sum : Int
  extremes : Option (Int × Int)
  mark : Bool
  deriving DecidableEq, Repr, Inhabited

/-- The measurement window (the window table of Acquisition). `restarts` and `disturbed` belong to
the step and carry across its windows (R99). -/
structure Window where
  mode : WindowMode
  state : WindowState
  policy : Policy
  length : Nat
  count : Nat
  channels : List Accumulator
  restarts : Nat
  disturbed : Nat
  deriving DecidableEq, Repr, Inhabited

/-- An armed run detector: its threshold and its run (R101, R104). -/
structure RunDetector where
  threshold : Nat
  run : Nat
  deriving DecidableEq, Repr, Inhabited

/-- The detectors (R101 to R105); `none` is disarmed. `alarmHit` and `kneeHit` are detections of the
sample just taken that have not been delivered yet. -/
structure Detectors where
  collapse : Option RunDetector
  alarmArmed : Bool
  alarmHit : Bool
  regulation : Option RunDetector
  knee : Option Int
  kneeHit : Bool
  deriving DecidableEq, Repr, Inhabited

/-- The mode of capture (R106, R108). -/
inductive CaptureMode where
  | none | terminal | trip
  deriving DecidableEq, Repr, Inhabited

/-- The state of capture. -/
inductive CaptureState where
  | idle | collecting | done
  deriving DecidableEq, Repr, Inhabited

/-- The capture record. `left` counts the samples a trip capture has still to take (R108). -/
structure Capture where
  mode : CaptureMode
  state : CaptureState
  fill : List RawSample
  nextIndex : Nat
  posted : Nat
  dropped : Nat
  left : Nat
  deriving DecidableEq, Repr, Inhabited

/-- Acquisition. `nextSeq` is the number the next sample will take (R90), `latest` the record of the
last sample taken since reset, `history` the last 48 raw samples, newest first, and `alarmPrevious`
the alarm reading of the sample before the latest (R102). `alarmUnseen` says that since the reset the
alarm input has read inactive at no sample and the alarm detector has been armed at none: an input
active then is detected at the first armed sample (R110; DEDUCED, notes/assumptions/35.md). `alarmLate` is
the model's own: whether the sender puts an alarm detection of the latest sample after the sample's other
events (notes/assumptions/4.md, notes/assumptions/21.md). -/
structure Acquisition where
  nextSeq : Seq
  latest : Option SampleRecord
  averages : PerChannel (List Int)
  blanks : PerChannel Blank
  window : Window
  detectors : Detectors
  alarmPrevious : Bool
  alarmUnseen : Bool
  alarmLate : Bool
  history : List RawSample
  capture : Capture
  deriving DecidableEq, Repr

/-! ## Records (R183) -/

/-- One check result of a STEP_RESULT (R100). -/
structure CheckResult where
  evaluated : Bool
  pass : Bool
  mark : Bool
  statistic : Int
  deriving DecidableEq, Repr, Inhabited

/-- The figures a trip event carries (R103): I_trip with its over-range mark. -/
structure Trip where
  source : TripSource
  date : Seq
  iTrip : Int
  mark : Bool
  deriving DecidableEq, Repr, Inhabited

/-- The figures a step's kind records for its STEP_RESULT (R139, R156, R163, R169). -/
structure Figures where
  trip : Option Trip
  tTrip : Option Nat
  tripSpan : Option TripSpan
  recovery : Option Nat
  watchMin : Option Int
  vRef : Option Int
  tUsed : Option Int
  tUsedMark : Bool
  pExp : Option Nat
  pKnee : Option Nat
  vMin : Option Int
  curveMissing : Bool
  deriving DecidableEq, Repr, Inhabited

/-- A STEP_RESULT (R183, R188). `cycles` is a PULSE step's completed cycles. -/
structure StepResult where
  page : Page
  index : Nat
  tag : Nat
  kind : Kind
  verdict : Verdict
  endPhase : Phase
  duration : Nat
  exitLevel : Nat
  admissionAttempts : Nat
  gateAttempts : Nat
  censusHeld : Bool
  clamped : Bool
  posted : Nat
  dropped : Nat
  windowCount : Nat
  restarts : Nat
  disturbed : Nat
  checks : List CheckResult
  figures : Figures
  cycles : Nat
  deriving DecidableEq, Repr, Inhabited

/-- A WALK_SUMMARY (R32). -/
structure WalkSummary where
  verdictPass : Bool
  reason : Reason
  stepsRun : Nat
  stepsFailed : Nat
  firstFail : Option (Page × Nat)
  deriving DecidableEq, Repr, Inhabited

/-- A CAPTURE_BLOCK (R109). -/
structure CaptureBlock where
  tag : Nat
  index : Nat
  samples : List RawSample
  deriving DecidableEq, Repr, Inhabited

/-- A step-level record, the walk engine's own (R180). -/
inductive StepLevel where
  | stepResult (r : StepResult)
  | walkSummary (w : WalkSummary)
  | pageSwap (p : Page)
  deriving DecidableEq, Repr, Inhabited

/-- A record of the result queue: the walk engine's or capture's (Station Port and Result Queue, Result
queue). -/
inductive Record where
  | stepLevel (r : StepLevel)
  | captureBlock (b : CaptureBlock)
  deriving DecidableEq, Repr, Inhabited

/-! ## The walk engine (R19) -/

/-- The walk header of START_WALK (R21). -/
structure WalkHeader where
  startPage : Page
  startIndex : Nat
  profile : Nat
  restLevel : Nat
  safeSlope : Nat
  pageWaitLimit : Nat
  stopOnFail : Bool
  chain : Bool
  deriving DecidableEq, Repr, Inhabited

/-- Where the BODY of a step stands, for the kinds whose BODY has stages: RECOVER (R152 to R154) and
DERATE (R158 to R160); the other kinds stand in `main`. -/
inductive BodyStage where
  | main | resetPulse | regulationWait | restRamp | watch | reference | kneeRamp
  deriving DecidableEq, Repr, Inhabited

/-- The step context (R19): the record read at ADMIT, the time limit's samples remaining, the verdict
contributions and the ADMIT entry, with what the step has recorded so far. `wait` counts a ceiling
hold (R145) or a trip wait (R147); `some 0` is a wait whose end has not been taken yet. -/
structure StepContext where
  page : Page
  index : Nat
  record : StepRecord
  admitSeq : Seq
  admitLevel : Nat
  timeLeft : Nat
  contributions : List Verdict
  clamped : Bool
  settleSet : PerChannel Bool
  bodySeq : Seq
  stage : BodyStage
  wait : Option Nat
  limits : Nat × Nat
  windowCount : Nat
  checks : List CheckResult
  figures : Figures
  deriving DecidableEq, Repr

/-- The walk tallies (R19). -/
structure Tallies where
  stepsRun : Nat
  stepsFailed : Nat
  firstFail : Option (Page × Nat)
  allPass : Bool
  deriving DecidableEq, Repr, Inhabited

/-- How the rest ramp of PAGE_WAIT stands (R83): not wanted, waiting for a range change to end, in
motion, to be counted as reached at the next update, or reached. -/
inductive RestStage where
  | none | deferred | ramping | atNextUpdate | reached
  deriving DecidableEq, Repr, Inhabited

/-- The engine record of R19. The held flag is set exactly when `walk` is HELD. `lastIndex` is the
index of the last step that entered ADMIT, `resumeIndex` that of a PAUSED walk; `waiting` is the
step-level record held in OUTPUT_STALL (R180), and `releasesDone` says that the WINDDOWN releases
have been made (R41). -/
structure Engine where
  walk : WalkState
  header : Option WalkHeader
  profile : Option Ratings
  page : Option Page
  chain : Option Page
  pausePending : Bool
  abortPending : Bool
  lastIndex : Option Nat
  resumeIndex : Nat
  phase : Phase
  step : Option StepContext
  tallies : Tallies
  reason : Option Reason
  waiting : Option StepLevel
  pageWaitLeft : Nat
  rest : RestStage
  releasesDone : Bool
  deriving DecidableEq, Repr

/-! ## The station port (R170 to R185) -/

/-- The snapshot a STATUS answer carries (R176). -/
structure Snapshot where
  walk : WalkState
  phase : Phase
  page : Option Page
  index : Option Nat
  drivenClaim : Nat
  bayTotal : Nat
  censusReading : Nat
  censusOthers : Nat
  ownUnit : OwnUnit
  admissionAttempts : Nat
  gateAttempts : Nat
  level : Nat
  range : LoadRange
  queueCount : Nat
  interlockOpen : Bool
  address : Nat
  deriving DecidableEq, Repr, Inhabited

/-- An ANSWER record (R178). -/
structure AnswerRecord where
  code : Byte
  answer : Answer
  snapshot : Option Snapshot
  deriving DecidableEq, Repr, Inhabited

/-- What the frame in the outgoing latch was chosen from (R171). -/
inductive FrameSource where
  | answer | queue | idle
  deriving DecidableEq, Repr, Inhabited

/-- The port between transactions, in one, or under a chip select that a pin reset found active and
that takes no part in the exchange (R170, R184). -/
inductive Select where
  | inactive | active | void
  deriving DecidableEq, Repr, Inhabited

/-- The station port. `dataOut` holds the whole bytes that data out has carried in the last transaction
that ended, and nothing while one is in progress (R170, R184; notes/assumptions/24.md). -/
structure Port where
  select : Select
  command : List Byte
  outgoing : Option (FrameSource × List Byte)
  answer : Option AnswerRecord
  dataOut : List Byte
  deriving DecidableEq, Repr

/-! ## The machine -/

/-- Why a command faults. The spec gives no command a fault: every command has an effect, or is
answered with a refusal of its own that the part goes on from. Closed, and empty. -/
inductive Fault
  deriving DecidableEq, Repr

/-- Why a command is refused by the model. -/
inductive Refusal where
  /-- Raised by `exec` for a command whose meaning is not written yet; safe. -/
  | notModelled (mnemonic : String)
  deriving DecidableEq, Repr

/-- The part, its interlock input, and the commands waiting for it, first in first out (the queue is
the model's own: notes/assumptions/1.md). -/
structure State where
  port : Port
  store : PlanStore
  engine : Engine
  bay : Bay
  drive : Drive
  acq : Acquisition
  queue : List Record
  interlockOpen : Bool
  pending : List Instr
  deriving DecidableEq, Repr

/-! ## Reset values -/

/-- The channel profiles after a pin reset (R14). -/
def ChannelProfile.resetTable : PerChannel ChannelProfile where
  vOut := ⟨65536, 0, 4, 20, 200, .restart⟩
  iOut := ⟨65536, 0, 4, 20, 200, .restart⟩
  vLine := ⟨65536, 0, 16, 500, 0, .mark⟩
  pLine := ⟨65536, 0, 16, 500, 0, .mark⟩
  tInlet := ⟨65536, 0, 64, 0, 0, .mark⟩

/-- The plan store after a pin reset (R18). -/
def PlanStore.reset : PlanStore where
  pageA := Vector.replicate 32 StepRecord.empty
  pageB := Vector.replicate 32 StepRecord.empty
  curves := Vector.replicate 8 ⟨none, []⟩
  profiles := Vector.replicate 4 ⟨false, ⟨0, 0, 0, 0, 0, 0⟩⟩
  channels := ChannelProfile.resetTable
  config := none

/-- Cleared tallies: no step run, none failed, the all-pass flag set (R22, R43). -/
def Tallies.cleared : Tallies := ⟨0, 0, none, true⟩

/-- The walk engine after a reset (R43). -/
def Engine.reset : Engine where
  walk := .idle
  header := none
  profile := none
  page := none
  chain := none
  pausePending := false
  abortPending := false
  lastIndex := none
  resumeIndex := 0
  phase := .none
  step := none
  tallies := Tallies.cleared
  reason := none
  waiting := none
  pageWaitLeft := 0
  rest := .none
  releasesDone := false

/-- A line that carries nothing of this station and shows nothing of it any more. -/
def Contribution.none : Contribution := ⟨0, []⟩

/-- The bay interface after a reset that read the given address from the straps (R47, R69). -/
def Bay.reset (address : Nat) : Bay where
  address := address
  drivenClaim := 0
  priorClaim := 0
  ownUnit := .released
  protocol := .idle
  admissionAttempts := 0
  gateAttempts := 0
  protocolCount := 0
  releaseSpan := none
  bayTotal := 0
  censusReading := 0
  censusOthers := 0
  claimOnLine := .none
  censusOnLine := .none

/-- The drive unit after a reset (R70, R89). -/
def Drive.reset : Drive where
  level := 0
  loadEnable := false
  loadRequest := false
  range := .low
  relayCount := Config.relayWait
  rangeChange := .none
  rangeChanged := false
  active := .level 0
  status := .rest
  staged := none
  pulse := none
  completed := 0
  cycleEnded := false
  dropHold := false
  stopPending := false
  lineSetpoint := 0
  lineEnable := false
  coupling := .none
  shelfEnable := false
  resetPulse := none

/-- The window CLOSED with every count 0 (R110), after a reset and at ADMIT entry. DESIGN CHOICE
(notes/assumptions/36.md): the spec gives a closed window no mode, policy and length; they are SPAN, MARK
and 0 until the next window is opened. -/
def Window.reset : Window := ⟨.span, .closed, .mark, 0, 0, [], 0, 0⟩

/-- All detectors disarmed, with nothing undelivered (R110). -/
def Detectors.disarmed : Detectors := ⟨none, false, false, none, none, false⟩

/-- Capture with mode NONE, IDLE and empty (R110). -/
def Capture.reset : Capture := ⟨.none, .idle, [], 0, 0, 0, 0⟩

/-- The same value for every measured channel. -/
def PerChannel.same {α : Type} (x : α) : PerChannel α := ⟨x, x, x, x, x⟩

/-- Acquisition after a reset (R110). -/
def Acquisition.reset : Acquisition where
  nextSeq := 0
  latest := none
  averages := PerChannel.same []
  blanks := PerChannel.same .closed
  window := Window.reset
  detectors := Detectors.disarmed
  alarmPrevious := false
  alarmUnseen := true
  alarmLate := false
  history := []
  capture := Capture.reset

/-- The station port after a pin reset with chip select inactive (R184). -/
def Port.reset : Port := ⟨.inactive, [], none, none, []⟩

/-- The part right after a pin reset. The strap address and the interlock input are inputs, which the
spec gives no reset value: address 0 and CLOSED (notes/assumptions/7.md). -/
def State.reset : State where
  port := Port.reset
  store := PlanStore.reset
  engine := Engine.reset
  bay := Bay.reset 0
  drive := Drive.reset
  acq := Acquisition.reset
  queue := []
  interlockOpen := false
  pending := []

/-! ## Updates of one block -/

/-- `s` with another station port. -/
def State.setPort (s : State) (x : Port) : State := { s with port := x }

/-- `s` with another plan store. -/
def State.setStore (s : State) (x : PlanStore) : State := { s with store := x }

/-- `s` with another walk engine. -/
def State.setEngine (s : State) (x : Engine) : State := { s with engine := x }

/-- `s` with another bay interface. -/
def State.setBay (s : State) (x : Bay) : State := { s with bay := x }

/-- `s` with another drive unit. -/
def State.setDrive (s : State) (x : Drive) : State := { s with drive := x }

/-- `s` with another acquisition. -/
def State.setAcq (s : State) (x : Acquisition) : State := { s with acq := x }

/-- `s` with another result queue. -/
def State.setQueue (s : State) (x : List Record) : State := { s with queue := x }

/-- `s` with another level of the interlock input. -/
def State.setInterlock (s : State) (x : Bool) : State := { s with interlockOpen := x }

end Sys2Proof.Machine
end

