-- ==== Sys2Proof/Machine/Arith.lean ====
section
/-! DEFINITION. Check Arithmetic (R111 to R125): the exact integer formulas. A quotient `/` of
integers by a positive divisor is the floor toward −∞ that R111 asks for. -/

namespace Sys2Proof.Machine

/-- The least integer not less than `a / b`. -/
def ceilDiv (a b : Nat) : Nat := (a + b - 1) / b

/-- `x` brought into `lo` to `hi`. -/
def clampInt (lo hi x : Int) : Int := max lo (min hi x)

/-- The range of a measured channel (R13). -/
def channelRange : Channel → Int × Int
  | .vOut => (0, 65000)
  | .iOut => (0, 12000)
  | .vLine => (0, 3300)
  | .pLine => (0, 40000)
  | .tInlet => (-400, 1250)

/-- The range of a check limit (R4). -/
def checkRange : CheckChannel → Int × Int
  | .measured c => channelRange c
  | .pOut => (0, 78000)
  | .eff => (0, 1000)

/-- The sum of R91 and R112 before the clamp: floor(code × gain / 65536) + offset. -/
def scaledValue (p : ChannelProfile) (code : Nat) : Int := ((code * p.gain / 65536 : Nat) : Int) + p.offset

/-- The raw value of a channel (R91). -/
def channelValue (c : Channel) (p : ChannelProfile) (code : Nat) : Int :=
  clampInt (channelRange c).1 (channelRange c).2 (scaledValue p code)

/-- The over-range flag: whether the clamp changed the value (R91). -/
def channelOver (c : Channel) (p : ChannelProfile) (code : Nat) : Bool :=
  channelValue c p code != scaledValue p code

/-- The averaged value of a list of raw values (R92). -/
def averageOf (values : List Int) : Int := values.sum / values.length

/-- A list of raw values after another has joined it: the newest `a` of them (R92). -/
def joinAverage (a : Nat) (values : List Int) (x : Int) : List Int :=
  (values ++ [x]).drop (values.length + 1 - a)

/-- P_OUT from averaged V_OUT and I_OUT (R113); P_knee is the same formula (R118). -/
def outputPower (v i : Int) : Nat := (v * i / 10000).toNat

/-- EFF from P_OUT and averaged P_LINE (R114). -/
def efficiency (pOut : Nat) (pLine : Int) : Nat :=
  if pLine ≤ 0 then 0 else if pLine < pOut then 1000 else 1000 * pOut / pLine.toNat

/-- Whether EFF saturated: P_OUT above a P_LINE that is not 0 (R114). -/
def efficiencySaturated (pOut : Nat) (pLine : Int) : Bool := decide (0 < pLine ∧ pLine < pOut)

/-- The value at `x` on the rest of a curve whose last breakpoint at or below `x` is `(xi, yi)`
(R115). -/
def curveSegment (x xi : Int) (yi : Nat) : List (Int × Nat) → Nat
  | [] => yi
  | (xj, yj) :: rest =>
    if x < xj then ((yi : Int) + ((yj : Int) - yi) * (x - xi) / (xj - xi)).toNat
    else curveSegment x xj yj rest

/-- The curve value y(x) (R115); an empty curve is never asked for one (R11). -/
def curveValue (points : List (Int × Nat)) (x : Int) : Nat :=
  match points with
  | [] => 0
  | (x0, y0) :: rest => if x ≤ x0 then y0 else curveSegment x x0 y0 rest

/-- P_exp (R116). -/
def expectedPower (pRated yV yT : Nat) : Nat := pRated * min yV yT / 1000

/-- P_lo (R117). -/
def powerLow (pExp tolLo : Nat) : Nat := pExp * (1000 - tolLo) / 1000

/-- P_hi (R117). -/
def powerHigh (pExp tolHi : Nat) : Nat := ceilDiv (pExp * (1000 + tolHi)) 1000

/-- The claim of a current in dA under a V_nom in mV (R48, R119). -/
def claimOf (current vNom : Nat) : Nat := ceilDiv (current * vNom) Config.claimDivisor

/-- The load current setpoint of a generator level: the DAC value in dA (R71, R120). -/
def dacValue (level : Nat) : Nat := level / 1000

/-- One ramp update from `level` toward `stop`, both in 0.1 mA (R72). -/
def rampUpdate (level stop slope : Nat) : Nat :=
  if level ≤ stop then (if stop - level ≤ slope then stop else level + slope)
  else (if level - stop ≤ slope then stop else level - slope)

/-- The slot count of a failed attempt (R53, R61, R124). -/
def backoffSlots (address attempt : Nat) : Nat := 1 + (5 * address + 3 * attempt) % 16

/-- The interval between two dated samples, modulo 2^32 (R123). -/
def interval (later earlier : Seq) : Nat := (later - earlier).toNat

/-- A bay reading: the line's current over one unit's, rounded to the nearest with halfway upward,
saturating at `top` (R44). -/
def lineReading (microamps unit top : Nat) : Nat := min ((microamps + unit / 2) / unit) top

/-- The largest of a list of raw I_OUT values; 0 for none. -/
def largest : List Int → Int
  | [] => 0
  | [x] => x
  | x :: rest => max x (largest rest)

/-- The samples of the history the trip current is taken over: those that end with the sample dated
`back` samples before the newest, at most 16 of them (R121). The history stands newest first. -/
def tripCurrentWindow (history : List RawSample) (back : Nat) : List RawSample :=
  (history.drop back).take Config.tripCurrentSamples

/-- I_trip with its over-range mark (R121). -/
def tripCurrent (history : List RawSample) (back : Nat) : Int × Bool :=
  (largest ((tripCurrentWindow history back).map (·.iOut)), (tripCurrentWindow history back).any (·.iOver))

/-- t_trip: the date less sample 0, the sample after BODY start, and 0 for a trip dated at BODY start
(R122). -/
def tripTime (date bodySeq : Seq) : Nat :=
  if date = bodySeq then 0 else interval date (bodySeq + 1)

end Sys2Proof.Machine
end

