-- ==== Sys2Proof/Machine/Flags.lean ====
section
/-! DEFINITION. The small judgements other files read: access by channel, verdict ranks (R29), the
states in which a walk is active, and the properties of a step that follow from its kind. -/

namespace Sys2Proof.Machine

/-! ## Access by channel, page and slot -/

/-- The entry of a measured channel. -/
def PerChannel.get {α : Type} (p : PerChannel α) : Channel → α
  | .vOut => p.vOut
  | .iOut => p.iOut
  | .vLine => p.vLine
  | .pLine => p.pLine
  | .tInlet => p.tInlet

/-- `p` with another entry for one channel. -/
def PerChannel.put {α : Type} (p : PerChannel α) (c : Channel) (x : α) : PerChannel α :=
  match c with
  | .vOut => { p with vOut := x }
  | .iOut => { p with iOut := x }
  | .vLine => { p with vLine := x }
  | .pLine => { p with pLine := x }
  | .tInlet => { p with tInlet := x }

/-- The entries a function of the channel gives. -/
def PerChannel.tabulate {α : Type} (f : Channel → α) : PerChannel α :=
  ⟨f .vOut, f .iOut, f .vLine, f .pLine, f .tInlet⟩

/-- The other page. -/
def Page.other : Page → Page
  | .a => .b
  | .b => .a

/-- The slots of a page. -/
def PlanStore.page (p : PlanStore) : Page → Vector StepRecord 32
  | .a => p.pageA
  | .b => p.pageB

/-- The step record of a slot (R2); an index above 31 names no slot and reads as empty. -/
def PlanStore.slot (p : PlanStore) (page : Page) (index : Nat) : StepRecord :=
  (p.page page)[index]?.getD StepRecord.empty

/-- The plan store with another record in a slot. -/
def PlanStore.putSlot (p : PlanStore) (page : Page) (index : Nat) (r : StepRecord) : PlanStore :=
  match page with
  | .a => { p with pageA := p.pageA.setIfInBounds index r }
  | .b => { p with pageB := p.pageB.setIfInBounds index r }

/-- A curve table; an id above 7 names none and reads as empty. -/
def PlanStore.curve (p : PlanStore) (id : Nat) : Curve := p.curves[id]?.getD ⟨none, []⟩

/-- A shelf profile; an id above 3 names none and reads as not valid. -/
def PlanStore.profile (p : PlanStore) (id : Nat) : Profile :=
  p.profiles[id]?.getD ⟨false, ⟨0, 0, 0, 0, 0, 0⟩⟩

/-! ## Kinds -/

/-- The kind of a step body. -/
def StepBody.kind : StepBody → Kind
  | .none => .none
  | .hold .. => .hold
  | .ramp .. => .ramp
  | .pulse .. => .pulse
  | .tripSearch .. => .tripSearch
  | .tripTime .. => .tripTime
  | .recover .. => .recover
  | .derate .. => .derate
  | .dropout .. => .dropout

/-- The kind of a step record. -/
def StepRecord.kind (r : StepRecord) : Kind := r.body.kind

/-- I_peak of a step (R48). -/
def StepBody.peak : StepBody → Nat
  | .none => 0
  | .hold iSet => iSet
  | .ramp iFrom iTo _ => max iFrom iTo
  | .pulse _ iHi _ _ _ => iHi
  | .tripSearch _ _ iCeiling _ _ _ _ => iCeiling
  | .tripTime _ iOver _ _ _ _ => iOver
  | .recover iRest _ => iRest
  | .derate _ _ _ _ iCeiling _ _ _ => iCeiling
  | .dropout iHold _ _ _ _ => iHold

/-- The start level of a step (R26). -/
def StepBody.start : StepBody → Nat
  | .none => 0
  | .hold iSet => iSet
  | .ramp iFrom _ _ => iFrom
  | .pulse iLo _ _ _ _ => iLo
  | .tripSearch iFrom _ _ _ _ _ _ => iFrom
  | .tripTime iPre _ _ _ _ _ => iPre
  | .recover _ _ => 0
  | .derate _ _ iFrom _ _ _ _ _ => iFrom
  | .dropout iHold _ _ _ _ => iHold

/-- The gated kinds (R23). -/
def Kind.gated : Kind → Bool
  | .tripSearch | .tripTime | .dropout => true
  | _ => false

/-- The kinds that capture around a trip (R106, R108). -/
def Kind.tripKind : Kind → Bool
  | .tripSearch | .tripTime => true
  | _ => false

/-- The steady-load kinds (Steady-Load Steps). -/
def Kind.steady : Kind → Bool
  | .hold | .ramp | .pulse => true
  | _ => false

/-- The range of a step: HIGH when its I_peak is above 1500 dA (R77). -/
def StepBody.range (b : StepBody) : LoadRange := if 1500 < b.peak then .high else .low

/-- The maximum of a load range (R76). -/
def LoadRange.limit : LoadRange → Nat
  | .low => 1500
  | .high => 12000

/-! ## Walk states, units and verdicts -/

/-- Whether a walk is active (R16). -/
def WalkState.active : WalkState → Bool
  | .running | .paused | .pageWait | .winddown => true
  | .idle | .held => false

/-- Whether the own census unit is on the line (R58). -/
def OwnUnit.asserted : OwnUnit → Bool
  | .released => false
  | _ => true

/-- The unit after an event that would assert it for a reason: TRIP stands above GATE, and GATE above
ATTEMPT (R58). -/
def OwnUnit.assertFor (u reason : OwnUnit) : OwnUnit :=
  match u, reason with
  | .trip, _ => .trip
  | _, .trip => .trip
  | .gate, _ => .gate
  | _, .gate => .gate
  | _, r => r

/-- The rank of a contribution, 1 the highest (R29). -/
def Verdict.rank : Verdict → Nat
  | .aborted => 1
  | .timeout | .noRecovery => 2
  | .denied | .overBay => 3
  | .unexpectedTrip => 4
  | .tripCurrent | .tripEarly | .noTrip | .derateLow | .derateHigh | .noKnee | .holdup => 5
  | .limit => 6
  | .pass => 7

/-- The verdict of a step: the highest-ranking of its contributions, PASS when there is none (R29). -/
def verdictOf (contributions : List Verdict) : Verdict :=
  contributions.foldl (fun best v => if v.rank < best.rank then v else best) .pass

/-- Whether a verdict is failing (R29). -/
def Verdict.failing (v : Verdict) : Bool := v != .pass

/-- The phases of a step in progress in which the drive is the step's own: a halt is made only in
these (R75). -/
def Phase.drives : Phase → Bool
  | .applying | .settle | .body | .exiting => true
  | _ => false

/-- The source channels of a check channel (R93, R96). -/
def CheckChannel.sources : CheckChannel → List Channel
  | .measured c => [c]
  | .pOut => [.vOut, .iOut]
  | .eff => [.vOut, .iOut, .pLine]

/-- Whether a detect source includes collapse (R140). -/
def Detect.takesCollapse : Detect → Bool
  | .collapse | .either => true
  | .alarm => false

/-- Whether a detect source includes the alarm (R140). -/
def Detect.takesAlarm : Detect → Bool
  | .alarm | .either => true
  | .collapse => false

end Sys2Proof.Machine
end

