-- ==== Sys2Proof/Machine/BayLines.lean ====
section
/-! DEFINITION. The bay interface's own operations (R44 to R69), each on the bay record alone: readings,
the driven claim, the own census unit, and the admission and gate protocols. Spans are given in
samples; the walk engine's operations take them from the configuration. -/

namespace Sys2Proof.Machine

/-! ## The own unit (R46, R58) -/

/-- The unit is asserted for a reason (R58). -/
def Bay.assertUnit (b : Bay) (reason : OwnUnit) : Bay := { b with ownUnit := b.ownUnit.assertFor reason }

/-- The unit is released, and the span in which its fading contribution is still counted begins (R46).
A unit that is not asserted releases nothing. -/
def Bay.releaseUnit (b : Bay) (settle : Nat) : Bay :=
  if b.ownUnit.asserted then
    { b with ownUnit := .released, releaseSpan := if settle = 0 then none else some settle }
  else b

/-- Whether census_others is computed with the own unit subtracted: while it is asserted, and in the
span after its release (R46). -/
def Bay.countsOwn (b : Bay) : Bool :=
  b.ownUnit.asserted ||
    match b.releaseSpan with
    | some n => n != 0
    | none => false

/-- census_others of a census reading (R46). -/
def Bay.othersOf (b : Bay) (reading : Nat) : Nat := reading - (if b.countsOwn then 1 else 0)

/-! ## What the lines carry of this station (R45) -/

/-- The contribution has changed to a value since the last sample: the old one fades for `settle`
samples. -/
def Contribution.move (c : Contribution) (value settle : Nat) : Contribution :=
  if value = c.current then c else ⟨value, (c.current, settle) :: c.fading⟩

/-- One sample less for every old value. A value whose change is line_settle old is gone. -/
def Contribution.tick (c : Contribution) : Contribution :=
  { c with fading := (c.fading.map (fun v => (v.1, v.2 - 1))).filter (fun v => v.2 != 0) }

/-- The contribution a reading shows: the newest, or the older one a lag names while it may still be
shown. -/
def Contribution.shown (c : Contribution) : Nat → Nat
  | 0 => c.current
  | lag + 1 => (c.fading[lag]?.map (·.1)).getD c.current

/-- The census units this station puts on the census line. -/
def Bay.censusUnits (b : Bay) : Nat := if b.ownUnit.asserted then 1 else 0

/-- The lines take over this station's contributions as they stand. -/
def Bay.moveLines (b : Bay) (settle : Nat) : Bay :=
  { b with
    claimOnLine := b.claimOnLine.move b.drivenClaim settle
    censusOnLine := b.censusOnLine.move b.censusUnits settle }

/-- One sample of the lines: changes since the last sample reach them, and old values fade (R45). -/
def Bay.tickLines (b : Bay) (settle : Nat) : Bay :=
  let b := b.moveLines settle
  { b with claimOnLine := b.claimOnLine.tick, censusOnLine := b.censusOnLine.tick }

/-- The current on the claim line that a reading shows, in microamperes (R44, R45). -/
def Bay.claimCurrent (b : Bay) (peers lag : Nat) : Nat :=
  peers + Config.claimUnitMicroamps * b.claimOnLine.shown lag

/-- The current on the census line that a reading shows, in microamperes (R44, R45). -/
def Bay.censusCurrent (b : Bay) (peers lag : Nat) : Nat :=
  peers + Config.censusUnitMicroamps * b.censusOnLine.shown lag

/-- The bay interface after a reset that finds the given one: its reset values, with what the lines may
still show of the contributions that the reset took away (R45, R69). -/
def Bay.resetFrom (b : Bay) (address settle : Nat) : Bay :=
  let b := b.moveLines settle
  { Bay.reset address with
    claimOnLine := b.claimOnLine.move 0 settle
    censusOnLine := b.censusOnLine.move 0 settle }

/-! ## One sample (R44, R47, R59) -/

/-- The protocol count at a sample: one sample less of a wait, or one quiet sample more, the quiet
count going back to 0 at a census_others of 1 or more (R47, R59). -/
def Bay.tickProtocol (b : Bay) : Bay :=
  match b.protocol with
  | .idle => b
  | .quiet => { b with protocolCount := if b.censusOthers = 0 then b.protocolCount + 1 else 0 }
  | _ => { b with protocolCount := b.protocolCount - 1 }

/-- The bay interface at one sample: the span after a release runs, both lines are read with this
station's own contribution in them, and the protocol counts (R44 to R47). -/
def Bay.sample (b : Bay) (i : SampleInput) (settle : Nat) : Bay :=
  let b := { b.tickLines settle with releaseSpan := b.releaseSpan.map (· - 1) }
  let reading := lineReading (b.censusCurrent i.peersCensus i.censusLag) Config.censusUnitMicroamps 16
  { b with
    bayTotal := lineReading (b.claimCurrent i.peersClaim i.claimLag) Config.claimUnitMicroamps 2047
    censusReading := reading
    censusOthers := b.othersOf reading }.tickProtocol

/-! ## Claims (R49) -/

/-- The driven claim lowered to a claim below it (R49). -/
def Bay.lowerClaim (b : Bay) (claim : Nat) : Bay := { b with drivenClaim := min b.drivenClaim claim }

/-! ## Admission (R51 to R55) -/

/-- ADMIT entry: the driven claim saved, both attempt counts 0 (R51). DESIGN CHOICE (notes/assumptions/46.md): the
claim so saved stands until the next ADMIT entry or reset, also between steps, of which R47 says nothing. -/
def Bay.admitEntry (b : Bay) : Bay :=
  { b with priorClaim := b.drivenClaim, admissionAttempts := 0, gateAttempts := 0 }

/-- An admission attempt begins: counted, the step claim driven, RAISING (R52). -/
def Bay.raise (b : Bay) (claim settle : Nat) : Bay :=
  { b with
    admissionAttempts := b.admissionAttempts + 1
    drivenClaim := claim
    protocol := .raising
    protocolCount := settle }

/-- The protocol state returns to IDLE (R52, R54, R55, R60, R61, R63, R66). DESIGN CHOICE
(notes/assumptions/46.md): the protocol count, which R47 describes for the other states alone, is 0 in IDLE. -/
def Bay.idleProtocol (b : Bay) : Bay := { b with protocol := .idle, protocolCount := 0 }

/-- The driven claim withdrawn to the prior claim (R49). -/
def Bay.withdraw (b : Bay) : Bay := { b with drivenClaim := b.priorClaim }

/-- The wait of a failed admission attempt (R53). -/
def Bay.enterBackoff (b : Bay) (slotSamples : Nat) : Bay :=
  { b with
    protocol := .backoff
    protocolCount := backoffSlots b.address b.admissionAttempts * slotSamples }

/-! ## Gate (R59 to R63) -/

/-- A gate attempt begins with its quiet wait (R59), with gate_quiet 0 too (DESIGN CHOICE,
notes/assumptions/45.md). -/
def Bay.enterQuiet (b : Bay) : Bay := { b with protocol := .quiet, protocolCount := 0 }

/-- The quiet wait has ended: the attempt is counted and the unit asserted (R60). -/
def Bay.enterAsserting (b : Bay) (settle : Nat) : Bay :=
  { b with
    gateAttempts := b.gateAttempts + 1
    ownUnit := b.ownUnit.assertFor .attempt
    protocol := .asserting
    protocolCount := settle }

/-- A unit asserted by the attempt in progress is released; a TRIP unit is kept (R61, R63). -/
def Bay.releaseAttempt (b : Bay) (settle : Nat) : Bay :=
  if b.ownUnit = .attempt then b.releaseUnit settle else b

/-- The wait of a failed gate attempt (R61). -/
def Bay.enterGateBackoff (b : Bay) (slotSamples : Nat) : Bay :=
  { b with
    protocol := .gateBackoff
    protocolCount := backoffSlots b.address b.gateAttempts * slotSamples }

/-- Time limit expiry or ABORT stops the protocol in the state it finds (R55, R63). -/
def Bay.cutOff (b : Bay) (settle : Nat) : Bay :=
  match b.protocol with
  | .raising => b.withdraw.idleProtocol
  | .asserting => (b.releaseAttempt settle).idleProtocol
  | _ => b.idleProtocol

/-- The WINDDOWN releases and the interlock opening: claim 0, unit released, protocol IDLE (R49,
R66). -/
def Bay.releaseAll (b : Bay) (settle : Nat) : Bay :=
  { b with drivenClaim := 0 }.releaseUnit settle |>.idleProtocol

end Sys2Proof.Machine
end

