-- ==== Sys2Proof/WellFormed.lean ====
section
/-! DEFINITION. Which commands a sender can send: the relations between a command's operands that the
types do not carry. The meanings are total, so these are no hypotheses of theirs. -/

namespace Sys2Proof

/-- The codes of the command summary (R174). -/
def commandCodes : List Byte :=
  [0x01, 0x02, 0x08, 0x10, 0x11, 0x12, 0x13, 0x20, 0x21, 0x22, 0x23, 0x24, 0x28, 0x29, 0x3F]

/-- A complete transaction has clocked at least 64 whole bytes and an incomplete one fewer (R170),
a BAD_COMMAND code is none of the summary's (R173), and a WRITE_CURVE frame has twelve point slots
(R187). -/
def Instr.wellFormed : Instr → Bool
  | .transactionComplete bytes _ => decide (Config.frameBytes ≤ bytes.length)
  | .transactionIncomplete wholeBytes => decide (wholeBytes < Config.frameBytes)
  | .badCommand code => !commandCodes.contains code
  | .writeCurve f => decide (f.points.length = 12)
  | _ => true

end Sys2Proof
end

