-- ==== Sys2Proof/Machine/Operands.lean ====
section
/-! DEFINITION. Frames and their layouts (R186 to R189): the codes of named values, the reading of an
incoming 64-byte frame as a command with its raw fields, the writing of one, and the bytes of every
outgoing record. -/

namespace Sys2Proof.Machine

/-! ## Codes (R186) -/

/-- The code of a page, FFh for none. -/
def pageCode : Option Page → Nat
  | some .a => 0
  | some .b => 1
  | none => 255

/-- The code of an index, FFh for none. -/
def indexCode (i : Option Nat) : Nat := i.getD 255

def Kind.code : Kind → Nat
  | .none => 0
  | .hold => 1
  | .ramp => 2
  | .pulse => 3
  | .tripSearch => 4
  | .tripTime => 5
  | .recover => 6
  | .derate => 7
  | .dropout => 8

def TripSource.code : TripSource → Nat
  | .collapse => 1
  | .alarm => 2
  | .both => 3

def LoadRange.code : LoadRange → Nat
  | .low => 0
  | .high => 1

def WalkState.code : WalkState → Nat
  | .idle => 0
  | .running => 1
  | .paused => 2
  | .pageWait => 3
  | .winddown => 4
  | .held => 5

def Phase.code : Phase → Nat
  | .none => 0
  | .admitting => 1
  | .backoff => 2
  | .gate => 3
  | .gateBackoff => 4
  | .applying => 5
  | .settle => 6
  | .body => 7
  | .exiting => 8
  | .outputStall => 9

def OwnUnit.code : OwnUnit → Nat
  | .released => 0
  | .attempt => 1
  | .gate => 2
  | .trip => 3

def Answer.code : Answer → Nat
  | .ok => 0
  | .badCommand => 1
  | .badField _ => 2
  | .inUse => 3
  | .busy => 4
  | .held => 5
  | .notHeld => 6
  | .notConfigured => 7
  | .alreadySet => 8
  | .interlock => 9
  | .noWalk => 10
  | .gated => 11
  | .emptyStep => 12
  | .chainArmed => 13

/-- The field number an ANSWER carries: 0 but for BAD_FIELD (R178). -/
def Answer.field : Answer → Nat
  | .badField n => n
  | _ => 0

def Verdict.code : Verdict → Nat
  | .pass => 0
  | .limit => 1
  | .tripCurrent => 2
  | .tripEarly => 3
  | .noTrip => 4
  | .derateLow => 5
  | .derateHigh => 6
  | .noKnee => 7
  | .holdup => 8
  | .noRecovery => 9
  | .unexpectedTrip => 10
  | .denied => 11
  | .overBay => 12
  | .timeout => 13
  | .aborted => 14

def Reason.code : Reason → Nat
  | .pass => 0
  | .fail => 1
  | .aborted => 2
  | .interlock => 3
  | .starved => 4
  | .emptyStep => 5

def TripSpan.code : TripSpan → Nat
  | .lead => 0
  | .off => 1
  | .restore => 2

def bitCode (b : Bool) : Nat := if b then 1 else 0

/-! ## Bytes -/

/-- `n` bytes of a natural number, most significant first (R186). -/
def natBytes : Nat → Nat → List Byte
  | 0, _ => []
  | n + 1, v => BitVec.ofNat 8 (v / 256 ^ n) :: natBytes n v

/-- `n` bytes of an integer in two's complement, most significant first (R186). -/
def intBytes (n : Nat) (v : Int) : List Byte := natBytes n (v % (256 ^ n : Nat)).toNat

/-- `n` bytes of an optional figure; the value bytes of an absent one are 00h (R183, R186). -/
def optBytes (n : Nat) (v : Option Nat) : List Byte := natBytes n (v.getD 0)

/-- As `optBytes`, for a signed figure. -/
def optIntBytes (n : Nat) (v : Option Int) : List Byte := intBytes n (v.getD 0)

/-- A frame: the given bytes, with 00h in the bytes that carry no field (R186). -/
def toFrame (bytes : List Byte) : List Byte :=
  bytes.take Config.frameBytes ++ List.replicate (Config.frameBytes - bytes.length) 0

/-! ## Incoming frames (R187) -/

/-- Byte `i` of a frame. -/
def byteAt (frame : List Byte) (i : Nat) : Byte := frame.getD i 0

/-- The two-byte field at `i`, most significant byte first. -/
def field16 (frame : List Byte) (i : Nat) : BitVec 16 := byteAt frame i ++ byteAt frame (i + 1)

/-- The four-byte field at `i`, most significant byte first. -/
def field32 (frame : List Byte) (i : Nat) : BitVec 32 := field16 frame i ++ field16 frame (i + 2)

/-- The check entry at `i`. -/
def checkAt (frame : List Byte) (i : Nat) : CheckFields where
  channel := byteAt frame i
  statistic := byteAt frame (i + 1)
  low := field32 frame (i + 2)
  high := field32 frame (i + 6)

/-- The fields of a WRITE_STEP frame. -/
def stepFields (frame : List Byte) : StepFields where
  page := byteAt frame 1
  index := byteAt frame 2
  kind := byteAt frame 3
  tag := byteAt frame 4
  nextPass := byteAt frame 5
  nextFail := byteAt frame 6
  timeLimit := field32 frame 7
  lineSetpoint := field16 frame 11
  window := field16 frame 13
  captureBlocks := byteAt frame 15
  checkCount := byteAt frame 16
  check1 := checkAt frame 17
  check2 := checkAt frame 27
  check3 := checkAt frame 37
  k24 := field16 frame 48
  k25 := field16 frame 50
  k26 := field16 frame 52
  k27 := field16 frame 54
  k28 := field16 frame 56
  k29 := field16 frame 58
  k30 := field16 frame 60
  k31 := field16 frame 62

/-- The fields of a WRITE_CURVE frame: point k at bytes 4k to 4k + 3. -/
def curveFields (frame : List Byte) : CurveFields where
  curve := byteAt frame 1
  axis := byteAt frame 2
  n := byteAt frame 3
  points := [4, 8, 12, 16, 20, 24, 28, 32, 36, 40, 44, 48].map
    (fun i => (field16 frame i, field16 frame (i + 2)))

/-- The fields of a WRITE_PROFILE frame. -/
def profileFields (frame : List Byte) : ProfileFields where
  profile := byteAt frame 1
  pRated := field16 frame 2
  vNom := field16 frame 4
  vRegLow := field16 frame 6
  vCollapse := field16 frame 8
  iMax := field16 frame 10
  lineNominal := field16 frame 12

/-- The fields of a WRITE_CHANNEL frame. -/
def channelFields (frame : List Byte) : ChannelFields where
  channel := byteAt frame 1
  gain := field32 frame 2
  offset := field32 frame 6
  averaging := byteAt frame 10
  settle := field16 frame 11
  rangeSettle := field16 frame 13
  policy := byteAt frame 15

/-- The fields of a CONFIGURE frame. -/
def configFields (frame : List Byte) : ConfigFields where
  limit := field16 frame 1
  lineSettle := byteAt frame 3
  backoffUnit := byteAt frame 4
  attemptLimit := byteAt frame 5
  gateQuiet := field16 frame 6
  alarmPolarity := byteAt frame 8

/-- The fields of a START_WALK frame. -/
def startFields (frame : List Byte) : StartFields where
  page := byteAt frame 1
  index := byteAt frame 2
  profile := byteAt frame 3
  restLevel := field16 frame 4
  safeSlope := field16 frame 6
  pageWaitLimit := field16 frame 8
  stopOnFail := byteAt frame 10
  chain := byteAt frame 11

/-- The command an incoming frame carries: byte 0 is the command code, and a code outside the command
summary is a BAD_COMMAND (R173, R174). -/
def frameCommand (frame : List Byte) (straps : BitVec 4) : Instr :=
  match (byteAt frame 0).toNat with
  | 0x01 => .nop
  | 0x02 => .status
  | 0x08 => .configure (configFields frame)
  | 0x10 => .writeStep (stepFields frame)
  | 0x11 => .writeCurve (curveFields frame)
  | 0x12 => .writeProfile (profileFields frame)
  | 0x13 => .writeChannel (channelFields frame)
  | 0x20 => .startWalk (startFields frame)
  | 0x21 => .pause
  | 0x22 => .resume
  | 0x23 => .abort
  | 0x24 => .release
  | 0x28 => .armChain
  | 0x29 => .disarmChain
  | 0x3F => .reset straps
  | _ => .badCommand (byteAt frame 0)

/-! ## Writing an incoming frame -/

/-- The two bytes of a field. -/
def bytes16 (v : BitVec 16) : List Byte := [v.extractLsb' 8 8, v.extractLsb' 0 8]

/-- The four bytes of a field. -/
def bytes32 (v : BitVec 32) : List Byte :=
  [v.extractLsb' 24 8, v.extractLsb' 16 8, v.extractLsb' 8 8, v.extractLsb' 0 8]

/-- The ten bytes of a check entry. -/
def checkBytes (c : CheckFields) : List Byte := [c.channel, c.statistic] ++ bytes32 c.low ++ bytes32 c.high

/-- The bytes of a command frame before its trailing zeros (R187); `none` for a command that no frame
carries. -/
def commandBytes : Instr → Option (List Byte)
  | .nop => some [0x01]
  | .status => some [0x02]
  | .configure f =>
    some ([0x08] ++ bytes16 f.limit ++ [f.lineSettle, f.backoffUnit, f.attemptLimit]
      ++ bytes16 f.gateQuiet ++ [f.alarmPolarity])
  | .writeStep f =>
    some ([0x10, f.page, f.index, f.kind, f.tag, f.nextPass, f.nextFail] ++ bytes32 f.timeLimit
      ++ bytes16 f.lineSetpoint ++ bytes16 f.window ++ [f.captureBlocks, f.checkCount]
      ++ checkBytes f.check1 ++ checkBytes f.check2 ++ checkBytes f.check3 ++ [0]
      ++ bytes16 f.k24 ++ bytes16 f.k25 ++ bytes16 f.k26 ++ bytes16 f.k27
      ++ bytes16 f.k28 ++ bytes16 f.k29 ++ bytes16 f.k30 ++ bytes16 f.k31)
  | .writeCurve f =>
    some ([0x11, f.curve, f.axis, f.n]
      ++ (f.points.map (fun p => bytes16 p.1 ++ bytes16 p.2)).flatten)
  | .writeProfile f =>
    some ([0x12, f.profile] ++ bytes16 f.pRated ++ bytes16 f.vNom ++ bytes16 f.vRegLow
      ++ bytes16 f.vCollapse ++ bytes16 f.iMax ++ bytes16 f.lineNominal)
  | .writeChannel f =>
    some ([0x13, f.channel] ++ bytes32 f.gain ++ bytes32 f.offset ++ [f.averaging]
      ++ bytes16 f.settle ++ bytes16 f.rangeSettle ++ [f.policy])
  | .startWalk f =>
    some ([0x20, f.page, f.index, f.profile] ++ bytes16 f.restLevel ++ bytes16 f.safeSlope
      ++ bytes16 f.pageWaitLimit ++ [f.stopOnFail, f.chain])
  | .pause => some [0x21]
  | .resume => some [0x22]
  | .abort => some [0x23]
  | .release => some [0x24]
  | .armChain => some [0x28]
  | .disarmChain => some [0x29]
  | .reset _ => some [0x3F]
  | .badCommand code => some [code]
  | _ => none

/-- The 64-byte frame of a command (R187). -/
def commandFrame (i : Instr) : Option (List Byte) := (commandBytes i).map toFrame

/-! ## Outgoing frames (R188, R189) -/

/-- The bytes of a check result: statistic in 3 bytes and flags; 00h when not evaluated (R188). The flags bits 3 to 7,
which the layout does not name, are 0 (DESIGN CHOICE, notes/assumptions/44.md). -/
def checkResultBytes (c : CheckResult) : List Byte :=
  if c.evaluated then
    intBytes 3 c.statistic ++ natBytes 1 (1 + 2 * bitCode c.pass + 4 * bitCode c.mark)
  else natBytes 4 0

/-- The bytes of the three check entries; those beyond the list are 00h (R188). -/
def checkResultsBytes (cs : List CheckResult) : List Byte :=
  ((cs.map checkResultBytes).flatten ++ List.replicate 12 0).take 12

/-- The trip bytes 45 to 51: source, date and I_trip (R188). -/
def tripBytes : Option Trip → List Byte
  | some t => natBytes 1 t.source.code ++ natBytes 4 t.date.toNat ++ intBytes 2 t.iTrip
  | none => natBytes 7 0

/-- Flags byte 20 of a STEP_RESULT (R188). Bits 6 and 7, which the layout does not name, are 0 (DESIGN CHOICE,
notes/assumptions/44.md). -/
def resultFlags (r : StepResult) : Nat :=
  bitCode r.clamped + 2 * bitCode r.censusHeld + 4 * bitCode r.figures.curveMissing
    + 8 * bitCode r.figures.trip.isSome + 16 * bitCode ((r.figures.trip.map (·.mark)).getD false)
    + 32 * bitCode r.figures.tUsedMark

/-- Presence byte 21 of a STEP_RESULT (R188). -/
def resultPresence (r : StepResult) : Nat :=
  bitCode r.figures.tTrip.isSome + 2 * bitCode r.figures.recovery.isSome
    + 4 * bitCode r.figures.watchMin.isSome + 8 * bitCode r.figures.vRef.isSome
    + 16 * bitCode r.figures.tUsed.isSome + 32 * bitCode r.figures.pExp.isSome
    + 64 * bitCode r.figures.pKnee.isSome + 128 * bitCode r.figures.vMin.isSome

/-- The kind fields from byte 52 (R188). -/
def kindBytes (r : StepResult) : List Byte :=
  match r.kind with
  | .pulse => natBytes 2 r.cycles
  | .tripTime => optBytes 3 r.figures.tTrip
  | .recover => optBytes 3 r.figures.recovery ++ optIntBytes 2 r.figures.watchMin
  | .derate => optIntBytes 2 r.figures.vRef ++ optIntBytes 2 r.figures.tUsed
      ++ optBytes 2 r.figures.pExp ++ optBytes 3 r.figures.pKnee
  | .dropout => optIntBytes 2 r.figures.vMin ++ natBytes 1 ((r.figures.tripSpan.map (·.code)).getD 0)
  | _ => []

/-- Bytes 7 to 63 of a STEP_RESULT (R188). -/
def stepResultBytes (r : StepResult) : List Byte :=
  natBytes 1 (pageCode (some r.page)) ++ natBytes 1 r.index ++ natBytes 1 r.tag ++ natBytes 1 r.kind.code
    ++ natBytes 1 r.verdict.code ++ natBytes 1 r.endPhase.code ++ natBytes 3 r.duration
    ++ natBytes 2 r.exitLevel ++ natBytes 1 r.admissionAttempts ++ natBytes 1 r.gateAttempts
    ++ natBytes 1 (resultFlags r) ++ natBytes 1 (resultPresence r)
    ++ natBytes 1 r.posted ++ natBytes 1 r.dropped
    ++ natBytes 3 r.windowCount ++ natBytes 3 r.restarts ++ natBytes 3 r.disturbed
    ++ checkResultsBytes r.checks ++ tripBytes r.figures.trip ++ kindBytes r

/-- Bytes 7 to 63 of a WALK_SUMMARY (R188). -/
def walkSummaryBytes (w : WalkSummary) : List Byte :=
  natBytes 1 (bitCode (!w.verdictPass)) ++ natBytes 1 w.reason.code ++ natBytes 4 w.stepsRun
    ++ natBytes 4 w.stepsFailed ++ natBytes 1 (pageCode (w.firstFail.map (·.1)))
    ++ natBytes 1 (indexCode (w.firstFail.map (·.2)))

/-- The I_OUT word of a pair (R189). -/
def currentWord (p : RawSample) : Nat :=
  p.iOut.toNat % 16384 + 16384 * bitCode p.disturbed + 32768 * bitCode p.iOver

/-- The V_OUT over-range mask of a block, pair 1 in bit 0 (R189). -/
def voltageMask : List RawSample → Nat
  | [] => 0
  | p :: rest => bitCode p.vOver + 2 * voltageMask rest

/-- Bytes 7 to 63 of a CAPTURE_BLOCK (R189). -/
def captureBlockBytes (b : CaptureBlock) : List Byte :=
  natBytes 4 ((b.samples.head?.map (·.seq.toNat)).getD 0) ++ natBytes 1 b.tag ++ natBytes 1 b.index
    ++ natBytes 1 (128 * ((b.samples.head?.map (·.range.code)).getD 0) + b.samples.length)
    ++ natBytes 2 (voltageMask b.samples)
    ++ (b.samples.map (fun p => intBytes 2 p.vOut ++ natBytes 2 (currentWord p))).flatten

/-- Bytes 10 to 29 of the ANSWER to STATUS (R188). -/
def snapshotBytes (p : Snapshot) : List Byte :=
  natBytes 1 p.walk.code ++ natBytes 1 p.phase.code ++ natBytes 1 (pageCode p.page)
    ++ natBytes 1 (indexCode p.index) ++ natBytes 1 p.drivenClaim ++ natBytes 2 p.bayTotal
    ++ natBytes 1 p.censusReading ++ natBytes 1 p.censusOthers ++ natBytes 1 p.ownUnit.code
    ++ natBytes 1 p.admissionAttempts ++ natBytes 1 p.gateAttempts ++ natBytes 4 p.level
    ++ natBytes 1 p.range.code ++ natBytes 1 p.queueCount ++ natBytes 1 (bitCode p.interlockOpen)
    ++ natBytes 1 p.address

/-- Bytes 7 to 63 of an ANSWER (R188). -/
def answerBytes (a : AnswerRecord) : List Byte :=
  [a.code] ++ natBytes 1 a.answer.code ++ natBytes 1 a.answer.field
    ++ ((a.snapshot.map snapshotBytes).getD [])

/-- The record type code of a queue record (R183). -/
def Record.typeCode : Record → Nat
  | .stepLevel (.stepResult _) => 0x90
  | .stepLevel (.walkSummary _) => 0x92
  | .stepLevel (.pageSwap _) => 0x93
  | .captureBlock _ => 0x94

/-- Bytes 7 to 63 of a queue record (R188, R189). -/
def Record.bytes : Record → List Byte
  | .stepLevel (.stepResult r) => stepResultBytes r
  | .stepLevel (.walkSummary w) => walkSummaryBytes w
  | .stepLevel (.pageSwap p) => natBytes 1 (pageCode (some p))
  | .captureBlock b => captureBlockBytes b

/-- The step index shown (R19, R175). DESIGN CHOICE (notes/assumptions/33.md): while a PAGE_SWAP waits in
OUTPUT_STALL in RUNNING no step's result waits, and the index of the last step that entered ADMIT is
shown. -/
def Engine.shownIndex (e : Engine) : Option Nat :=
  if e.walk = .paused then some e.resumeIndex else e.lastIndex

/-- The status header in bytes 0 to 6 of an outgoing frame (R175, R188). -/
def headerBytes (s : State) (typeCode : Nat) : List Byte :=
  natBytes 1 typeCode ++ natBytes 1 s.engine.walk.code ++ natBytes 1 (pageCode s.engine.page)
    ++ natBytes 1 (indexCode s.engine.shownIndex) ++ natBytes 1 s.engine.phase.code
    ++ natBytes 1 s.queue.length
    ++ natBytes 1 (bitCode (s.engine.walk == .held) + 2 * bitCode s.store.config.isSome)

end Sys2Proof.Machine
end

