-- ==== Sys2Proof/Machine/Examine.lean ====
section
/-! DEFINITION. Examination of the commands that carry fields (R1): the accepted values of every field
in ascending field number, the guards, and the stored values of an accepted write. -/

namespace Sys2Proof.Machine

/-! ## Field values from codes (R186) -/

def Page.ofCode (b : Byte) : Option Page :=
  match b.toNat with
  | 0 => some .a
  | 1 => some .b
  | _ => none

def Kind.ofCode (b : Byte) : Option Kind :=
  match b.toNat with
  | 0 => some .none
  | 1 => some .hold
  | 2 => some .ramp
  | 3 => some .pulse
  | 4 => some .tripSearch
  | 5 => some .tripTime
  | 6 => some .recover
  | 7 => some .derate
  | 8 => some .dropout
  | _ => Option.none

/-- The five channels a WRITE_CHANNEL may name (R13). -/
def channelOfCode (b : Byte) : Option Channel :=
  match b.toNat with
  | 0 => some .vOut
  | 1 => some .iOut
  | 2 => some .vLine
  | 3 => some .pLine
  | 4 => some .tInlet
  | _ => none

/-- The seven channels a check may name (R4). -/
def CheckChannel.ofCode (b : Byte) : Option CheckChannel :=
  match b.toNat with
  | 5 => some .pOut
  | 6 => some .eff
  | _ => (channelOfCode b).map .measured

def Statistic.ofCode (b : Byte) : Option Statistic :=
  match b.toNat with
  | 0 => some .mean
  | 1 => some .minimum
  | 2 => some .maximum
  | _ => none

def Detect.ofCode (v : BitVec 16) : Option Detect :=
  match v.toNat with
  | 1 => some .collapse
  | 2 => some .alarm
  | 3 => some .either
  | _ => none

def Axis.ofCode (b : Byte) : Option Axis :=
  match b.toNat with
  | 0 => some .voltage
  | 1 => some .temperature
  | _ => none

def Policy.ofCode (b : Byte) : Option Policy :=
  match b.toNat with
  | 0 => some .restart
  | 1 => some .mark
  | _ => none

def Polarity.ofCode (b : Byte) : Option Polarity :=
  match b.toNat with
  | 0 => some .activeHigh
  | 1 => some .activeLow
  | _ => none

/-- NO or YES. -/
def yesOfCode (b : Byte) : Option Bool :=
  match b.toNat with
  | 0 => some false
  | 1 => some true
  | _ => none

/-! ## The order of examination (R1) -/

/-- The number of the first field that fails, of fields given with whether they pass (R1). -/
def firstFailure : List (Nat × Bool) → Option Nat
  | [] => none
  | (n, ok) :: rest => if ok then firstFailure rest else some n

/-- The refusal of a list of fields: BAD_FIELD with the first failing one (R1). -/
def fieldRefusal (fields : List (Nat × Bool)) : Option Answer := (firstFailure fields).map .badField

/-- A value in an inclusive range. -/
def between (lo hi v : Nat) : Bool := decide (lo ≤ v ∧ v ≤ hi)

/-! ## WRITE_STEP -/

/-- The four fields of a check entry from field number `n` (R4). -/
def checkFields (n : Nat) (c : CheckFields) : List (Nat × Bool) :=
  let range := checkRange ((CheckChannel.ofCode c.channel).getD .eff)
  [ (n, (CheckChannel.ofCode c.channel).isSome),
    (n + 1, (Statistic.ofCode c.statistic).isSome),
    (n + 2, decide (range.1 ≤ c.low.toInt ∧ c.low.toInt ≤ range.2)),
    (n + 3, decide (range.1 ≤ c.high.toInt ∧ c.high.toInt ≤ range.2 ∧ c.low.toInt ≤ c.high.toInt)) ]

/-- The present check entries of a frame, in order: the first check_count of the three (R4). -/
def presentChecks (f : StepFields) : List CheckFields :=
  [f.check1, f.check2, f.check3].take f.checkCount.toNat

/-- The fields of the present check entries: entry k from field 8 + 4k (R4). -/
def checkListFields (f : StepFields) : List (Nat × Bool) :=
  (if 1 ≤ f.checkCount.toNat then checkFields 12 f.check1 else [])
    ++ (if 2 ≤ f.checkCount.toNat then checkFields 16 f.check2 else [])
    ++ (if 3 ≤ f.checkCount.toNat then checkFields 20 f.check3 else [])

/-- Whether a curve reference passes: the id is 0 to 7, and the curve is empty or its axis is not the
wrong one (R8). -/
def curveRefOk (store : PlanStore) (id : Nat) (wrong : Axis) : Bool :=
  decide (id ≤ 7) && ((store.curve id).points.isEmpty || (store.curve id).axis != some wrong)

/-- The kind-specific fields (R5 to R8). -/
def kindFields (store : PlanStore) (f : StepFields) : Kind → List (Nat × Bool)
  | .none => []
  | .hold => [(24, between 0 12000 f.k24.toNat)]
  | .ramp =>
    [(24, between 0 12000 f.k24.toNat), (25, between 0 12000 f.k25.toNat), (26, between 1 20000 f.k26.toNat)]
  | .pulse =>
    [ (24, between 0 12000 f.k24.toNat), (25, between f.k24.toNat 12000 f.k25.toNat),
      (26, between 2 60000 f.k26.toNat), (27, between 1 (f.k26.toNat - 1) f.k27.toNat), (28, true) ]
  | .tripSearch =>
    [ (24, between 0 12000 f.k24.toNat), (25, between 1 20000 f.k25.toNat),
      (26, between (f.k24.toNat + 1) 12000 f.k26.toNat), (27, (Detect.ofCode f.k27).isSome),
      (28, between 1 65000 f.k28.toNat), (29, between 0 12000 f.k29.toNat),
      (30, between f.k29.toNat 12000 f.k30.toNat) ]
  | .tripTime =>
    [ (24, between 0 12000 f.k24.toNat), (25, between (f.k24.toNat + 1) 12000 f.k25.toNat),
      (26, (Detect.ofCode f.k26).isSome), (27, between 1 65000 f.k27.toNat),
      (28, between 1 65535 f.k28.toNat), (29, between f.k28.toNat 65535 f.k29.toNat) ]
  | .recover => [(24, between 0 12000 f.k24.toNat), (25, between 0 5000 f.k25.toNat)]
  | .derate =>
    [ (24, curveRefOk store f.k24.toNat .temperature),
      (25, f.k25.toNat == 255 || curveRefOk store f.k25.toNat .voltage),
      (26, between 0 12000 f.k26.toNat), (27, between 1 20000 f.k27.toNat),
      (28, between (f.k26.toNat + 1) 12000 f.k28.toNat), (29, between 100 10000 f.k29.toNat),
      (30, between 0 500 f.k30.toNat), (31, between 0 500 f.k31.toNat) ]
  | .dropout =>
    [ (24, between 0 12000 f.k24.toNat), (25, between 0 10000 f.k25.toNat),
      (26, between 1 5000 f.k26.toNat), (27, between 1 10000 f.k27.toNat),
      (28, between 0 65000 f.k28.toNat) ]

/-- Whether a line_setpoint passes: 0, or 1800 to 3050, and not 0 for DERATE (R3). -/
def lineSetpointOk (k : Kind) (v : Nat) : Bool := between 1800 3050 v || (v == 0 && k != .derate)

/-- The fields of WRITE_STEP after the kind, for a kind other than NONE (R3). -/
def stepFieldList (store : PlanStore) (f : StepFields) (k : Kind) : List (Nat × Bool) :=
  [ (5, between 0 33 f.nextPass.toNat), (6, between 0 33 f.nextFail.toNat),
    (7, between 1 600000 f.timeLimit.toNat), (8, lineSetpointOk k f.lineSetpoint.toNat),
    (9, (k != .hold && k != .derate) || f.window.toNat != 0),
    (11, between 0 (if k.tripKind then 0 else 3) f.checkCount.toNat) ]
    ++ checkListFields f ++ kindFields store f k

/-- The page guards (R16): IN_USE for the current page of an active walk, then CHAIN_ARMED for the
page that carries the chain mark. -/
def pageGuard (e : Engine) (p : Page) : Option Answer :=
  if e.walk.active ∧ e.page = some p then some .inUse
  else if e.chain = some p then some .chainArmed
  else none

/-- The refusal of a WRITE_STEP, `none` when it is accepted (R3, R16). -/
def writeStepRefusal (e : Engine) (store : PlanStore) (f : StepFields) : Option Answer :=
  match Page.ofCode f.page with
  | none => some (.badField 1)
  | some p =>
    if 31 < f.index.toNat then some (.badField 2)
    else
      match pageGuard e p with
      | some a => some a
      | none =>
        match Kind.ofCode f.kind with
        | none => some (.badField 3)
        | some .none => none
        | some k => fieldRefusal (stepFieldList store f k)

/-- The stored check of an entry that passes (R4). -/
def storedCheck (c : CheckFields) : Check where
  channel := (CheckChannel.ofCode c.channel).getD .eff
  statistic := (Statistic.ofCode c.statistic).getD .mean
  low := c.low.toInt
  high := c.high.toInt

/-- The stored body of a record that passes (R5 to R7). -/
def storedBody (f : StepFields) : Kind → StepBody
  | .none => .none
  | .hold => .hold f.k24.toNat
  | .ramp => .ramp f.k24.toNat f.k25.toNat f.k26.toNat
  | .pulse => .pulse f.k24.toNat f.k25.toNat f.k26.toNat f.k27.toNat f.k28.toNat
  | .tripSearch =>
    .tripSearch f.k24.toNat f.k25.toNat f.k26.toNat ((Detect.ofCode f.k27).getD .either)
      f.k28.toNat f.k29.toNat f.k30.toNat
  | .tripTime =>
    .tripTime f.k24.toNat f.k25.toNat ((Detect.ofCode f.k26).getD .either) f.k27.toNat f.k28.toNat
      f.k29.toNat
  | .recover => .recover f.k24.toNat f.k25.toNat
  | .derate =>
    .derate f.k24.toNat (if f.k25.toNat = 255 then none else some f.k25.toNat) f.k26.toNat f.k27.toNat
      f.k28.toNat f.k29.toNat f.k30.toNat f.k31.toNat
  | .dropout => .dropout f.k24.toNat f.k25.toNat f.k26.toNat f.k27.toNat f.k28.toNat

/-- The stored record of a WRITE_STEP that passes; the empty record for kind NONE (R3). DESIGN CHOICE
(notes/assumptions/43.md): the slot keeps field 9, window, as it was written, also for the kinds for which R3
leaves it unexamined; nothing reads it there. -/
def storedStep (f : StepFields) : StepRecord :=
  match Kind.ofCode f.kind with
  | none | some .none => StepRecord.empty
  | some k =>
    { tag := f.tag.toNat
      nextPass := f.nextPass.toNat
      nextFail := f.nextFail.toNat
      timeLimit := f.timeLimit.toNat
      lineSetpoint := f.lineSetpoint.toNat
      window := f.window.toNat
      captureBlocks := f.captureBlocks.toNat
      checks := (presentChecks f).map storedCheck
      body := storedBody f k }

/-! ## WRITE_CURVE, WRITE_PROFILE, WRITE_CHANNEL, CONFIGURE and START_WALK -/

/-- The range of x on an axis (R9). -/
def axisRange : Axis → Int × Int
  | .voltage => (0, 3300)
  | .temperature => (-400, 1250)

/-- The fields of the points from point `k` on, given the x of the point before (R10). -/
def pointFields (range : Int × Int) (k : Nat) (before : Option Int) :
    List (BitVec 16 × BitVec 16) → List (Nat × Bool)
  | [] => []
  | (x, y) :: rest =>
    (2 + 2 * k, decide (range.1 ≤ x.toInt ∧ x.toInt ≤ range.2) && (before.all (fun b => decide (b < x.toInt))))
      :: (3 + 2 * k, between 0 1000 y.toNat)
      :: pointFields range (k + 1) (some x.toInt) rest

/-- The points a WRITE_CURVE carries: the first n of its slots (R10). -/
def carriedPoints (f : CurveFields) : List (BitVec 16 × BitVec 16) := f.points.take f.n.toNat

/-- The fields of WRITE_CURVE (R10). -/
def curveFieldList (f : CurveFields) : List (Nat × Bool) :=
  [(1, between 0 7 f.curve.toNat), (2, (Axis.ofCode f.axis).isSome),
    (3, f.n.toNat == 0 || between 2 12 f.n.toNat)]
    ++ pointFields (axisRange ((Axis.ofCode f.axis).getD .voltage)) 1 none (carriedPoints f)

/-- The refusal of a write outside the pages: IN_USE while a walk is active, then the fields (R10, R12,
R13). -/
def tableRefusal (e : Engine) (fields : List (Nat × Bool)) : Option Answer :=
  if e.walk.active then some .inUse else fieldRefusal fields

/-- The stored curve; an n of 0 leaves it empty with no axis (R10). -/
def storedCurve (f : CurveFields) : Curve :=
  if f.n.toNat = 0 then ⟨none, []⟩
  else ⟨Axis.ofCode f.axis, (carriedPoints f).map (fun p => (p.1.toInt, p.2.toNat))⟩

/-- The fields of WRITE_PROFILE (R12). -/
def profileFieldList (f : ProfileFields) : List (Nat × Bool) :=
  [ (1, between 0 3 f.profile.toNat), (2, between 1000 40000 f.pRated.toNat),
    (3, between 40000 60000 f.vNom.toNat), (4, between 1 (f.vNom.toNat - 1) f.vRegLow.toNat),
    (5, between 1 (f.vRegLow.toNat - 1) f.vCollapse.toNat), (6, between 1 12000 f.iMax.toNat),
    (7, between 1800 3050 f.lineNominal.toNat) ]

/-- The stored profile, valid from now on (R12). -/
def storedProfile (f : ProfileFields) : Profile :=
  ⟨true, ⟨f.pRated.toNat, f.vNom.toNat, f.vRegLow.toNat, f.vCollapse.toNat, f.iMax.toNat,
    f.lineNominal.toNat⟩⟩

/-- The span of a channel: the largest magnitude of its offset (R13). -/
def channelSpan (c : Channel) : Int := (channelRange c).2 - (channelRange c).1

/-- The fields of WRITE_CHANNEL (R13). -/
def channelFieldList (f : ChannelFields) : List (Nat × Bool) :=
  [ (1, (channelOfCode f.channel).isSome), (2, between 1 131071 f.gain.toNat),
    (3, decide (f.offset.toInt.natAbs ≤ (channelSpan ((channelOfCode f.channel).getD .vOut)).natAbs)),
    (4, [1, 2, 4, 8, 16, 32, 64].contains f.averaging.toNat), (5, between 0 10000 f.settle.toNat),
    (6, between 0 10000 f.rangeSettle.toNat), (7, (Policy.ofCode f.policy).isSome) ]

/-- The stored channel profile (R13). -/
def storedChannel (f : ChannelFields) : ChannelProfile :=
  ⟨f.gain.toNat, f.offset.toInt, f.averaging.toNat, f.settle.toNat, f.rangeSettle.toNat,
    (Policy.ofCode f.policy).getD .mark⟩

/-- The fields of CONFIGURE (R57). -/
def configFieldList (f : ConfigFields) : List (Nat × Bool) :=
  [ (1, between 1 2047 f.limit.toNat), (2, between 1 50 f.lineSettle.toNat),
    (3, between 1 100 f.backoffUnit.toNat), (4, between 1 15 f.attemptLimit.toNat),
    (5, between 0 1000 f.gateQuiet.toNat), (6, (Polarity.ofCode f.alarmPolarity).isSome) ]

/-- The refusal of a CONFIGURE (R177). -/
def configureRefusal (store : PlanStore) (f : ConfigFields) : Option Answer :=
  if store.config.isSome then some .alreadySet else fieldRefusal (configFieldList f)

/-- The stored bay configuration (R57). -/
def storedConfig (f : ConfigFields) : BayConfig :=
  ⟨f.limit.toNat, f.lineSettle.toNat, f.backoffUnit.toNat, f.attemptLimit.toNat, f.gateQuiet.toNat,
    (Polarity.ofCode f.alarmPolarity).getD .activeHigh⟩

/-- The fields of START_WALK (R21). -/
def startFieldList (store : PlanStore) (f : StartFields) : List (Nat × Bool) :=
  [ (1, (Page.ofCode f.page).isSome), (2, between 0 31 f.index.toNat),
    (3, between 0 3 f.profile.toNat && (store.profile f.profile.toNat).valid),
    (4, between 0 12000 f.restLevel.toNat), (5, between 10 20000 f.safeSlope.toNat),
    (6, between 1 600 f.pageWaitLimit.toNat), (7, (yesOfCode f.stopOnFail).isSome),
    (8, (yesOfCode f.chain).isSome) ]

/-- The walk header of a START_WALK that passes (R21). -/
def storedHeader (f : StartFields) : WalkHeader :=
  ⟨(Page.ofCode f.page).getD .a, f.index.toNat, f.profile.toNat, f.restLevel.toNat, f.safeSlope.toNat,
    f.pageWaitLimit.toNat, (yesOfCode f.stopOnFail).getD false, (yesOfCode f.chain).getD false⟩

/-- The refusal of a START_WALK, in the fixed order of R21. -/
def startRefusal (s : State) (f : StartFields) : Option Answer :=
  if s.engine.walk = .held then some .held
  else if s.engine.walk.active then some .busy
  else if s.store.config.isNone then some .notConfigured
  else
    match fieldRefusal (startFieldList s.store f) with
    | some a => some a
    | none =>
      if s.interlockOpen then some .interlock
      else if (s.store.slot (storedHeader f).startPage f.index.toNat).kind = .none then some .emptyStep
      else none

end Sys2Proof.Machine
end

