-- ==== Sys2Proof/Machine/Generator.lean ====
section
/-! DEFINITION. The drive unit's own operations (R70 to R89), each on the drive record alone: staging
and the taking of force, one update of the generator, halt, the two drops, the range change, the
line channel, the dropout coupling and the shelf enable. -/

namespace Sys2Proof.Machine

/-! ## Sets taking force (R72, R73) -/

/-- The level target a LEVEL set at a current in dA stands for (R72). -/
def GenSet.levelAt (current : Nat) : GenSet := .level (current * 1000)

/-- The slope of a RAMP set, 0 for the others. -/
def GenSet.slope : GenSet → Nat
  | .ramp _ _ s => s
  | _ => 0

/-- Whether a PULSE set is in force that has not completed its cycles (R73). -/
def Drive.pulsing (d : Drive) : Bool :=
  match d.active, d.status with
  | .pulse .., .acting => true
  | _, _ => false

/-- Whether a condition of R73 holds back a staged set. -/
def Drive.busy (d : Drive) : Bool := d.pulsing || d.rangeChange != .none || d.coupling != .none

/-- The set at rest at the level in force: a LEVEL set with no end to report (R72, R75). -/
def Drive.holdLevel (d : Drive) : Drive :=
  { d with active := .level d.level, status := .rest, pulse := none, cycleEnded := false }

/-- A `from` that equals the level when the set takes force makes no jump (R72). -/
def GenSet.settled (g : GenSet) (level : Nat) : GenSet :=
  match g with
  | .ramp (some f) stop slope => .ramp (if f * 1000 = level then none else some f) stop slope
  | other => other

/-- A set takes force: it replaces the active set and empties the staged position, and a pulse
position goes with a PULSE set that is replaced (R73). -/
def Drive.takeForce (d : Drive) (g : GenSet) : Drive :=
  { d with
    active := g.settled d.level
    status := .acting
    staged := none
    cycleEnded := false
    pulse := (match g with | .pulse .. => some ⟨1, 0⟩ | _ => none)
    completed := (match g with | .pulse .. => 0 | _ => d.completed) }

/-- A range change begins: DOWN, with the level ramping toward 0 at the slope of the APPLY set, which
waits in the staged position (R77, R78). -/
def Drive.beginRangeChange (d : Drive) (target : LoadRange) (slope : Nat) : Drive :=
  { d with
    rangeChange := .down target false
    active := .ramp none 0 slope
    status := .acting
    pulse := none
    cycleEnded := false }

/-- What may stage a set: a step's own request, an APPLY request with the step's range, or the
winddown ramp (R73). -/
inductive Request where
  | plain
  | applying (range : LoadRange)
  | winddown
  deriving DecidableEq, Repr

/-- The range a request carries. -/
def Request.range : Request → Option LoadRange
  | .applying r => some r
  | _ => none

/-- A set and its request go on when nothing of R73 holds them back: an APPLY request whose range is
not the range in force starts a range change, and every other set takes force (R77, R78). -/
def Drive.proceed (d : Drive) (g : GenSet) (range : Option LoadRange) : Drive :=
  match range with
  | some r =>
    if r = d.range then d.takeForce g
    else { d.beginRangeChange r g.slope with staged := some ⟨g, range⟩ }
  | none => d.takeForce g

/-- The walk engine stages a set (R73, R79): a plain request is discarded while drop hold is set, an
APPLY request clears drop hold, and a set that a condition holds back waits. -/
def Drive.stage (d : Drive) (g : GenSet) (req : Request) : Drive :=
  match req with
  | .plain =>
    if d.dropHold then d
    else if d.busy then { d with staged := some ⟨g, none⟩ } else d.proceed g none
  | .applying r =>
    if d.busy then { d with dropHold := false, staged := some ⟨g, some r⟩ }
    else { d with dropHold := false }.proceed g (some r)
  | .winddown => if d.busy then { d with staged := some ⟨g, none⟩ } else d.proceed g none

/-- A waiting set goes on once nothing holds it back (R73, R78). -/
def Drive.releaseStaged (d : Drive) : Drive :=
  match d.staged with
  | some st => if d.busy then d else d.proceed st.set st.range
  | none => d

/-! ## One update of the generator (R71, R72, R74) -/

/-- The sample of a pulse after `p`, in a cycle of `period` samples (R74). -/
def PulsePosition.next (p : PulsePosition) (period : Nat) : PulsePosition :=
  if p.sample < period then ⟨p.cycle, p.sample + 1⟩ else ⟨p.cycle + 1, 1⟩

/-- The set in force acts on the level (R72, R74). A set at rest, or at an end not taken yet, leaves
the level there. -/
def Drive.act (d : Drive) : Drive :=
  match d.status, d.active with
  | .acting, .level t => { d with level := t, status := .ended }
  | .acting, .ramp (some f) stop slope => { d with level := f * 1000, active := .ramp none stop slope }
  | .acting, .ramp none stop slope =>
    let level := rampUpdate d.level (stop * 1000) slope
    { d with level := level, status := if level = stop * 1000 then .ended else .acting }
  | .acting, .pulse lo hi period high _ =>
    let p := (d.pulse.getD ⟨1, 0⟩).next period
    { d with
      level := (if p.sample ≤ high then hi else lo) * 1000
      pulse := some p
      cycleEnded := decide (period ≤ p.sample) }
  | _, _ => d

/-- DOWN ends at the update at which the level is 0 (R78); its end is no set end. -/
def Drive.checkDown (d : Drive) : Drive :=
  match d.rangeChange with
  | .down target false => if d.level = 0 then { d.holdLevel with rangeChange := .down target true } else d
  | _ => d

/-- One sample less of a coupling span (R86). -/
def Coupling.tick : Coupling → Coupling
  | .none => .none
  | .lead n d r => .lead (n - 1) d r
  | .off n r => .off (n - 1) r
  | .restore n => .restore (n - 1)

/-- The drive unit at one sample: one generator update, and one sample less of every count that runs
(R71, R77, R86, R88). -/
def Drive.update (d : Drive) : Drive :=
  let d := d.act.checkDown
  { d with
    relayCount := d.relayCount - 1
    coupling := d.coupling.tick
    resetPulse := d.resetPulse.map (· - 1) }

/-! ## Halt and drops (R75, R79, R80) -/

/-- The coupling ends; line enable becomes active if it was off (R75, R79, R87). -/
def Drive.endCoupling (d : Drive) : Drive :=
  match d.coupling with
  | .none => d
  | _ => { d with coupling := .none, lineEnable := true }

/-- A shelf reset pulse ends with shelf enable active (R75, R88). -/
def Drive.endResetPulse (d : Drive) : Drive :=
  match d.resetPulse with
  | some _ => { d with resetPulse := none, shelfEnable := true }
  | none => d

/-- The generator's part of a halt: a pulse ends at its low level, any other set stops where it stands,
and a range change in flight runs on (R75). -/
def Drive.haltSet (d : Drive) : Drive :=
  match d.rangeChange, d.active, d.status with
  | .none, .pulse lo .., .acting => { { d with level := lo * 1000 }.holdLevel with stopPending := false }
  | .none, _, _ => d.holdLevel
  | _, _, _ => d

/-- A halt (R75). -/
def Drive.halt (d : Drive) : Drive := { d with staged := none }.haltSet.endCoupling.endResetPulse

/-- A trip drop (R79): level 0 at once under a LEVEL set at 0, the staged set discarded, a pulse ended,
the coupling ended, and drop hold set; range, load enable and shelf enable are kept. DESIGN CHOICE
(notes/assumptions/39.md): a drop taken before a cycle end of its sample leaves that cycle uncounted. -/
def Drive.tripDrop (d : Drive) : Drive :=
  { { d with level := 0, staged := none, stopPending := false, dropHold := true }.holdLevel with
    status := .rest }.endCoupling

/-- An immediate drop (R80): level 0 and the three enables inactive, everything in flight cleared, the
line setpoint, the relay and its count left where they are. -/
def Drive.immediateDrop (d : Drive) : Drive :=
  { { d with level := 0 }.holdLevel with
    loadEnable := false
    loadRequest := false
    lineEnable := false
    shelfEnable := false
    staged := none
    stopPending := false
    dropHold := false
    rangeChange := .none
    coupling := .none
    resetPulse := none }

/-! ## Requests of the walk (R81, R84, R85) -/

/-- START_WALK in the drive unit (R81): the enables, with load enable waiting for the relay count, and
the line setpoint. -/
def Drive.startWalk (d : Drive) (lineNominal : Nat) : Drive :=
  { d with
    shelfEnable := true
    lineSetpoint := lineNominal
    lineEnable := true
    loadEnable := d.loadEnable || d.relayCount == 0
    loadRequest := d.relayCount != 0 }

/-- The WINDDOWN releases (R84): enables inactive, drop hold clear, and the relay to LOW if it is in
HIGH, with its count. -/
def Drive.winddownReleases (d : Drive) : Drive :=
  { d with
    loadEnable := false
    loadRequest := false
    lineEnable := false
    shelfEnable := false
    dropHold := false
    range := .low
    relayCount := if d.range = .high then Config.relayWait else d.relayCount }

/-- The end of DOWN (R78): load enable inactive, the relay to the step's range, its count 200. -/
def Drive.endDown (d : Drive) : Drive :=
  match d.rangeChange with
  | .down target _ =>
    { d with
      loadEnable := false
      range := target
      relayCount := Config.relayWait
      rangeChange := .relayWait }
  | _ => d

/-- The relay count reaches 0 (R77, R78): a waiting load enable takes effect, a range change ends and
its waiting set goes on. -/
def Drive.relayExpiry (d : Drive) : Drive :=
  match d.rangeChange with
  | .relayWait =>
    { d with loadEnable := true, loadRequest := false, rangeChange := .none, rangeChanged := true }.releaseStaged
  | _ => { d with loadEnable := d.loadEnable || d.loadRequest, loadRequest := false }

/-! ## Pulses (R74) -/

/-- A stop request marks the pulse in force to end at its cycle end (R74). -/
def Drive.stopPulse (d : Drive) : Drive := { d with stopPending := d.pulsing }

/-- Whether the cycle that ends now ends the pulse: its cycles are completed or a stop is pending
(R74). -/
def Drive.lastCycle (d : Drive) : Bool :=
  match d.active with
  | .pulse _ _ _ _ cycles => d.stopPending || (cycles != 0 && decide (cycles ≤ d.completed + 1))
  | _ => false

/-- A pulse cycle ends: the completed count rises, and a pulse that ends leaves a LEVEL set at lo in
force (R74). A set that waits for the cycle end takes force. -/
def Drive.endCycle (d : Drive) : Drive :=
  let counted := { d with completed := min (d.completed + 1) Config.cyclesCeiling, cycleEnded := false }
  match d.active with
  | .pulse lo .. =>
    if d.lastCycle then
      { { counted with level := lo * 1000 }.holdLevel with stopPending := false }
    else
      match d.staged with
      | some st => if counted.holdLevel.busy then counted else counted.holdLevel.proceed st.set st.range
      | none => counted
  | _ => counted

/-! ## The dropout coupling and the shelf reset pulse (R86, R88) -/

/-- The coupling starts at BODY start: LEAD, or OFF at once when lead is 0 (R86). -/
def Drive.startCoupling (d : Drive) (lead dropout restore : Nat) : Drive :=
  if lead = 0 then { d with coupling := .off dropout restore, lineEnable := false }
  else { d with coupling := .lead lead dropout restore }

/-- A shelf reset pulse of the given samples (R88). -/
def Drive.startResetPulse (d : Drive) (samples : Nat) : Drive :=
  { d with shelfEnable := false, resetPulse := some samples }

/-! ## Clamp (R76) -/

/-- The clamp limit: the smaller of the profile's I_max and the range maximum (R76). -/
def clampLimit (iMax : Nat) (range : LoadRange) : Nat := min iMax range.limit

/-- A set with every current field brought down to the limit (R76). -/
def GenSet.clamp (g : GenSet) (limit : Nat) : GenSet :=
  match g with
  | .level t => .level (min t (limit * 1000))
  | .ramp start stop slope => .ramp (start.map (min · limit)) (min stop limit) slope
  | .pulse lo hi period high cycles => .pulse (min lo limit) (min hi limit) period high cycles

end Sys2Proof.Machine
end

