-- ==== Sys2Proof/Machine/Measure.lean ====
section
/-! DEFINITION. Acquisition's own operations (R90 to R110), each on the acquisition record alone: the
sample record, averages and blanks, the measurement window, the detectors, the history and the
filling of capture. What reaches another block is in Sys2Proof/Machine/Ops.lean. -/

namespace Sys2Proof.Machine

/-- The number of the last sample taken, to which everything that happens before the next one
belongs (notes/assumptions/5.md). -/
def Acquisition.seq (a : Acquisition) : Seq := a.nextSeq - 1

/-! ## Blanks (R94, R95) -/

/-- Whether samples of the channel carry its blank flag (R94). -/
def Blank.isOpen : Blank → Bool
  | .closed => false
  | .waiting => true
  | .counting n => n != 0

/-- A blank opened with a count; a count of 0 is CLOSED at once (R94, R95). -/
def Blank.ofCount (n : Nat) : Blank := if n = 0 then .closed else .counting n

/-- One sample less of a counting blank (R95). -/
def Blank.tick : Blank → Blank
  | .counting n => .counting (n - 1)
  | b => b

/-- The blank flags of the latest sample follow the blanks as they stand (R94, R97). -/
def Acquisition.refreshFlags (a : Acquisition) : Acquisition :=
  { a with
    latest := a.latest.map (fun r => { r with blank := PerChannel.tabulate (fun c => (a.blanks.get c).isOpen) }) }

/-- APPLY entry opens every blank in WAITING and clears every average (R92, R94). -/
def Acquisition.openAllBlanks (a : Acquisition) : Acquisition :=
  { a with blanks := PerChannel.same .waiting, averages := PerChannel.same [] }.refreshFlags

/-- The blank a change of the line setpoint leaves: WAITING on the sample of an APPLY entry, and
otherwise the count of the channel's settle (R94). The change finds the blank of an earlier APPLY entry
WAITING only when that APPLY did not complete; DEDUCED (notes/assumptions/34.md): such a blank becomes
COUNTING, as R95 says, and R94's words on a blank that is WAITING are read of an APPLY in progress.
`fresh` says that no sample has joined the channel's average since the blank opened. -/
def Blank.reopened (b : Blank) (fresh : Bool) (settle : Nat) : Blank :=
  match b, fresh with
  | .waiting, true => .waiting
  | _, _ => Blank.ofCount settle

/-- A change of the line setpoint opens the V_LINE and P_LINE blanks and clears their averages (R85,
R92, R94). -/
def Acquisition.openLineBlanks (a : Acquisition) (profiles : PerChannel ChannelProfile) : Acquisition :=
  { a with
    blanks := { a.blanks with
      vLine := a.blanks.vLine.reopened a.averages.vLine.isEmpty profiles.vLine.settle
      pLine := a.blanks.pLine.reopened a.averages.pLine.isEmpty profiles.pLine.settle }
    averages := { a.averages with vLine := [], pLine := [] } }.refreshFlags

/-- An APPLY completion: each WAITING blank counts its settle, and its range_settle after a range
change (R95). -/
def Acquisition.applyCompletion (a : Acquisition) (profiles : PerChannel ChannelProfile) (changed : Bool) :
    Acquisition :=
  { a with
    blanks := PerChannel.tabulate (fun c =>
      match a.blanks.get c with
      | .waiting =>
        Blank.ofCount ((profiles.get c).settle + (if changed then (profiles.get c).rangeSettle else 0))
      | b => b) }.refreshFlags

/-- A blank whose count has reached 0 is CLOSED (R95). -/
def Acquisition.closeBlank (a : Acquisition) (c : Channel) : Acquisition :=
  { a with blanks := a.blanks.put c .closed }.refreshFlags

/-- Whether every blank of a settle set is CLOSED (R96). -/
def Acquisition.settled (a : Acquisition) (set : PerChannel Bool) : Bool :=
  [Channel.vOut, .iOut, .vLine, .pLine, .tInlet].all (fun c => !set.get c || a.blanks.get c == .closed)

/-! ## Values of a sample record by check channel (R93, R98) -/

/-- The value a window accumulates for a channel (R98). -/
def SampleRecord.value (r : SampleRecord) : CheckChannel → Int
  | .measured c => r.average.get c
  | .pOut => r.pOut
  | .eff => r.eff

/-- The over-range flag of a channel (R93, R97). -/
def SampleRecord.overOf (r : SampleRecord) : CheckChannel → Bool
  | .measured c => r.overRange.get c
  | .pOut => r.pOutOver
  | .eff => r.effOver

/-- The raw pair of a sample with its flags (R97, R107). -/
def SampleRecord.pair (r : SampleRecord) : RawSample :=
  ⟨r.seq, r.raw.vOut, r.raw.iOut, r.overRange.vOut, r.overRange.iOut, r.disturbed, r.range⟩

/-! ## The measurement window (R98 to R100) -/

/-- The policy of a channel: RESTART if a source's profile has RESTART (R93). -/
def channelPolicy (profiles : PerChannel ChannelProfile) (c : CheckChannel) : Policy :=
  if c.sources.any (fun s => (profiles.get s).policy == .restart) then .restart else .mark

/-- The policy of a window: RESTART if any of its channels has RESTART (window table). -/
def windowPolicy (profiles : PerChannel ChannelProfile) (channels : List CheckChannel) : Policy :=
  if channels.any (fun c => channelPolicy profiles c == .restart) then .restart else .mark

/-- An accumulator with nothing in it (R98). -/
def Accumulator.empty (c : CheckChannel) : Accumulator := ⟨c, 0, none, false⟩

/-- A value joins an accumulator (R98). -/
def Accumulator.join (acc : Accumulator) (r : SampleRecord) : Accumulator :=
  let x := r.value acc.channel
  { acc with
    sum := acc.sum + x
    extremes := some (match acc.extremes with | some (lo, hi) => (min lo x, max hi x) | none => (x, x))
    mark := acc.mark || r.overOf acc.channel }

/-- The window accumulates a sample (R98). -/
def Window.accumulate (w : Window) (r : SampleRecord) : Window :=
  { w with state := .opened, count := w.count + 1, channels := w.channels.map (·.join r) }

/-- A restart clears sums, extremes, marks and count (R98, R99). -/
def Window.clear (w : Window) : Window :=
  { w with count := 0, channels := w.channels.map (fun acc => Accumulator.empty acc.channel) }

/-- One disturbed sample more (R99). -/
def Window.disturb (w : Window) : Window := { w with disturbed := w.disturbed + 1 }

/-- The window takes the sample at which it is opened (R98). -/
def Window.firstSample (w : Window) (r : SampleRecord) : Window :=
  match r.disturbed, w.policy, w.mode with
  | false, _, _ => w.accumulate r
  | true, .mark, _ => (w.accumulate r).disturb
  | true, .restart, .counted => { w with state := .waiting }.disturb
  | true, .restart, .span => w.disturb

/-- The window takes a later sample (R99). A window that is DONE or CLOSED takes none, and a COUNTED
window that has reached its length takes no more. -/
def Window.take (w : Window) (r : SampleRecord) : Window :=
  match w.state with
  | .done | .closed => w
  | .waiting => if r.disturbed then w.disturb else w.accumulate r
  | .opened =>
    if w.mode = .counted ∧ w.length ≤ w.count then w
    else
      match r.disturbed, w.policy, w.mode with
      | false, _, _ => w.accumulate r
      | true, .mark, _ => (w.accumulate r).disturb
      | true, .restart, .counted => { w.clear.disturb with state := .waiting, restarts := w.restarts + 1 }
      | true, .restart, .span => w.disturb

/-- A window requested by the walk engine, before it takes a sample; the step's restarts and disturbed
counts carry through (window table). -/
def Window.request (w : Window) (profiles : PerChannel ChannelProfile) (mode : WindowMode) (length : Nat)
    (channels : List CheckChannel) : Window :=
  { mode := mode
    state := .opened
    policy := windowPolicy profiles channels
    length := length
    count := 0
    channels := channels.map Accumulator.empty
    restarts := w.restarts
    disturbed := w.disturbed }

/-- The walk engine opens a window at the latest sample (R98). -/
def Acquisition.openWindow (a : Acquisition) (profiles : PerChannel ChannelProfile) (mode : WindowMode)
    (length : Nat) (channels : List CheckChannel) : Acquisition :=
  let w := a.window.request profiles mode length channels
  { a with
    window :=
      match a.latest with
      | some r => w.firstSample r
      | none => w }

/-- The ramp window of a DERATE step, requested at the reference window's DONE sample: it takes its
first sample at the next one (R160, notes/assumptions/25.md). -/
def Acquisition.openWindowNext (a : Acquisition) (profiles : PerChannel ChannelProfile) : Acquisition :=
  { a with window := a.window.request profiles .span 0 [] }

/-- Whether a COUNTED window has reached its length (R99). -/
def Window.complete (w : Window) : Bool :=
  w.mode == .counted && w.state == .opened && decide (w.length ≤ w.count)

/-- Whether a window is still open or waiting (R100). -/
def Window.live (w : Window) : Bool := w.state == .opened || w.state == .waiting

/-- The accumulator of a channel. -/
def Window.find (w : Window) (c : CheckChannel) : Accumulator :=
  (w.channels.find? (fun acc => acc.channel == c)).getD (Accumulator.empty c)

/-- A statistic of a channel over the window; `none` when the count is 0 (R100, R125). -/
def Window.statistic (w : Window) (c : CheckChannel) (s : Statistic) : Option Int :=
  if w.count = 0 then none
  else
    match s, (w.find c).extremes with
    | .mean, _ => some ((w.find c).sum / w.count)
    | .minimum, some (lo, _) => some lo
    | .maximum, some (_, hi) => some hi
    | _, none => none

/-- The result of one check over the window: low ≤ statistic ≤ high, and a failing 0 when the window
has no statistics (R100). -/
def Window.evaluate (w : Window) (c : Check) : CheckResult :=
  match w.statistic c.channel c.statistic with
  | some v => ⟨true, decide (c.low ≤ v ∧ v ≤ c.high), (w.find c.channel).mark, v⟩
  | none => ⟨true, false, (w.find c.channel).mark, 0⟩

/-- A check of a window that was not evaluated (R100). -/
def CheckResult.notEvaluated : CheckResult := ⟨false, false, false, 0⟩

/-- The window is CLOSED and drops its per-channel state; the counts stand until the next step (R100). -/
def Window.close (w : Window) : Window := { w with state := .closed, channels := [] }

/-! ## The detectors (R101 to R105) -/

/-- The raw V_OUT of the latest sample is below a threshold. -/
def Acquisition.rawBelow (a : Acquisition) (threshold : Nat) : Bool :=
  match a.latest with
  | some r => decide (r.raw.vOut < threshold)
  | none => false

/-- The averaged V_OUT of the latest sample is at or above a threshold. -/
def Acquisition.averageAtLeast (a : Acquisition) (threshold : Nat) : Bool :=
  match a.latest with
  | some r => decide ((threshold : Int) ≤ r.average.vOut)
  | none => false

/-- A run after one sample more that meets the detector's condition or not (R101, R104). -/
def RunDetector.next (d : RunDetector) (meets : Bool) : RunDetector :=
  { d with run := if meets then d.run + 1 else 0 }

/-- Whether an alarm reading is a detection at an armed sample: the input went from inactive to active
(R102), or has been active since the reset with no armed sample before (R110; DEDUCED,
notes/assumptions/35.md). -/
def alarmFound (alarm previous unseen : Bool) : Bool := alarm && (!previous || unseen)

/-- Whether the latest sample, armed, is an alarm detection (R102, R110). -/
def Acquisition.alarmEdge (a : Acquisition) : Bool :=
  match a.latest with
  | some r => alarmFound r.alarm a.alarmPrevious a.alarmUnseen
  | none => false

/-- BODY start arms the collapse detector, and the BODY start sample is its first (R101, R143). -/
def Acquisition.armCollapse (a : Acquisition) (threshold : Nat) : Acquisition :=
  { a with detectors := { a.detectors with
      collapse := some (RunDetector.next ⟨threshold, 0⟩ (a.rawBelow threshold)) } }

/-- BODY start arms the alarm detector, and the BODY start sample is its first (R102, R147). -/
def Acquisition.armAlarm (a : Acquisition) : Acquisition :=
  { a with
    detectors := { a.detectors with alarmArmed := true, alarmHit := a.alarmEdge }
    alarmUnseen := a.alarmUnseen && a.latest.isNone }

/-- A regulation event arms the collapse and alarm detectors from the next sample (R104). -/
def Acquisition.armFromNext (a : Acquisition) (threshold : Nat) : Acquisition :=
  { a with detectors := { a.detectors with
      collapse := some ⟨threshold, 0⟩
      alarmArmed := true
      alarmHit := false } }

/-- The regulation detector is armed, and the latest sample is its first (R104, R153). -/
def Acquisition.armRegulation (a : Acquisition) (threshold : Nat) : Acquisition :=
  { a with detectors := { a.detectors with
      regulation := some (RunDetector.next ⟨threshold, 0⟩ (a.averageAtLeast threshold)) } }

/-- The knee detector is armed from the next sample (R105, R160). -/
def Acquisition.armKnee (a : Acquisition) (threshold : Int) : Acquisition :=
  { a with detectors := { a.detectors with knee := some threshold, kneeHit := false } }

/-- The knee detector is disarmed (R105, R161). -/
def Acquisition.disarmKnee (a : Acquisition) : Acquisition :=
  { a with detectors := { a.detectors with knee := none, kneeHit := false } }

/-- The regulation detector is disarmed (R104). -/
def Acquisition.disarmRegulation (a : Acquisition) : Acquisition :=
  { a with detectors := { a.detectors with regulation := none } }

/-- A trip event disarms collapse and alarm and clears their runs (R103). -/
def Acquisition.disarmTrips (a : Acquisition) : Acquisition :=
  { a with detectors := { a.detectors with collapse := none, alarmArmed := false, alarmHit := false } }

/-- The step's end disarms every detector. -/
def Acquisition.disarmAll (a : Acquisition) : Acquisition := { a with detectors := Detectors.disarmed }

/-- The collapse run has reached 3 (R101). -/
def Detectors.collapseDue (d : Detectors) : Bool :=
  match d.collapse with
  | some c => decide (Config.collapseRun ≤ c.run)
  | none => false

/-- The alarm has been detected and not delivered (R102). -/
def Detectors.alarmDue (d : Detectors) : Bool := d.alarmArmed && d.alarmHit

/-- The regulation run has reached 10 (R104). -/
def Detectors.regulationDue (d : Detectors) : Bool :=
  match d.regulation with
  | some c => decide (Config.regulationRun ≤ c.run)
  | none => false

/-- The knee has been found and not delivered (R105). -/
def Detectors.kneeDue (d : Detectors) : Bool := d.knee.isSome && d.kneeHit

/-- A trip event is due: a collapse, an alarm or both (R103). -/
def Detectors.tripDue (d : Detectors) : Bool := d.collapseDue || d.alarmDue

/-- The detectors test one sample (R101, R102, R104, R105). -/
def Detectors.test (d : Detectors) (r : SampleRecord) (edge : Bool) : Detectors where
  collapse := d.collapse.map (fun c => c.next (decide (r.raw.vOut < c.threshold)))
  alarmArmed := d.alarmArmed
  alarmHit := d.alarmArmed && edge
  regulation := d.regulation.map (fun c => c.next (decide ((c.threshold : Int) ≤ r.average.vOut)))
  knee := d.knee
  kneeHit :=
    match d.knee with
    | some t => decide (r.average.vOut ≤ t)
    | none => false

/-! ## Capture (R106 to R109) -/

/-- A pair joins the block in fill while capture is COLLECTING (R106, R108). -/
def Capture.take (c : Capture) (p : RawSample) : Capture :=
  match c.state, c.mode with
  | .collecting, .trip => { c with fill := c.fill ++ [p], left := c.left - 1 }
  | .collecting, _ => { c with fill := c.fill ++ [p] }
  | _, _ => c

/-- Whether a block is to be offered: it is full, or it is the last of a trip capture (R106, R108). -/
def Capture.blockDue (c : Capture) : Bool :=
  c.state == .collecting &&
    (decide (Config.blockPairs ≤ c.fill.length) || (c.mode == .trip && c.left == 0 && !c.fill.isEmpty))

/-! ## One sample (R90 to R99) -/

/-- The alarm input's reading under the configured polarity (R102); a free value while there is none
(notes/assumptions/15.md). -/
def alarmReading (config : Option BayConfig) (seq : Seq) (high : Bool) : Bool :=
  match config with
  | some c => (match c.alarmPolarity with | .activeHigh => high | .activeLow => !high)
  | none => Config.unsetAlarmReading seq high

/-- The code of a channel. -/
def sampleCode (i : SampleInput) : Channel → Nat
  | .vOut => i.vOut.toNat
  | .iOut => i.iOut.toNat
  | .vLine => i.vLine.toNat
  | .pLine => i.pLine.toNat
  | .tInlet => i.tInlet.toNat

/-- The averages after the sample's raw values have joined them (R92). -/
def Acquisition.joinAverages (a : Acquisition) (profiles : PerChannel ChannelProfile) (i : SampleInput) :
    PerChannel (List Int) :=
  PerChannel.tabulate (fun c =>
    joinAverage (profiles.get c).averaging (a.averages.get c) (channelValue c (profiles.get c) (sampleCode i c)))

/-- The sample record of the next sample (R91 to R93, R97). -/
def Acquisition.nextRecord (a : Acquisition) (profiles : PerChannel ChannelProfile)
    (config : Option BayConfig) (i : SampleInput) (censusOthers : Nat) (range : LoadRange) (load : Nat) :
    SampleRecord :=
  let average := PerChannel.tabulate (fun c => averageOf ((a.joinAverages profiles i).get c))
  let overRange := PerChannel.tabulate (fun c => channelOver c (profiles.get c) (sampleCode i c))
  let pOut := outputPower average.vOut average.iOut
  { seq := a.nextSeq
    raw := PerChannel.tabulate (fun c => channelValue c (profiles.get c) (sampleCode i c))
    average := average
    overRange := overRange
    pOut := pOut
    eff := efficiency pOut average.pLine
    pOutOver := overRange.vOut || overRange.iOut
    effOver := overRange.vOut || overRange.iOut || overRange.pLine || efficiencySaturated pOut average.pLine
    disturbed := decide (1 ≤ censusOthers)
    blank := PerChannel.tabulate (fun c => (a.blanks.get c).tick.isOpen)
    range := range
    load := load
    alarm := alarmReading config a.nextSeq i.alarmHigh }

/-- Acquisition takes one sample whole: record, averages, blank counts, history, window, detectors and
capture, in that order (R90). DESIGN CHOICE (notes/assumptions/38.md): a reading taken before the first
CONFIGURE, a free value, counts as the input's reading here too, and clears `alarmUnseen` when it is
inactive. -/
def Acquisition.sample (a : Acquisition) (profiles : PerChannel ChannelProfile) (config : Option BayConfig)
    (i : SampleInput) (censusOthers : Nat) (range : LoadRange) (load : Nat) : Acquisition :=
  let r := a.nextRecord profiles config i censusOthers range load
  let previous := (a.latest.map (·.alarm)).getD false
  { nextSeq := a.nextSeq + 1
    latest := some r
    averages := a.joinAverages profiles i
    blanks := PerChannel.tabulate (fun c => (a.blanks.get c).tick)
    window := a.window.take r
    detectors := a.detectors.test r (alarmFound r.alarm previous a.alarmUnseen)
    alarmPrevious := previous
    alarmUnseen := a.alarmUnseen && r.alarm && !a.detectors.alarmArmed
    alarmLate := i.alarmLate
    history := (r.pair :: a.history).take Config.historyLength
    capture := a.capture.take r.pair }

end Sys2Proof.Machine
end

