-- ==== Sys2Proof/Machine/Ops.lean ====
section
/-! DEFINITION. The shared operations of the walk engine with the other blocks (R19 to R43): a step's
phases from ADMIT to its STEP_RESULT, the placing of step-level records and what follows each, page
end, winddown, capture offers, trip events and the ends of the drive's sets. -/

namespace Sys2Proof.Machine

/-! ## What the engine reads -/

/-- line_settle in samples; 0 while no configuration is set, when no walk can run. -/
def State.lineSettle (s : State) : Nat := ((s.store.config.map (·.lineSettle)).getD 0) * 10

/-- backoff_unit in samples. -/
def State.slotSamples (s : State) : Nat := ((s.store.config.map (·.backoffUnit)).getD 0) * 10

/-- gate_quiet in samples. -/
def State.quietSamples (s : State) : Nat := ((s.store.config.map (·.gateQuiet)).getD 0) * 10

/-- L of the bay. -/
def State.bayLimit (s : State) : Nat := (s.store.config.map (·.limit)).getD 0

/-- attempt_limit. -/
def State.attemptLimit (s : State) : Nat := (s.store.config.map (·.attemptLimit)).getD 0

/-- safe_slope of the walk header. -/
def Engine.safeSlope (e : Engine) : Nat := (e.header.map (·.safeSlope)).getD 0

/-- rest_level of the walk header. -/
def Engine.restLevel (e : Engine) : Nat := (e.header.map (·.restLevel)).getD 0

/-- stop_on_fail of the walk header. -/
def Engine.stopOnFail (e : Engine) : Bool := (e.header.map (·.stopOnFail)).getD false

/-- page_wait_limit in samples (R40). -/
def Engine.pageWaitSamples (e : Engine) : Nat := ((e.header.map (·.pageWaitLimit)).getD 0) * 10000

/-- The ratings of the profile held for the walk (R17). -/
def Engine.ratings (e : Engine) : Ratings := e.profile.getD ⟨0, 0, 0, 0, 0, 0⟩

/-- The record of the step in progress, or whose result waits. -/
def Engine.record (e : Engine) : StepRecord := (e.step.map (·.record)).getD StepRecord.empty

/-- The kind of that step. -/
def Engine.kind (e : Engine) : Kind := e.record.kind

/-- Whether a step is in progress: RUNNING, with a step whose result has not been offered (R23). -/
def Engine.stepping (e : Engine) : Bool := e.walk == .running && e.step.isSome && e.waiting.isNone

/-- The commanded load in dA (R71). -/
def State.load (s : State) : Nat := dacValue s.drive.level

/-- The claim of the step (R48). -/
def State.stepClaim (s : State) : Nat := claimOf s.engine.record.body.peak s.engine.ratings.vNom

/-! ## Small updates -/

/-- The step context changes. -/
def State.mapStep (s : State) (f : StepContext → StepContext) : State :=
  s.setEngine { s.engine with step := s.engine.step.map f }

/-- The phase changes. -/
def State.setPhase (s : State) (p : Phase) : State := s.setEngine { s.engine with phase := p }

/-- Contributions are recorded (R29). -/
def State.contribute (s : State) (vs : List Verdict) : State :=
  s.mapStep (fun c => { c with contributions := c.contributions ++ vs })

/-- The kind's figures change. -/
def State.mapFigures (s : State) (f : Figures → Figures) : State :=
  s.mapStep (fun c => { c with figures := f c.figures })

/-- The stage of BODY changes. -/
def State.setStage (s : State) (stage : BodyStage) : State := s.mapStep (fun c => { c with stage := stage })

/-- Capture changes. -/
def State.setCapture (s : State) (c : Capture) : State := s.setAcq { s.acq with capture := c }

/-- The line setpoint is set (R85): a value different from the one held is a change, and opens the
V_LINE and P_LINE blanks. -/
def State.setLine (s : State) (v : Nat) : State :=
  if v = s.drive.lineSetpoint then s
  else (s.setDrive { s.drive with lineSetpoint := v }).setAcq (s.acq.openLineBlanks s.store.channels)

/-- The walk engine stages a set for a step: clamped to the limit of the range it is to run in, a
reduced field setting the clamped flag (R76). -/
def State.stageStep (s : State) (g : GenSet) (req : Request) : State :=
  let clamped := g.clamp (clampLimit s.engine.ratings.iMax (req.range.getD s.drive.range))
  (s.setDrive (s.drive.stage clamped req)).mapStep (fun c => { c with clamped := c.clamped || clamped != g })

/-! ## Capture offers (R106 to R109, R181) -/

/-- Free entries of the result queue (R179). -/
def State.freeEntries (s : State) : Nat := Config.queueDepth - s.queue.length

/-- The block in fill, as it is offered (R109). -/
def State.blockInFill (s : State) : CaptureBlock :=
  ⟨s.engine.record.tag, s.acq.capture.nextIndex, s.acq.capture.fill⟩

/-- The block in fill is offered: placed at the tail with at least 8 entries free and dropped
otherwise; a new block begins (R109, R181). -/
def State.offerBlock (s : State) : State :=
  let c := { s.acq.capture with fill := [], nextIndex := s.acq.capture.nextIndex + 1 }
  if Config.captureReserve ≤ s.freeEntries then
    (s.setQueue (s.queue ++ [.captureBlock s.blockInFill])).setCapture { c with posted := c.posted + 1 }
  else s.setCapture { c with dropped := c.dropped + 1 }

/-- Capture ends: a block that holds a pair is offered as the last, and capture is DONE (R106, R108). -/
def State.finishCapture (s : State) : State :=
  if s.acq.capture.state = .collecting then
    let s := if s.acq.capture.fill.isEmpty then s else s.offerBlock
    s.setCapture { s.acq.capture with state := .done }
  else s

/-- Pairs join the block in fill in order, each block offered at its twelfth pair (R108). -/
def State.offerPairs : List RawSample → State → State
  | [], s => s
  | p :: rest, s =>
    let s := s.setCapture { s.acq.capture with fill := s.acq.capture.fill ++ [p] }
    offerPairs rest (if Config.blockPairs ≤ s.acq.capture.fill.length then s.offerBlock else s)

/-- The trip capture starts at the delivery sample with the history, oldest first (R108). -/
def State.startTripCapture (s : State) : State :=
  if s.acq.capture.mode = .trip then
    State.offerPairs s.acq.history.reverse
      (s.setCapture { s.acq.capture with state := .collecting, left := Config.tripCaptureAfter })
  else s

/-- BODY start in TERMINAL mode: COLLECTING, with the BODY start sample as the first pair (R106). -/
def State.startCapture (s : State) : State :=
  match s.acq.capture.mode, s.acq.latest with
  | .terminal, some r => s.setCapture { s.acq.capture with state := .collecting, fill := [r.pair] }
  | .terminal, none => s.setCapture { s.acq.capture with state := .collecting }
  | _, _ => s

/-! ## Step-level records (R30, R180) -/

/-- A step-level record is offered; until it is placed the engine shows OUTPUT_STALL (R19, R30). -/
def State.offer (s : State) (r : StepLevel) : State :=
  s.setEngine { s.engine with waiting := some r, phase := .outputStall }

/-! ## The end of a step (R23, R28 to R30, R64) -/

/-- What ended a step. -/
inductive EndCause where
  | normal | expiry | abort | interlock | trip
  deriving DecidableEq, Repr

/-- The window's checks are evaluated and its count is the step's; a failing check hands LIMIT (R99,
R100). -/
def State.evaluateWindow (s : State) : State :=
  let w := s.acq.window
  let results := s.engine.record.checks.map w.evaluate
  ((s.mapStep (fun c => { c with checks := results, windowCount := w.count })).contribute
    (if results.all (·.pass) then [] else [.limit])).setAcq { s.acq with window := { w with state := .done } }

/-- A window with no checks to evaluate is closed, its count being the step's (R140). -/
def State.closeCounting (s : State) : State :=
  (s.mapStep (fun c => { c with windowCount := s.acq.window.count })).setAcq
    { s.acq with window := s.acq.window.close }

/-- The step's end closes the window: one still open is closed without evaluation, and its count is
the step's but for DERATE, which reports the reference window (R100, R139, R163). -/
def State.closeWindow (s : State) : State :=
  let s := if s.acq.window.live ∧ s.engine.kind ≠ .derate then s.closeCounting else s
  s.setAcq { s.acq with window := s.acq.window.close }

/-- The exit level of the step (R24, R28, R75): the level in force at ADMIT entry for DENIED and
OVER_BAY, 0 in a range change, and otherwise the DAC value. -/
def State.exitLevel (s : State) (c : StepContext) : Nat :=
  if c.contributions.contains .denied || c.contributions.contains .overBay then c.admitLevel
  else if s.engine.phase.drives && s.drive.rangeChange != .none then 0
  else s.load

/-- The STEP_RESULT of a step that has ended (R30, R183). -/
def State.composeResult (s : State) (c : StepContext) : StepResult where
  page := c.page
  index := c.index
  tag := c.record.tag
  kind := c.record.kind
  verdict := verdictOf c.contributions
  endPhase := s.engine.phase
  duration := interval s.acq.seq c.admitSeq
  exitLevel := s.exitLevel c
  admissionAttempts := s.bay.admissionAttempts
  gateAttempts := s.bay.gateAttempts
  censusHeld := s.bay.ownUnit.asserted
  clamped := c.clamped
  posted := s.acq.capture.posted
  dropped := s.acq.capture.dropped
  windowCount := c.windowCount
  restarts := s.acq.window.restarts
  disturbed := s.acq.window.disturbed
  checks := c.checks
  figures := c.figures
  cycles := s.drive.completed

/-- The releases of the own unit a step's end makes: a GATE unit unless ABORT ended the step, and a TRIP
unit when a RECOVER step ends with PASS (R64, R65, R155). -/
def State.endUnit (s : State) (cause : EndCause) : State :=
  let verdict := verdictOf ((s.engine.step.map (·.contributions)).getD [])
  if (s.bay.ownUnit = .gate ∧ cause ≠ .abort)
      ∨ (s.bay.ownUnit = .trip ∧ s.engine.kind = .recover ∧ verdict = .pass) then
    s.setBay (s.bay.releaseUnit s.lineSettle)
  else s

/-- The drive unit's trip drop (R79). -/
def State.tripDrop (s : State) : State := s.setDrive s.drive.tripDrop

/-- The step ends and its STEP_RESULT is offered. A trip detection that falls on the same sample and
has not been delivered finds the step ended: the trip drop is made all the same, before the result of a
steady-load step that ended normally is composed and after the result of any other (R136, R149, R150,
R155, R167, R168; notes/assumptions/17.md). -/
def State.endStep (s : State) (cause : EndCause) (vs : List Verdict) : State :=
  let tripped := s.acq.detectors.tripDue && cause != .interlock
  let s := (s.finishCapture.contribute vs).closeWindow
  let s := (s.setAcq s.acq.disarmAll).setDrive s.drive.endResetPulse
  let s := if tripped && s.engine.kind.steady && cause == .normal then s.tripDrop else s
  let s := (s.endUnit cause).setBay (s.endUnit cause).bay.idleProtocol
  match s.engine.step with
  | some c =>
    let s := s.offer (.stepResult (s.composeResult c))
    if tripped then s.tripDrop else s
  | none => s

/-- BODY ends and the engine enters EXIT; a TERMINAL capture ends with BODY (R27, R106). -/
def State.endBody (s : State) : State :=
  (if s.acq.capture.mode = .terminal then s.finishCapture else s).setPhase .exiting

/-! ## APPLY, SETTLE and BODY (R26, R27, R96) -/

/-- The settle set of a step (R96): the sources of its check channels, and the channels its kind uses. -/
def settleSetOf (r : StepRecord) : PerChannel Bool :=
  let kinds : List Channel :=
    match r.body with
    | .none => []
    | .hold .. | .ramp .. | .pulse .. | .recover .. | .dropout .. => [.vOut]
    | .tripSearch _ _ _ detect _ _ _ => if detect.takesCollapse then [.vOut, .iOut] else [.iOut]
    | .tripTime _ _ detect _ _ _ => if detect.takesCollapse then [.vOut, .iOut] else [.iOut]
    | .derate _ curveT _ _ _ _ _ _ => if curveT.isSome then [.vOut, .iOut, .tInlet] else [.vOut, .iOut]
  let all := kinds ++ (r.checks.map (·.channel.sources)).flatten
  PerChannel.tabulate (fun c => all.contains c)

/-- APPLY entry (R26, R82): blanks, line setpoint, and the start level staged in the step's range. -/
def State.enterApply (s : State) : State :=
  let r := s.engine.record
  let s := (s.setAcq s.acq.openAllBlanks).mapStep (fun c => { c with settleSet := settleSetOf r })
  let s := if r.lineSetpoint = 0 then s else s.setLine r.lineSetpoint
  let s := s.setDrive { s.drive with rangeChanged := false }
  (s.stageStep (.ramp none r.body.start s.engine.safeSlope) (.applying r.body.range)).setPhase .applying

/-- The channels of the step's checks with any the kind asks for, each once (window table). -/
def windowChannels (extra : List CheckChannel) (r : StepRecord) : List CheckChannel :=
  (extra ++ r.checks.map (·.channel)).foldr List.insert []

/-- The walk engine opens a window of the step. -/
def State.openWindow (s : State) (mode : WindowMode) (length : Nat) (channels : List CheckChannel) : State :=
  s.setAcq (s.acq.openWindow s.store.channels mode length channels)

/-- The collapse and alarm detectors of a step that is not a trip step (R127, R158, R164). -/
def State.armDetectors (s : State) : State :=
  s.setAcq (s.acq.armCollapse s.engine.ratings.vCollapse).armAlarm

/-- The detectors of a trip step, by its detect source (R140). -/
def State.armTripDetectors (s : State) (detect : Detect) (threshold : Nat) : State :=
  let a := if detect.takesCollapse then s.acq.armCollapse threshold else s.acq
  s.setAcq (if detect.takesAlarm then a.armAlarm else a)

/-- A RECOVER step's regulation wait begins (R153). -/
def State.beginRegulationWait (s : State) : State :=
  (s.setAcq (s.acq.armRegulation s.engine.ratings.vRegLow)).setStage .regulationWait

/-- The dropout window opens at the entry to OFF (R165). -/
def State.openDropoutWindow (s : State) : State :=
  s.openWindow .span 0 (windowChannels [.measured .vOut] s.engine.record)

/-- What BODY start requests for each kind (R127 to R131, R140, R144, R147, R152, R158, R164). -/
def State.startBody (s : State) : State :=
  let r := s.engine.record
  match r.body with
  | .none => s
  | .hold _ => (s.openWindow .counted r.window (windowChannels [] r)).armDetectors
  | .ramp iFrom iTo slope =>
    ((s.openWindow .span 0 (windowChannels [] r)).armDetectors).stageStep (.ramp (some iFrom) iTo slope) .plain
  | .pulse lo hi period high cycles =>
    ((s.openWindow .span 0 (windowChannels [] r)).armDetectors).stageStep (.pulse lo hi period high cycles) .plain
  | .tripSearch iFrom slope iCeiling detect threshold _ _ =>
    ((s.armTripDetectors detect threshold).openWindow .span 0 []).stageStep
      (.ramp (some iFrom) iCeiling slope) .plain
  | .tripTime _ iOver detect threshold _ tMax =>
    (((s.armTripDetectors detect threshold).openWindow .span 0 []).stageStep
      (GenSet.levelAt iOver) .plain).mapStep (fun c => { c with wait := some (tMax + Config.tripWaitExtra) })
  | .recover _ resetPulse =>
    if resetPulse = 0 then s.beginRegulationWait
    else (s.setDrive (s.drive.startResetPulse (resetPulse * 10))).setStage .resetPulse
  | .derate .. =>
    ((s.openWindow .counted r.window (windowChannels [.measured .vOut] r)).armDetectors).setStage .reference
  | .dropout _ lead dropout restore _ =>
    let s := (s.setDrive (s.drive.startCoupling lead dropout restore)).armDetectors
    if lead = 0 then s.openDropoutWindow else s

/-- BODY begins at the sample of settle complete (R26, R96). -/
def State.enterBody (s : State) : State :=
  let s := (s.mapStep (fun c => { c with bodySeq := s.acq.seq, stage := .main })).setPhase .body
  s.startCapture.startBody

/-! ## Trip events (R79, R103, R141, R149, R167) -/

/-- The MIN of averaged V_OUT over the window. -/
def State.windowMin (s : State) : Option Int := s.acq.window.statistic (.measured .vOut) .minimum

/-- The dropout window is closed and evaluated: V_min is recorded when a sample was accumulated (R165). -/
def State.evaluateDropout (s : State) : State :=
  if s.acq.window.live then
    (s.mapFigures (fun g => { g with vMin := s.windowMin })).evaluateWindow
  else s

/-- The trip event due at the latest sample: source, date and I_trip (R103, R121). -/
def State.tripEvent (s : State) : Trip :=
  let d := s.acq.detectors
  let back := if d.collapseDue then Config.collapseRun - 1 else 0
  let i := tripCurrent s.acq.history back
  { source := if d.collapseDue then (if d.alarmDue then .both else .collapse) else .alarm
    date := s.acq.seq - BitVec.ofNat 32 back
    iTrip := i.1
    mark := i.2 }

/-- The kind's verdict of a trip step on the trip taken in its BODY (R146, R148). -/
def tripVerdict (body : StepBody) (iTrip : Int) (tTrip : Nat) : List Verdict :=
  match body with
  | .tripSearch _ _ _ _ _ tripLo tripHi =>
    if (tripLo : Int) ≤ iTrip ∧ iTrip ≤ tripHi then [] else [.tripCurrent]
  | .tripTime _ _ _ _ tMin tMax =>
    if tTrip < tMin then [.tripEarly] else if tTrip ≤ tMax then [] else [.noTrip]
  | _ => []

/-- The span of the coupling in force (R167). -/
def Coupling.span : Coupling → Option TripSpan
  | .none => Option.none
  | .lead .. => some .lead
  | .off .. => some .off
  | .restore _ => some .restore

/-- The trip capture starts, and a trip step that captures nothing ends at the delivery sample (R142,
R149). -/
def State.tripExit (s : State) : State :=
  let s := s.startTripCapture
  if s.acq.capture.state = .collecting then s else s.endStep .normal []

/-- A trip step takes the trip in BODY as its own (R141). -/
def State.takeOwnTrip (s : State) (t : Trip) (c : StepContext) : State :=
  let tTrip := tripTime t.date c.bodySeq
  let s := (s.setBay (s.bay.assertUnit .trip)).mapFigures (fun g => { g with
    trip := some t
    tTrip := if s.engine.kind = .tripTime then some tTrip else none })
  let s := (s.contribute (tripVerdict s.engine.record.body t.iTrip tTrip)).closeCounting
  ((s.mapStep (fun c => { c with wait := none })).setPhase .exiting).tripExit

/-- A trip step takes a trip in the EXIT that follows NO_TRIP (R149). -/
def State.takeLateTrip (s : State) (t : Trip) : State :=
  ((s.setBay (s.bay.assertUnit .trip)).mapFigures (fun g => { g with trip := some t })).tripExit

/-- A DROPOUT step takes the trip in BODY and is judged HOLDUP (R167). -/
def State.takeDropoutTrip (s : State) (t : Trip) (span : Option TripSpan) : State :=
  ((s.mapFigures (fun g => { g with trip := some t, tripSpan := span })).evaluateDropout.endBody).endStep .trip
    [.holdup]

/-- Whether the latest sample completes the step's window, so that the window is evaluated at it also when
a trip of the sample is taken first: the DONE sample of HOLD and of the watch of RECOVER, and the end
report of RAMP and PULSE (R103, R134, R136). DEDUCED (notes/assumptions/37.md): the watch too; the
reference window of DERATE is closed without evaluation, as R162 says. -/
def State.windowEnds (s : State) : Bool :=
  match s.engine.record.body with
  | .hold _ | .recover .. => s.acq.window.complete
  | .ramp .. => s.engine.phase == .body && s.drive.status == .ended
  | .pulse .. => s.drive.cycleEnded && s.drive.lastCycle
  | _ => false

/-- The window of a step that a trip ends at the sample that completes it: evaluated, with the MIN of a
watch recorded (R103, R156). -/
def State.evaluateAtTrip (s : State) : State :=
  (match s.engine.kind with
    | .recover => s.mapFigures (fun g => { g with watchMin := s.windowMin })
    | _ => s).evaluateWindow

/-- An unexpected trip (R27, R65, R135), at a sample that completes the step's window or does not
(R136). -/
def State.takeUnexpectedTrip (s : State) (t : Trip) (completes : Bool) : State :=
  let s := if completes then s.evaluateAtTrip else s
  ((s.setBay (s.bay.assertUnit .trip)).mapFigures (fun g => { g with trip := some t })).endStep .trip
    [.unexpectedTrip]

/-- The trip event due is delivered: the drive unit makes its trip drop, the detectors are disarmed, and
the step takes it by its kind and phase (R103). -/
def State.deliverTrip (s : State) : State :=
  let t := s.tripEvent
  let span := s.drive.coupling.span
  let completes := s.windowEnds
  let s := (s.setAcq s.acq.disarmTrips).tripDrop
  match s.engine.step with
  | none => s
  | some c =>
    if s.engine.kind.tripKind then
      if s.engine.phase = .body then s.takeOwnTrip t c else s.takeLateTrip t
    else if s.engine.kind = .dropout then s.takeDropoutTrip t span
    else s.takeUnexpectedTrip t completes

/-! ## ADMIT and GATE (R23 to R25, R51 to R54, R59 to R61) -/

/-- The gate begins with its quiet wait (R25, R59). With gate_quiet 0 the wait's end is due at once and is an event
of its own (DESIGN CHOICE, notes/assumptions/45.md). -/
def State.enterGate (s : State) : State := (s.setBay s.bay.enterQuiet).setPhase .gate

/-- The step is admitted: GATE for a gated kind, APPLY otherwise (R24). -/
def State.admitted (s : State) : State :=
  let s := s.setBay s.bay.idleProtocol
  if s.engine.kind.gated then s.enterGate else s.enterApply

/-- An admission attempt begins (R52). -/
def State.beginAttempt (s : State) : State :=
  (s.setBay (s.bay.raise s.stepClaim s.lineSettle)).setPhase .admitting

/-- The capture mode of a step (R106, R108). -/
def captureModeOf (r : StepRecord) : CaptureMode :=
  if r.captureBlocks = 0 then .none else if r.kind.tripKind then .trip else .terminal

/-- The step context at ADMIT entry (R23). -/
def StepContext.fresh (page : Page) (index : Nat) (r : StepRecord) (seq : Seq) (load : Nat) : StepContext where
  page := page
  index := index
  record := r
  admitSeq := seq
  admitLevel := load
  timeLeft := r.timeLimit * 10
  contributions := []
  clamped := false
  settleSet := PerChannel.same false
  bodySeq := seq
  stage := .main
  wait := none
  limits := (0, 0)
  windowCount := 0
  checks := r.checks.map (fun _ => CheckResult.notEvaluated)
  figures := ⟨none, none, none, none, none, none, none, false, none, none, none, false⟩

/-- The slot of an index on the current page. -/
def State.currentSlot (s : State) (index : Nat) : StepRecord := s.store.slot (s.engine.page.getD .a) index

/-- A step begins: the record is read, the context and the step's counts start afresh, and the prior
claim is saved (R23, R51). -/
def State.beginStep (s : State) (index : Nat) : State :=
  let r := s.currentSlot index
  let c := StepContext.fresh (s.engine.page.getD .a) index r s.acq.seq s.load
  let s := s.setEngine { s.engine with walk := .running, phase := .admitting, step := some c, lastIndex := some index }
  let s := (s.setBay s.bay.admitEntry).setDrive { s.drive with completed := 0 }
  s.setAcq { s.acq with window := Window.reset, capture := { Capture.reset with mode := captureModeOf r } }

/-- ADMIT entry (R23, R51): admitted at once under the claim driven, OVER_BAY above L, or the first
attempt. DESIGN CHOICE (notes/assumptions/42.md): L and line_settle are those of the stored record, also for a
START_WALK taken in the sample interval of its CONFIGURE, before the next sample of R57. -/
def State.enterAdmit (s : State) (index : Nat) : State :=
  let s := s.beginStep index
  if s.stepClaim ≤ s.bay.drivenClaim then s.admitted
  else if s.bayLimit < s.stepClaim then s.endStep .normal [.overBay]
  else s.beginAttempt

/-! ## Winddown, page wait and the boundary (R31, R34, R39 to R41) -/

/-- The WALK_SUMMARY of the walk (R32). -/
def Engine.summary (e : Engine) : WalkSummary :=
  ⟨e.reason == some .pass, e.reason.getD .fail, e.tallies.stepsRun, e.tallies.stepsFailed, e.tallies.firstFail⟩

/-- The WALK_SUMMARY is offered once the WINDDOWN releases are made and no record waits before it (R41,
R42, R180). -/
def State.offerSummary (s : State) : State :=
  if s.engine.walk = .winddown ∧ s.engine.releasesDone ∧ s.engine.waiting = none then
    s.offer (.walkSummary s.engine.summary)
  else s

/-- WINDDOWN entry (R41, R84). -/
def State.enterWinddown (s : State) (reason : Reason) : State :=
  let s := s.setEngine { s.engine with
    walk := .winddown
    pausePending := false
    step := none
    phase := if s.engine.waiting.isSome then .outputStall else .none
    reason := some reason
    pageWaitLeft := 0
    rest := .none
    releasesDone := false }
  let s := s.setLine s.engine.ratings.lineNominal
  s.setDrive (s.drive.stage (.ramp none 0 s.engine.safeSlope) .winddown)

/-- The WINDDOWN releases (R41, R66, R84). -/
def State.makeReleases (s : State) : State :=
  let s := (s.setDrive s.drive.winddownReleases).setBay (s.bay.releaseAll s.lineSettle)
  (s.setEngine { s.engine with releasesDone := true }).offerSummary

/-- The walk becomes PAUSED with a resume index (R34). -/
def State.takePause (s : State) (index : Nat) : State :=
  s.setEngine { s.engine with
    walk := .paused, pausePending := false, resumeIndex := index, step := none, phase := .none }

/-- A boundary: a pending pause is taken when no census unit is held, and otherwise the slot enters
ADMIT (R31, R39). -/
def State.boundary (s : State) (index : Nat) : State :=
  if s.engine.pausePending ∧ ¬ s.bay.ownUnit.asserted then s.takePause index else s.enterAdmit index

/-- The page swap (R39): from now on the old page is writable; a PAGE_SWAP is offered. -/
def State.swapTo (s : State) (page : Page) : State :=
  (s.setEngine { s.engine with walk := .running, page := some page, chain := none, step := none }).offer
    (.pageSwap page)

/-- The comparison that starts the rest ramp of PAGE_WAIT, deferred while a range change runs (R83). -/
def State.compareRest (s : State) : State :=
  if s.drive.rangeChange ≠ .none then s.setEngine { s.engine with rest := .deferred }
  else if s.engine.restLevel * 1000 < s.drive.level then
    (s.setDrive (s.drive.stage (.ramp none s.engine.restLevel s.engine.safeSlope) .plain)).setEngine
      { s.engine with rest := .ramping }
  else s.setEngine { s.engine with rest := .atNextUpdate }

/-- The rest level is reached and the claim lowered to the claim of the level (R40, R83). -/
def State.reachRest (s : State) : State :=
  (s.setBay (s.bay.lowerClaim (claimOf s.load s.engine.ratings.vNom))).setEngine { s.engine with rest := .reached }

/-- PAGE_WAIT entry (R40). -/
def State.enterPageWait (s : State) : State :=
  (s.setEngine { s.engine with
    walk := .pageWait, step := none, phase := .none, pageWaitLeft := s.engine.pageWaitSamples }).compareRest

/-- Page end handling (R39, R40). -/
def State.pageEnd (s : State) : State :=
  match s.engine.chain with
  | some p => s.swapTo p
  | none => s.enterPageWait

/-- The branch after a STEP_RESULT with the given verdict and record is placed: the first case of R31
that holds. -/
def State.branch (s : State) (v : Verdict) (r : StepRecord) : State :=
  let next := if v.failing then r.nextFail else r.nextPass
  if s.engine.abortPending then s.enterWinddown .aborted
  else if v.failing ∧ s.engine.stopOnFail then s.enterWinddown .fail
  else if next = 33 then s.enterWinddown (if s.engine.tallies.allPass then .pass else .fail)
  else if next = 32 then s.pageEnd
  else if (s.currentSlot next).kind = .none then s.enterWinddown .emptyStep
  else s.boundary next

/-- The tallies after a STEP_RESULT is placed (R30, R188). -/
def Tallies.count (t : Tallies) (r : StepResult) : Tallies :=
  if r.verdict.failing then
    { stepsRun := min (t.stepsRun + 1) Config.tallyCeiling
      stepsFailed := min (t.stepsFailed + 1) Config.tallyCeiling
      firstFail := some (t.firstFail.getD (r.page, r.index))
      allPass := false }
  else { t with stepsRun := min (t.stepsRun + 1) Config.tallyCeiling }

/-- What follows the placement of a STEP_RESULT (R30, R31), or of one that waited when the interlock
opened (R42). -/
def State.afterStepResult (s : State) (r : StepResult) : State :=
  let record := s.engine.record
  let s := s.setEngine { s.engine with tallies := s.engine.tallies.count r, phase := .none, step := none }
  if s.engine.walk = .winddown then s.offerSummary else s.branch r.verdict record

/-- What follows the placement of a PAGE_SWAP (R39, R42). -/
def State.afterPageSwap (s : State) : State :=
  let s := s.setPhase .none
  if s.engine.walk = .winddown then s.offerSummary
  else if s.engine.abortPending then s.enterWinddown .aborted
  else if (s.currentSlot 0).kind = .none then s.enterWinddown .emptyStep
  else s.boundary 0

/-- What follows the placement of the WALK_SUMMARY: the walk is over (R41). -/
def State.afterSummary (s : State) (w : WalkSummary) : State :=
  s.setEngine { s.engine with
    walk := if w.verdictPass then .idle else .held
    header := none
    profile := none
    page := none
    chain := none
    step := none
    phase := .none
    releasesDone := false }

/-- What follows the placement of a step-level record. -/
def State.afterPlaced (s : State) : StepLevel → State
  | .stepResult r => s.afterStepResult r
  | .pageSwap _ => s.afterPageSwap
  | .walkSummary w => s.afterSummary w

/-- A waiting step-level record is placed at the tail when an entry is free, and the engine goes on from
there, offering the next when there is one (R30, R180). Every round fills an entry, so the queue's depth
bounds the rounds. -/
def State.placeRecords : Nat → State → State
  | 0, s => s
  | rounds + 1, s =>
    match s.engine.waiting with
    | some r =>
      if s.queue.length < Config.queueDepth then
        placeRecords rounds
          (((s.setQueue (s.queue ++ [.stepLevel r])).setEngine { s.engine with waiting := none }).afterPlaced r)
      else s
    | none => s

/-- The engine goes on as far as the queue lets it. -/
def State.goOn (s : State) : State := State.placeRecords (Config.queueDepth + 1) s

/-! ## The end of SETTLE (R26, R96) -/

/-- An alarm found at the BODY start sample is delivered at once, before any other event of that sample; one
that the sender puts after them (`alarmLate` of the sample) goes on waiting (R102, R162, R168;
notes/assumptions/21.md). -/
def State.deliverFound (s : State) : State :=
  if s.acq.detectors.alarmDue && !s.acq.alarmLate then s.deliverTrip.goOn else s

/-- SETTLE ends when every blank of the settle set is CLOSED, and BODY begins, with the alarm that its first
sample finds (R26, R96, R102). -/
def State.checkSettle (s : State) : State :=
  match s.engine.phase, s.engine.step with
  | .settle, some c => if s.acq.settled c.settleSet then s.enterBody.deliverFound else s
  | _, _ => s

/-- APPLY completes (R26, R82, R95). -/
def State.completeApply (s : State) : State :=
  let s := s.setBay (s.bay.lowerClaim s.stepClaim)
  ((s.setAcq (s.acq.applyCompletion s.store.channels s.drive.rangeChanged)).setPhase .settle).checkSettle

/-! ## DERATE (R159 to R161) -/

/-- Whether a curve is presented as missing against the axis a field requires (R11). -/
def curveMissing (store : PlanStore) (id : Nat) (axis : Axis) : Bool :=
  (store.curve id).points.isEmpty || (store.curve id).axis != some axis

/-- The return level of a DERATE or TRIP_SEARCH step is staged at safe_slope (R145, R161). -/
def State.stageReturn (s : State) : State :=
  s.stageStep (.ramp none s.engine.record.body.start s.engine.safeSlope) .plain

/-- The averaged value and over-range flag of T_INLET at the latest sample. -/
def State.inletNow (s : State) : Int × Bool :=
  match s.acq.latest with
  | some r => (r.average.tInlet, r.overRange.tInlet)
  | none => (0, false)

/-- The figures of a DERATE step at the reference window's DONE sample, and the ramp they lead to or the
end a missing curve makes (R116, R117, R159, R160). -/
def State.derateFigures (s : State) (curveV : Nat) (curveT : Option Nat)
    (iFrom slope iCeiling kneeDrop tolLo tolHi : Nat) : State :=
  let vRef := (s.acq.window.statistic (.measured .vOut) .mean).getD 0
  if curveMissing s.store curveV .voltage || curveT.any (fun c => curveMissing s.store c .temperature) then
    ((s.mapFigures (fun g => { g with vRef := some vRef, pExp := some 0, curveMissing := true })).endBody).endStep
      .normal [.limit]
  else
    let yV := curveValue (s.store.curve curveV).points s.engine.record.lineSetpoint
    let yT := match curveT with
      | some c => curveValue (s.store.curve c).points s.inletNow.1
      | none => 1000
    let pExp := expectedPower s.engine.ratings.pRated yV yT
    let s := s.mapFigures (fun g => { g with
      vRef := some vRef
      tUsed := if curveT.isSome then some s.inletNow.1 else none
      tUsedMark := curveT.isSome && s.inletNow.2
      pExp := some pExp })
    let s := s.mapStep (fun c => { c with limits := (powerLow pExp tolLo, powerHigh pExp tolHi), stage := .kneeRamp })
    let s := s.stageStep (.ramp (some iFrom) iCeiling slope) .plain
    s.setAcq ((s.acq.armKnee (vRef - kneeDrop)).openWindowNext s.store.channels)

/-- A DERATE ramp ends: the ramp window closes, BODY ends and the return ramp is staged (R161). -/
def State.endKneeRamp (s : State) (vs : List Verdict) : State :=
  let s := (s.contribute vs).setAcq { s.acq.disarmKnee with window := s.acq.window.close }
  s.endBody.stageReturn

/-- The kind's verdict of a P_knee against P_lo and P_hi (R161). -/
def kneeVerdict (pKnee pLo pHi : Nat) : List Verdict :=
  if pKnee < pLo then [.derateLow] else if pHi < pKnee then [.derateHigh] else []

/-- The knee event (R105, R118, R161). -/
def State.knee (s : State) : State :=
  match s.acq.latest, s.engine.step with
  | some r, some c =>
    let pKnee := outputPower r.average.vOut r.average.iOut
    (s.mapFigures (fun g => { g with pKnee := some pKnee })).endKneeRamp (kneeVerdict pKnee c.limits.1 c.limits.2)
  | _, _ => s

/-! ## Windows that end BODY (R128 to R133, R154, R159, R166) -/

/-- A COUNTED window is DONE (R99): HOLD ends, RECOVER judges its watch, DERATE forms its figures. -/
def State.windowDone (s : State) : State :=
  let low := s.windowMin
  let s := s.evaluateWindow
  match s.engine.record.body with
  | .hold _ => s.endBody.endStep .normal []
  | .recover .. =>
    let regulated := low.any (fun v => decide ((s.engine.ratings.vRegLow : Int) ≤ v))
    ((s.mapFigures (fun g => { g with watchMin := low })).endBody).endStep .normal
      (if regulated then [] else [.noRecovery])
  | .derate curveV curveT iFrom slope iCeiling kneeDrop tolLo tolHi =>
    s.derateFigures curveV curveT iFrom slope iCeiling kneeDrop tolLo tolHi
  | _ => s

/-- A RAMP or PULSE step's window is closed and evaluated, and the step ends in EXIT (R129 to R133). -/
def State.endSpanStep (s : State) : State := s.evaluateWindow.endBody.endStep .normal []

/-- The dropout coupling has run to its end, and the step is judged on V_min (R166). -/
def State.judgeDropout (s : State) (vMin : Nat) : State :=
  let held := s.acq.window.live && s.windowMin.any (fun v => decide ((vMin : Int) ≤ v))
  s.evaluateDropout.endBody.endStep .normal (if held then [] else [.holdup])

/-! ## Ends of the drive's sets (R72, R82 to R84) -/

/-- The end of a set in the BODY of each kind (R129, R131, R145, R154, R161). -/
def State.setEndInBody (s : State) : State :=
  match s.engine.record.body, s.engine.step with
  | .ramp .., _ => s.endSpanStep
  | .pulse .., _ => s.endSpanStep
  | .tripSearch .., _ => s.mapStep (fun c => { c with wait := some Config.ceilingHold })
  | .recover .., some c =>
    if c.stage = .restRamp then
      (s.openWindow .counted Config.watchLength (windowChannels [.measured .vOut] s.engine.record)).setStage .watch
    else s
  | .derate .., some c => if c.stage = .kneeRamp then s.endKneeRamp [.noKnee] else s
  | _, _ => s

/-- The end of a set in the EXIT of each kind (R132, R145, R147, R149, R161). -/
def State.setEndInExit (s : State) : State :=
  match s.engine.record.body, s.engine.step with
  | .pulse .., _ => s.evaluateWindow.endStep .normal []
  | .tripSearch .., some c => if c.figures.trip.isNone then s.endStep .normal [] else s
  | .tripTime .., some c => if c.figures.trip.isNone then s.endStep .normal [] else s
  | .derate .., _ => s.endStep .normal []
  | _, _ => s

/-- The walk engine takes the reported end of the set in force. An end reported while another set waits
is not the waiting set's. -/
def State.takeSetEnd (s : State) : State :=
  match s.engine.walk with
  | .winddown => if s.drive.staged.isNone ∧ ¬ s.engine.releasesDone then s.makeReleases else s
  | .pageWait => if s.engine.rest = .ramping then s.reachRest else s
  | .running =>
    if s.engine.stepping then
      match s.engine.phase with
      | .applying => if s.drive.staged.isNone then s.completeApply else s
      | .body => s.setEndInBody
      | .exiting => s.setEndInExit
      | _ => s
    else s
  | _ => s

/-- The set in force has ended and is replaced by a LEVEL set at its level; the end is reported, and a
set that waited goes on (R72, R73). -/
def State.reportSetEnd (s : State) : State :=
  let s := (s.setDrive s.drive.holdLevel).takeSetEnd
  s.setDrive s.drive.releaseStaged

/-! ## Ends by time limit, ABORT and the interlock (R28, R36, R42) -/

/-- Time limit expiry or ABORT acts on the drive and the bay by the phase it finds (R28, R75). -/
def State.stopStep (s : State) : State :=
  if s.engine.phase.drives then s.setDrive s.drive.halt else s.setBay (s.bay.cutOff s.lineSettle)

/-- The step time limit expires (R28). -/
def State.expireStep (s : State) : State :=
  s.stopStep.endStep .expiry [if s.engine.kind = .recover then .noRecovery else .timeout]

/-- ABORT ends the step in progress (R36). -/
def State.abortStep (s : State) : State :=
  (s.stopStep.setEngine { s.stopStep.engine with abortPending := true }).endStep .abort [.aborted]

/-- The immediate drop with the bay release of an interlock opening (R42, R66, R80). -/
def State.dropAll (s : State) : State :=
  (s.setDrive s.drive.immediateDrop).setBay (s.bay.releaseAll s.lineSettle)

/-- The interlock opens in WINDDOWN: the reason is replaced until the WALK_SUMMARY is placed, and the
releases are made at once (R32, R42, R84). -/
def State.interlockInWinddown (s : State) : State :=
  let s := s.setEngine { s.engine with reason := some .interlock }
  if s.engine.releasesDone then
    match s.engine.waiting with
    | some (.walkSummary _) =>
      s.setEngine { s.engine with waiting := some (.walkSummary s.engine.summary) }
    | _ => s
  else s.makeReleases

/-- The interlock opens while a walk is active (R42). -/
def State.interlockWalk (s : State) : State :=
  let s := s.dropAll
  if s.engine.walk = .winddown then s.interlockInWinddown.goOn
  else
    let s := if s.engine.stepping then s.endStep .interlock [.aborted] else s
    (s.enterWinddown .interlock).goOn

end Sys2Proof.Machine
end

