-- ==== Sys2Proof/Machine/Events.lean ====
section
/-! DEFINITION. The part's own events: what becomes due at a sample and is taken by a row of the table.
Each is an `Option`: `none` while the event is not due, when its row changes nothing
(notes/assumptions/2.md), and otherwise the state after it. An event that can end a step goes on with
the records the walk engine then offers. -/

namespace Sys2Proof.Machine

/-! ## Acquisition -/

/-- COLLAPSE_DETECT (R101, R103): the collapse run has reached 3, and the trip event is delivered. -/
def State.collapseDetect (s : State) : Option State :=
  if s.engine.stepping && s.acq.detectors.collapseDue then some s.deliverTrip.goOn else none

/-- An alarm detection that has not been delivered yet is delivered (R102, R103). -/
def State.alarmDetect (s : State) : Option State :=
  if s.engine.stepping && s.acq.detectors.alarmDue then some s.deliverTrip.goOn else none

/-- A knee that has not been delivered yet is delivered (R105, R161). -/
def State.kneeEvent (s : State) : Option State :=
  if s.engine.stepping && s.acq.detectors.kneeDue then some s.knee else none

/-- A RECOVER step takes its regulation event: the recovery time, the detectors armed from the next
sample, and the ramp to I_rest (R104, R153, R154). -/
def State.takeRegulation (s : State) : State :=
  match s.engine.step, s.engine.record.body with
  | some c, .recover iRest _ =>
    let s := s.mapFigures (fun g => { g with recovery := some (interval s.acq.seq c.bodySeq) })
    let s := s.setAcq (s.acq.disarmRegulation.armFromNext s.engine.ratings.vCollapse)
    (s.stageStep (.ramp none iRest s.engine.safeSlope) .plain).setStage .restRamp
  | _, _ => s.setAcq s.acq.disarmRegulation

/-- REGULATION_EVENT (R104): the regulation run has reached 10. -/
def State.regulationEvent (s : State) : Option State :=
  if s.engine.stepping && s.acq.detectors.regulationDue then some s.takeRegulation else none

/-- BLANK_CLOSE (R95, R96): the channel's blank count has reached 0. -/
def State.blankClose (channel : Channel) (s : State) : Option State :=
  if s.acq.blanks.get channel = .counting 0 then some (s.setAcq (s.acq.closeBlank channel)).checkSettle else none

/-- WINDOW_DONE (R99): a COUNTED window has reached its length. -/
def State.windowEvent (s : State) : Option State :=
  if s.engine.stepping && s.acq.window.complete then some s.windowDone.goOn else none

/-- A block is offered at its twelfth pair, or as the last of a trip capture. Capture is DONE with its
last block, and a trip step that waits for it in EXIT then ends (R106, R108, R142, R149). -/
def State.takeBlockOffer (s : State) : State :=
  let s := s.offerBlock
  let c := s.acq.capture
  match c.mode with
  | .terminal => if s.engine.record.captureBlocks ≤ c.nextIndex then s.setCapture { c with state := .done } else s
  | .trip =>
    if c.left = 0 then
      let s := s.setCapture { c with state := .done }
      if s.engine.stepping && s.engine.phase == .exiting && s.engine.kind.tripKind then s.endStep .normal [] else s
    else s
  | .none => s

/-- CAPTURE_BLOCK_OFFER (R106, R108). -/
def State.captureBlockOffer (s : State) : Option State :=
  if s.acq.capture.blockDue then some s.takeBlockOffer.goOn else none

/-! ## Limits and waits of the walk engine -/

/-- STEP_TIME_LIMIT_EXPIRY (R28): the time limit has run out. -/
def State.stepTimeLimitExpiry (s : State) : Option State :=
  if s.engine.stepping && s.engine.step.any (fun c => c.timeLeft == 0) then some s.expireStep.goOn else none

/-- PAGE_WAIT_EXPIRY (R40): the page wait limit has run out. -/
def State.pageWaitExpiry (s : State) : Option State :=
  if s.engine.walk == .pageWait && s.engine.pageWaitLeft == 0 then some (s.enterWinddown .starved) else none

/-- Whether a counted wait of a trip step's BODY has run out. -/
def State.waitOver (s : State) : Bool :=
  s.engine.stepping && s.engine.phase == .body && s.engine.step.any (fun c => c.wait == some 0)

/-- A trip step's BODY ends with NO_TRIP, and its window closes (R145, R147). -/
def State.endWait (s : State) : State :=
  (((s.contribute [.noTrip]).closeCounting).mapStep (fun c => { c with wait := none })).setPhase .exiting

/-- CEILING_HOLD_END (R145): the return ramp is staged. -/
def State.ceilingHoldEnd (s : State) : Option State :=
  if s.waitOver && s.engine.kind == .tripSearch then some s.endWait.stageReturn else none

/-- TRIP_WAIT_END (R147): the return to I_pre is staged. -/
def State.tripWaitEnd (s : State) : Option State :=
  if s.waitOver && s.engine.kind == .tripTime then
    some (s.endWait.stageStep (GenSet.levelAt s.engine.record.body.start) .plain)
  else none

/-- Whether a PULSE step of cycles 0 is due for its stop request: its time limit is at most period + 1
samples away (R132). -/
def State.stopDue (s : State) : Bool :=
  match s.engine.step with
  | some c =>
    match c.record.body with
    | .pulse _ _ period _ cycles =>
      s.engine.stepping && s.engine.phase == .body && cycles == 0 && decide (c.timeLeft ≤ period + 1)
    | _ => false
  | none => false

/-- PULSE_STOP_REQUEST (R132): BODY ends, and the pulse is asked to stop at its cycle's end. -/
def State.pulseStopRequest (s : State) : Option State :=
  if s.stopDue then some (s.endBody.setDrive s.endBody.drive.stopPulse) else none

/-- STALLED_RECORD_PLACED (R180, R182): a record that waits is placed in a free entry, and the walk
engine goes on. A completed transaction that removes the head does this in its own event
(notes/assumptions/9.md). -/
def State.stalledRecordPlaced (s : State) : Option State :=
  if s.engine.waiting.isSome && decide (s.queue.length < Config.queueDepth) then some s.goOn else none

/-! ## The bay interface -/

/-- The admission decision (R52 to R54). -/
def State.decideAdmission (s : State) : State :=
  if s.bay.bayTotal ≤ s.bayLimit then s.admitted
  else if s.bay.admissionAttempts < s.attemptLimit then
    (s.setBay (s.bay.withdraw.enterBackoff s.slotSamples)).setPhase .backoff
  else (s.setBay s.bay.withdraw.idleProtocol).endStep .normal [.denied]

/-- ADMISSION_DECISION (R52): RAISING has run its line_settle. -/
def State.admissionDecision (s : State) : Option State :=
  if s.engine.stepping && s.bay.protocol == .raising && s.bay.protocolCount == 0 then
    some s.decideAdmission.goOn
  else none

/-- BACKOFF_END (R53): the next attempt begins. -/
def State.backoffEnd (s : State) : Option State :=
  if s.engine.stepping && s.bay.protocol == .backoff && s.bay.protocolCount == 0 then some s.beginAttempt
  else none

/-- QUIET_WAIT_END (R59, R60): the quiet count has reached gate_quiet. With gate_quiet 0 it is due from the event
that enters QUIET, whatever the readings. DESIGN CHOICE (notes/assumptions/45.md): it is an event of its own there too,
so that another event of the same sample interval can find QUIET before it. -/
def State.quietWaitEnd (s : State) : Option State :=
  if s.engine.stepping && s.bay.protocol == .quiet && decide (s.quietSamples ≤ s.bay.protocolCount) then
    some (s.setBay (s.bay.enterAsserting s.lineSettle))
  else none

/-- The gate decision (R60, R61). -/
def State.decideGate (s : State) : State :=
  if s.bay.censusOthers = 0 then (s.setBay (s.bay.assertUnit .gate).idleProtocol).enterApply
  else
    let s := s.setBay (s.bay.releaseAttempt s.lineSettle)
    if s.bay.gateAttempts < s.attemptLimit then
      (s.setBay (s.bay.enterGateBackoff s.slotSamples)).setPhase .gateBackoff
    else (s.setBay s.bay.idleProtocol).endStep .normal [.denied]

/-- GATE_DECISION (R60): ASSERTING has run its line_settle. -/
def State.gateDecision (s : State) : Option State :=
  if s.engine.stepping && s.bay.protocol == .asserting && s.bay.protocolCount == 0 then some s.decideGate.goOn
  else none

/-- GATE_BACKOFF_END (R61): the next attempt begins with its quiet wait. -/
def State.gateBackoffEnd (s : State) : Option State :=
  if s.engine.stepping && s.bay.protocol == .gateBackoff && s.bay.protocolCount == 0 then some s.enterGate
  else none

/-- RELEASE_SPAN_END (R46): the span after the unit's release has run out. -/
def State.releaseSpanEnd (s : State) : Option State :=
  if s.bay.releaseSpan = some 0 then some (s.setBay { s.bay with releaseSpan := none }) else none

/-! ## The drive unit -/

/-- GENERATOR_SET_END (R72): the set in force has reached its end. -/
def State.generatorSetEnd (s : State) : Option State :=
  if s.drive.status = .ended then some s.reportSetEnd.goOn else none

/-- APPLY_COMPLETE (R26): the end that is reported is that of the APPLY set. -/
def State.applyComplete (s : State) : Option State :=
  if s.engine.stepping && s.engine.phase == .applying && s.drive.status == .ended && s.drive.staged.isNone then
    some s.reportSetEnd
  else none

/-- A pulse cycle ends; the end of its last cycle is the end of the pulse, reported in the same event
(R74). -/
def State.takeCycleEnd (s : State) : State :=
  let ended := s.setDrive s.drive.endCycle
  if s.drive.lastCycle then
    let ended := ended.takeSetEnd
    ended.setDrive ended.drive.releaseStaged
  else ended

/-- PULSE_CYCLE_END (R74): the last low sample of a cycle has been taken. -/
def State.pulseCycleEnd (s : State) : Option State :=
  if s.drive.cycleEnded then some s.takeCycleEnd.goOn else none

/-- RANGE_DOWN_END (R78): the DOWN ramp has reached 0. -/
def State.rangeDownEnd (s : State) : Option State :=
  match s.drive.rangeChange with
  | .down _ true => some (s.setDrive s.drive.endDown)
  | _ => none

/-- The relay count has reached 0 (R77, R78); a PAGE_WAIT whose comparison waited for the range change
makes it now (R83). -/
def State.takeRelayExpiry (s : State) : State :=
  let s := s.setDrive s.drive.relayExpiry
  if s.engine.walk == .pageWait && s.engine.rest == .deferred then s.compareRest else s

/-- RELAY_COUNT_EXPIRY (R77): the relay count is 0 and something waits for it. -/
def State.relayCountExpiry (s : State) : Option State :=
  if s.drive.relayCount == 0 && (s.drive.rangeChange == .relayWait || s.drive.loadRequest) then
    some s.takeRelayExpiry
  else none

/-- The dropout coupling ends its last span: a set that waited goes on, and the step is judged (R73,
R86, R166). -/
def State.takeCouplingEnd (s : State) : State :=
  let s := s.setDrive { s.drive with coupling := .none }.releaseStaged
  match s.engine.record.body with
  | .dropout _ _ _ _ vMin => if s.engine.stepping then s.judgeDropout vMin else s
  | _ => s

/-- COUPLING_SPAN_END (R86): a span of the dropout coupling has run out. The last sample of RESTORE is
its end, so RESTORE counts one sample less. -/
def State.couplingSpanEnd (s : State) : Option State :=
  match s.drive.coupling with
  | .lead 0 dropout restore =>
    some (s.setDrive { s.drive with coupling := .off dropout restore, lineEnable := false }).openDropoutWindow
  | .off 0 restore =>
    some (s.setDrive { s.drive with coupling := .restore (restore - 1), lineEnable := true })
  | .restore 0 => some s.takeCouplingEnd.goOn
  | _ => none

/-- RESET_PULSE_END (R88, R153): shelf enable becomes active, and the regulation wait begins. -/
def State.resetPulseEnd (s : State) : Option State :=
  if s.drive.resetPulse = some 0 then
    let s := s.setDrive s.drive.endResetPulse
    some (if s.engine.stepping && s.engine.step.any (fun c => c.stage == .resetPulse) then s.beginRegulationWait
      else s)
  else none

/-! ## Events that are due and that no row has taken -/

/-- The events in the order in which the next SAMPLE takes those still due (notes/assumptions/3.md):
those of the sample first, the limits last. A trip is taken before the ends it could meet. -/
def dueEvents : List (State → Option State) :=
  [ State.captureBlockOffer, State.collapseDetect, State.regulationEvent,
    State.blankClose .vOut, State.blankClose .iOut, State.blankClose .vLine, State.blankClose .pLine,
    State.blankClose .tInlet, State.windowEvent, State.pulseCycleEnd, State.generatorSetEnd,
    State.rangeDownEnd, State.relayCountExpiry, State.couplingSpanEnd, State.resetPulseEnd,
    State.releaseSpanEnd, State.admissionDecision, State.backoffEnd, State.quietWaitEnd,
    State.gateDecision, State.gateBackoffEnd, State.ceilingHoldEnd, State.tripWaitEnd,
    State.pulseStopRequest, State.pageWaitExpiry, State.stepTimeLimitExpiry,
    State.alarmDetect, State.kneeEvent ]

/-- The state after the first event of a list that is due. -/
def firstDue (s : State) : List (State → Option State) → Option State
  | [] => none
  | event :: rest => (event s).orElse (fun _ => firstDue s rest)

/-- How many events of one sample are taken at most; more than any sample can have
(notes/assumptions/3.md). -/
def dueRounds : Nat := 64

/-- Due events are taken one by one until none is due. -/
def State.takeDue : Nat → State → State
  | 0, s => s
  | rounds + 1, s =>
    match firstDue s dueEvents with
    | some t => takeDue rounds t
    | none => s

/-- Everything still due is taken. -/
def State.settleDue (s : State) : State := State.takeDue dueRounds s

end Sys2Proof.Machine
end

