-- ==== Sys2Proof/Machine/EventRows.lean ====
section
/-! DEFINITION. The event rows of the table: each takes its event when it is due, and changes nothing
otherwise (notes/assumptions/2.md); and the two rows of the interlock input. -/

namespace Sys2Proof.Machine

/-- COLLAPSE_DETECT (R101). -/
def execCollapseDetect (s : State) : Host.Outcome State Fault Refusal := .next (s.collapseDetect.getD s)

/-- REGULATION_EVENT (R104). -/
def execRegulationEvent (s : State) : Host.Outcome State Fault Refusal := .next (s.regulationEvent.getD s)

/-- STEP_TIME_LIMIT_EXPIRY (R28). -/
def execStepTimeLimitExpiry (s : State) : Host.Outcome State Fault Refusal := .next (s.stepTimeLimitExpiry.getD s)

/-- PAGE_WAIT_EXPIRY (R40). -/
def execPageWaitExpiry (s : State) : Host.Outcome State Fault Refusal := .next (s.pageWaitExpiry.getD s)

/-- ADMISSION_DECISION (R52 to R54). -/
def execAdmissionDecision (s : State) : Host.Outcome State Fault Refusal := .next (s.admissionDecision.getD s)

/-- BACKOFF_END (R53). -/
def execBackoffEnd (s : State) : Host.Outcome State Fault Refusal := .next (s.backoffEnd.getD s)

/-- QUIET_WAIT_END (R59, R60). -/
def execQuietWaitEnd (s : State) : Host.Outcome State Fault Refusal := .next (s.quietWaitEnd.getD s)

/-- GATE_DECISION (R60, R61). -/
def execGateDecision (s : State) : Host.Outcome State Fault Refusal := .next (s.gateDecision.getD s)

/-- GATE_BACKOFF_END (R61). -/
def execGateBackoffEnd (s : State) : Host.Outcome State Fault Refusal := .next (s.gateBackoffEnd.getD s)

/-- RELEASE_SPAN_END (R46). -/
def execReleaseSpanEnd (s : State) : Host.Outcome State Fault Refusal := .next (s.releaseSpanEnd.getD s)

/-- GENERATOR_SET_END (R72). -/
def execGeneratorSetEnd (s : State) : Host.Outcome State Fault Refusal := .next (s.generatorSetEnd.getD s)

/-- PULSE_CYCLE_END (R74). -/
def execPulseCycleEnd (s : State) : Host.Outcome State Fault Refusal := .next (s.pulseCycleEnd.getD s)

/-- PULSE_STOP_REQUEST (R132). -/
def execPulseStopRequest (s : State) : Host.Outcome State Fault Refusal := .next (s.pulseStopRequest.getD s)

/-- RANGE_DOWN_END (R78). -/
def execRangeDownEnd (s : State) : Host.Outcome State Fault Refusal := .next (s.rangeDownEnd.getD s)

/-- RELAY_COUNT_EXPIRY (R77, R78). -/
def execRelayCountExpiry (s : State) : Host.Outcome State Fault Refusal := .next (s.relayCountExpiry.getD s)

/-- APPLY_COMPLETE (R26, R82). -/
def execApplyComplete (s : State) : Host.Outcome State Fault Refusal := .next (s.applyComplete.getD s)

/-- WINDOW_DONE (R99). -/
def execWindowDone (s : State) : Host.Outcome State Fault Refusal := .next (s.windowEvent.getD s)

/-- CEILING_HOLD_END (R145). -/
def execCeilingHoldEnd (s : State) : Host.Outcome State Fault Refusal := .next (s.ceilingHoldEnd.getD s)

/-- TRIP_WAIT_END (R147). -/
def execTripWaitEnd (s : State) : Host.Outcome State Fault Refusal := .next (s.tripWaitEnd.getD s)

/-- COUPLING_SPAN_END (R86). -/
def execCouplingSpanEnd (s : State) : Host.Outcome State Fault Refusal := .next (s.couplingSpanEnd.getD s)

/-- RESET_PULSE_END (R88, R153). -/
def execResetPulseEnd (s : State) : Host.Outcome State Fault Refusal := .next (s.resetPulseEnd.getD s)

/-- CAPTURE_BLOCK_OFFER (R106, R108, R181). -/
def execCaptureBlockOffer (s : State) : Host.Outcome State Fault Refusal := .next (s.captureBlockOffer.getD s)

/-- STALLED_RECORD_PLACED (R182). -/
def execStalledRecordPlaced (s : State) : Host.Outcome State Fault Refusal := .next (s.stalledRecordPlaced.getD s)

/-- BLANK_CLOSE (R95, R96). -/
def execBlankClose (channel : Channel) (s : State) : Host.Outcome State Fault Refusal :=
  .next ((State.blankClose channel s).getD s)

/-- INTERLOCK_OPEN (R42): the input opens, and a walk that is active is dropped. -/
def execInterlockOpen (s : State) : Host.Outcome State Fault Refusal :=
  .next (if s.engine.walk.active then (s.setInterlock true).interlockWalk else s.setInterlock true)

/-- INTERLOCK_CLOSE (R42): only STATUS shows it. -/
def execInterlockClose (s : State) : Host.Outcome State Fault Refusal := .next (s.setInterlock false)

end Sys2Proof.Machine
end

