-- ==== Sys2Proof/Machine/Commands.lean ====
section
/-! DEFINITION. The commands of the station port (R173 to R178, R184, R185): each examined by its rule,
with its effects, and answered. A refused command has no effect but its answer (R178). -/

namespace Sys2Proof.Machine

/-! ## Answers -/

/-- An answer is placed in the answer slot, in place of any answer it holds (R173). -/
def State.reply (s : State) (code : Byte) (a : Answer) : State :=
  s.setPort { s.port with answer := some ⟨code, a, none⟩ }

/-- The snapshot of STATUS (R176). -/
def State.snapshot (s : State) : Snapshot where
  walk := s.engine.walk
  phase := s.engine.phase
  page := s.engine.page
  index := s.engine.shownIndex
  drivenClaim := s.bay.drivenClaim
  bayTotal := s.bay.bayTotal
  censusReading := s.bay.censusReading
  censusOthers := s.bay.censusOthers
  ownUnit := s.bay.ownUnit
  admissionAttempts := s.bay.admissionAttempts
  gateAttempts := s.bay.gateAttempts
  level := s.drive.level
  range := s.drive.range
  queueCount := s.queue.length
  interlockOpen := s.interlockOpen
  address := s.bay.address

/-- STATUS (R176). -/
def State.takeStatus (s : State) : State :=
  s.setPort { s.port with answer := some ⟨0x02, .ok, some s.snapshot⟩ }

/-! ## The plan store (R1 to R16, R57, R177) -/

/-- CONFIGURE (R177). -/
def State.takeConfigure (f : ConfigFields) (s : State) : State :=
  match configureRefusal s.store f with
  | some a => s.reply 0x08 a
  | none => (s.setStore { s.store with config := some (storedConfig f) }).reply 0x08 .ok

/-- WRITE_STEP (R3, R16). -/
def State.takeWriteStep (f : StepFields) (s : State) : State :=
  match writeStepRefusal s.engine s.store f with
  | some a => s.reply 0x10 a
  | none =>
    (s.setStore (s.store.putSlot ((Page.ofCode f.page).getD .a) f.index.toNat (storedStep f))).reply 0x10 .ok

/-- WRITE_CURVE (R10). -/
def State.takeWriteCurve (f : CurveFields) (s : State) : State :=
  match tableRefusal s.engine (curveFieldList f) with
  | some a => s.reply 0x11 a
  | none =>
    (s.setStore { s.store with
      curves := s.store.curves.setIfInBounds f.curve.toNat (storedCurve f) }).reply 0x11 .ok

/-- WRITE_PROFILE (R12). -/
def State.takeWriteProfile (f : ProfileFields) (s : State) : State :=
  match tableRefusal s.engine (profileFieldList f) with
  | some a => s.reply 0x12 a
  | none =>
    (s.setStore { s.store with
      profiles := s.store.profiles.setIfInBounds f.profile.toNat (storedProfile f) }).reply 0x12 .ok

/-- WRITE_CHANNEL (R13). -/
def State.takeWriteChannel (f : ChannelFields) (s : State) : State :=
  match tableRefusal s.engine (channelFieldList f) with
  | some a => s.reply 0x13 a
  | none =>
    (s.setStore { s.store with
      channels := s.store.channels.put ((channelOfCode f.channel).getD .vOut) (storedChannel f) }).reply 0x13 .ok

/-! ## The walk engine (R21, R22, R33 to R38) -/

/-- The walk engine at the acceptance of START_WALK, before the first ADMIT (R22). -/
def Engine.beginWalk (e : Engine) (h : WalkHeader) (r : Ratings) : Engine :=
  { e with
    walk := .running
    header := some h
    profile := some r
    page := some h.startPage
    chain := if h.chain then some h.startPage.other else none
    pausePending := false
    abortPending := false
    tallies := Tallies.cleared
    reason := none }

/-- The effects of an accepted START_WALK (R22, R81). -/
def State.startWalk (s : State) (h : WalkHeader) : State :=
  let r := (s.store.profile h.profile).ratings
  let s := (s.setEngine (s.engine.beginWalk h r)).setLine r.lineNominal
  ((s.setDrive (s.drive.startWalk r.lineNominal)).enterAdmit h.startIndex).goOn

/-- START_WALK (R21, R22). -/
def State.takeStartWalk (f : StartFields) (s : State) : State :=
  match startRefusal s f with
  | some a => s.reply 0x20 a
  | none => (s.startWalk (storedHeader f)).reply 0x20 .ok

/-- PAUSE (R33). DESIGN CHOICE (notes/assumptions/32.md): a PAUSE that finds the own unit asserted and a
pause pending already is answered GATED, as the tables of R33 and R178 say; the sentence of R33 on a
pause already pending says OK. -/
def State.takePauseCommand (s : State) : State :=
  match s.engine.walk with
  | .running | .pageWait =>
    if s.bay.ownUnit.asserted then s.reply 0x21 .gated
    else (s.setEngine { s.engine with pausePending := true }).reply 0x21 .ok
  | .paused => s.reply 0x21 .ok
  | .idle | .winddown | .held => s.reply 0x21 .noWalk

/-- RESUME (R35). -/
def State.takeResume (s : State) : State :=
  match s.engine.walk with
  | .paused =>
    (((s.setEngine { s.engine with walk := .running }).enterAdmit s.engine.resumeIndex).goOn).reply 0x22 .ok
  | .running =>
    if s.engine.pausePending then (s.setEngine { s.engine with pausePending := false }).reply 0x22 .ok
    else s.reply 0x22 .noWalk
  | .idle | .pageWait | .winddown | .held => s.reply 0x22 .noWalk

/-- ABORT in RUNNING (R36): it ends the step in progress, and is kept for the branch while a record
waits. DESIGN CHOICE (notes/assumptions/40.md): the end of a step places its STEP_RESULT and branches in its
own event while an entry is free, so an ABORT taken after it on the same sample finds the walk where the
branch has led it. -/
def State.abortRunning (s : State) : State :=
  if s.engine.stepping then s.abortStep.goOn else s.setEngine { s.engine with abortPending := true }

/-- ABORT (R36). -/
def State.takeAbort (s : State) : State :=
  match s.engine.walk with
  | .running => s.abortRunning.reply 0x23 .ok
  | .paused => (s.enterWinddown .aborted).reply 0x23 .ok
  | .pageWait => ((s.setDrive s.drive.halt).enterWinddown .aborted).reply 0x23 .ok
  | .winddown => s.reply 0x23 .ok
  | .idle | .held => s.reply 0x23 .noWalk

/-- RELEASE (R37). -/
def State.takeRelease (s : State) : State :=
  match s.engine.walk with
  | .held => (s.setEngine { s.engine with walk := .idle }).reply 0x24 .ok
  | .idle | .running | .paused | .pageWait | .winddown => s.reply 0x24 .notHeld

/-- The page other than the current one. -/
def Engine.otherPage (e : Engine) : Page := (e.page.getD .a).other

/-- ARM_CHAIN in PAGE_WAIT (R40): limit and rest ramp stop, and the swap follows. -/
def State.armInPageWait (s : State) : State :=
  let s := (s.setDrive s.drive.halt).setEngine { s.engine with pageWaitLeft := 0, rest := .none }
  (s.swapTo s.engine.otherPage).goOn

/-- ARM_CHAIN (R38, R40). -/
def State.takeArmChain (s : State) : State :=
  match s.engine.walk with
  | .idle | .held => s.reply 0x28 .noWalk
  | .running | .paused | .winddown =>
    if s.engine.chain.isSome then s.reply 0x28 .chainArmed
    else (s.setEngine { s.engine with chain := some s.engine.otherPage }).reply 0x28 .ok
  | .pageWait =>
    if s.engine.chain.isSome then s.reply 0x28 .chainArmed else s.armInPageWait.reply 0x28 .ok

/-- DISARM_CHAIN (R38). -/
def State.takeDisarmChain (s : State) : State :=
  (s.setEngine { s.engine with chain := none }).reply 0x29 .ok

/-! ## Resets (R18, R43, R69, R89, R110, R184, R185) -/

/-- The blocks that both resets bring to their reset values, with the address read from the straps. -/
def State.resetBlocks (s : State) (straps : BitVec 4) : State :=
  ((((s.setEngine Engine.reset).setBay (s.bay.resetFrom straps.toNat s.lineSettle)).setDrive Drive.reset).setAcq
    Acquisition.reset).setQueue []

/-- RESET (R185): the plan store with the configuration is kept, and OK is placed last. It acts at a
completion, when chip select is inactive and data out has carried its bytes. -/
def State.takeReset (straps : BitVec 4) (s : State) : State :=
  ((s.resetBlocks straps).setPort { Port.reset with dataOut := s.port.dataOut }).reply 0x3F .ok

/-- Chip select after a pin reset: a transaction in progress takes no part any more (R184). -/
def Select.afterPinReset : Select → Select
  | .inactive => .inactive
  | .active | .void => .void

/-- PIN_RESET (R184). The interlock input is an input and keeps its level (notes/assumptions/7.md). -/
def State.takePinReset (straps : BitVec 4) (s : State) : State :=
  ((s.resetBlocks straps).setStore PlanStore.reset).setPort
    { Port.reset with select := s.port.select.afterPinReset }

end Sys2Proof.Machine
end

