-- ==== Sys2Proof/Machine/Port.lean ====
section
/-! DEFINITION. Transactions of the station port (R170 to R173): the choice of the outgoing frame, its
consumption, and the taking of the incoming frame. -/

namespace Sys2Proof.Machine

/-- The record the outgoing frame is chosen from, with its type code and its bytes after the header
(R171, R183). -/
def State.chosenRecord (s : State) : FrameSource × Nat × List Byte :=
  match s.port.answer, s.queue with
  | some a, _ => (.answer, 0x81, answerBytes a)
  | none, r :: _ => (.queue, r.typeCode, r.bytes)
  | none, [] => (.idle, 0x80, [])

/-- The outgoing frame as it stands now: the status header in front of the chosen record (R171, R175). -/
def State.outgoingFrame (s : State) : List Byte :=
  toFrame (headerBytes s s.chosenRecord.2.1 ++ s.chosenRecord.2.2)

/-- Chip select goes active: the outgoing frame is chosen and latched, and the command latch emptied
(R170, R171). -/
def State.beginTransaction (s : State) : State :=
  s.setPort { s.port with
    select := .active
    command := []
    outgoing := some (s.chosenRecord.1, s.outgoingFrame)
    dataOut := [] }

/-- The first `n` whole bytes that data out carries in the transaction in progress: those of the outgoing
latch, and 00h after its last (R170); 00h throughout under a select that a pin reset made void (R184). -/
def Port.driven (p : Port) (n : Nat) : List Byte :=
  match p.select, p.outgoing with
  | .active, some (_, frame) => frame.take n ++ List.replicate (n - frame.length) 0
  | _, _ => List.replicate n 0

/-- Chip select goes inactive after fewer than 64 whole bytes: nothing is consumed or taken (R170). DESIGN
CHOICE (notes/assumptions/41.md): the outgoing latch is emptied. -/
def State.dropTransaction (s : State) (wholeBytes : Nat) : State :=
  s.setPort { s.port with
    select := .inactive
    command := []
    outgoing := none
    dataOut := s.port.driven wholeBytes }

/-- The frame that was sent is consumed, and a record that waited for the entry is placed in the same
event (R172, R182). -/
def State.consume (s : State) : State :=
  match s.port.outgoing with
  | some (.answer, _) => s.setPort { s.port with answer := none }
  | some (.queue, _) => (s.setQueue s.queue.tail).goOn
  | some (.idle, _) => s
  | none => s

/-- The port takes an incoming frame's command (R173, R174). Only the commands of the summary and
BAD_COMMAND come out of a frame. -/
def State.takeCommand (s : State) : Instr → State
  | .badCommand code => s.reply code .badCommand
  | .nop => s
  | .status => s.takeStatus
  | .configure f => s.takeConfigure f
  | .writeStep f => s.takeWriteStep f
  | .writeCurve f => s.takeWriteCurve f
  | .writeProfile f => s.takeWriteProfile f
  | .writeChannel f => s.takeWriteChannel f
  | .startWalk f => s.takeStartWalk f
  | .pause => s.takePauseCommand
  | .resume => s.takeResume
  | .abort => s.takeAbort
  | .release => s.takeRelease
  | .armChain => s.takeArmChain
  | .disarmChain => s.takeDisarmChain
  | .reset straps => s.takeReset straps
  | _ => s

/-- Chip select goes inactive after at least 64 whole bytes: the first 64 are the incoming frame, the
outgoing frame is consumed, and the command is taken (R170, R172, R173). DESIGN CHOICE
(notes/assumptions/41.md): the outgoing latch, which holds its frame until now, is emptied. -/
def State.completeTransaction (s : State) (bytes : List Byte) (straps : BitVec 4) : State :=
  let frame := bytes.take Config.frameBytes
  let consumed := s.consume
  (consumed.setPort { consumed.port with
    select := .inactive
    command := frame
    outgoing := none
    dataOut := s.port.driven bytes.length }).takeCommand (frameCommand frame straps)

/-- The end of a transaction after a number of whole bytes. One that a pin reset made void ends with no
effect but the 00h data out carried, and one that never began has nothing to end (R184,
notes/assumptions/10.md). -/
def State.endTransaction (s : State) (wholeBytes : Nat) (ended : State) : State :=
  match s.port.select with
  | .active => ended
  | .void => s.dropTransaction wholeBytes
  | .inactive => s.setPort { s.port with command := [], outgoing := none }

/-- TRANSACTION_BEGIN (R171). -/
def execTransactionBegin (s : State) : Host.Outcome State Fault Refusal := .next s.beginTransaction

/-- TRANSACTION_COMPLETE (R172, R173); fewer than 64 bytes make an incomplete one. -/
def execTransactionComplete (bytes : List Byte) (straps : BitVec 4) (s : State) :
    Host.Outcome State Fault Refusal :=
  .next (s.endTransaction bytes.length (if bytes.length < Config.frameBytes then s.dropTransaction bytes.length
    else s.completeTransaction bytes straps))

/-- TRANSACTION_INCOMPLETE (R170). The bytes clocked in are discarded; their number says how many bytes
data out carried. -/
def execTransactionIncomplete (wholeBytes : Nat) (s : State) : Host.Outcome State Fault Refusal :=
  .next (s.endTransaction wholeBytes (s.dropTransaction wholeBytes))

/-! ## The commands as rows of the table: what a completion that carries them does at the port -/

/-- BAD_COMMAND (R173). -/
def execBadCommand (code : Byte) (s : State) : Host.Outcome State Fault Refusal :=
  .next (s.reply code .badCommand)

/-- NOP (R173): no answer and no effect. -/
def execNop (s : State) : Host.Outcome State Fault Refusal := .next s

/-- STATUS (R176). -/
def execStatus (s : State) : Host.Outcome State Fault Refusal := .next s.takeStatus

/-- CONFIGURE (R177). -/
def execConfigure (f : ConfigFields) (s : State) : Host.Outcome State Fault Refusal :=
  .next (s.takeConfigure f)

/-- WRITE_STEP (R3). -/
def execWriteStep (f : StepFields) (s : State) : Host.Outcome State Fault Refusal :=
  .next (s.takeWriteStep f)

/-- WRITE_CURVE (R10). -/
def execWriteCurve (f : CurveFields) (s : State) : Host.Outcome State Fault Refusal :=
  .next (s.takeWriteCurve f)

/-- WRITE_PROFILE (R12). -/
def execWriteProfile (f : ProfileFields) (s : State) : Host.Outcome State Fault Refusal :=
  .next (s.takeWriteProfile f)

/-- WRITE_CHANNEL (R13). -/
def execWriteChannel (f : ChannelFields) (s : State) : Host.Outcome State Fault Refusal :=
  .next (s.takeWriteChannel f)

/-- START_WALK (R21, R22). -/
def execStartWalk (f : StartFields) (s : State) : Host.Outcome State Fault Refusal :=
  .next (s.takeStartWalk f)

/-- PAUSE (R33). -/
def execPause (s : State) : Host.Outcome State Fault Refusal := .next s.takePauseCommand

/-- RESUME (R35). -/
def execResume (s : State) : Host.Outcome State Fault Refusal := .next s.takeResume

/-- ABORT (R36). -/
def execAbort (s : State) : Host.Outcome State Fault Refusal := .next s.takeAbort

/-- RELEASE (R37). -/
def execRelease (s : State) : Host.Outcome State Fault Refusal := .next s.takeRelease

/-- ARM_CHAIN (R38). -/
def execArmChain (s : State) : Host.Outcome State Fault Refusal := .next s.takeArmChain

/-- DISARM_CHAIN (R38). -/
def execDisarmChain (s : State) : Host.Outcome State Fault Refusal := .next s.takeDisarmChain

/-- RESET (R185). -/
def execReset (straps : BitVec 4) (s : State) : Host.Outcome State Fault Refusal :=
  .next (s.takeReset straps)

/-- PIN_RESET (R184). -/
def execPinReset (straps : BitVec 4) (s : State) : Host.Outcome State Fault Refusal :=
  .next (s.takePinReset straps)

end Sys2Proof.Machine
end

