-- ==== Sys2Proof/Machine/Sampling.lean ====
section
/-! DEFINITION. One sample interval (R90): what every block does at a sample, and the meaning of SAMPLE. -/

namespace Sys2Proof.Machine

/-- The counts of the walk engine at a sample: the time limit and the wait of a step in progress (R28,
R145, R147), the page wait limit (R40), and a rest level that counts as reached at this update (R83). -/
def State.tickEngine (s : State) : State :=
  if s.engine.stepping then
    s.mapStep (fun c => { c with timeLeft := c.timeLeft - 1, wait := c.wait.map (· - 1) })
  else if s.engine.walk = .pageWait then
    let s := s.setEngine { s.engine with pageWaitLeft := s.engine.pageWaitLeft - 1 }
    if s.engine.rest = .atNextUpdate then s.reachRest else s
  else s

/-- The blocks take one sample (R44, R71, R90): the bay lines are read, the drive unit updates,
acquisition takes the codes with census_others, load and range, and the walk engine's counts run. -/
def State.takeSample (s : State) (i : SampleInput) : State :=
  let s := (s.setBay (s.bay.sample i s.lineSettle)).setDrive s.drive.update
  (s.setAcq (s.acq.sample s.store.channels s.store.config i s.bay.censusOthers s.drive.range s.load)).tickEngine

/-- The alarm detection and the knee of the sample are delivered at once, but for one the input asks to
be taken after the other events of the sample (R27, R102, R105, R162; notes/assumptions/4.md). -/
def State.deliverEarly (s : State) (i : SampleInput) : State :=
  let s := if i.alarmLate then s else s.alarmDetect.getD s
  if i.kneeLate then s else s.kneeEvent.getD s

/-- SAMPLE (R90). What is still due from the sample before is taken first (notes/assumptions/3.md). -/
def execSample (i : SampleInput) (s : State) : Host.Outcome State Fault Refusal :=
  .next ((s.settleDue.takeSample i).deliverEarly i)

end Sys2Proof.Machine
end

