-- ==== Sys2Proof/Machine/Dispatch.lean ====
section
/-! DEFINITION. The commands and their meanings, arm by arm. -/

namespace Sys2Proof.Machine

def exec (i : Instr) (s : State) : Host.Outcome State Fault Refusal :=
  match i with
  | .transactionBegin => Sys2Proof.Machine.execTransactionBegin s
  | .transactionComplete bytes straps => Sys2Proof.Machine.execTransactionComplete bytes straps s
  | .transactionIncomplete wholeBytes => Sys2Proof.Machine.execTransactionIncomplete wholeBytes s
  | .badCommand code => Sys2Proof.Machine.execBadCommand code s
  | .nop => Sys2Proof.Machine.execNop s
  | .status => Sys2Proof.Machine.execStatus s
  | .configure f => Sys2Proof.Machine.execConfigure f s
  | .writeStep f => Sys2Proof.Machine.execWriteStep f s
  | .writeCurve f => Sys2Proof.Machine.execWriteCurve f s
  | .writeProfile f => Sys2Proof.Machine.execWriteProfile f s
  | .writeChannel f => Sys2Proof.Machine.execWriteChannel f s
  | .startWalk f => Sys2Proof.Machine.execStartWalk f s
  | .pause => Sys2Proof.Machine.execPause s
  | .resume => Sys2Proof.Machine.execResume s
  | .abort => Sys2Proof.Machine.execAbort s
  | .release => Sys2Proof.Machine.execRelease s
  | .armChain => Sys2Proof.Machine.execArmChain s
  | .disarmChain => Sys2Proof.Machine.execDisarmChain s
  | .reset straps => Sys2Proof.Machine.execReset straps s
  | .pinReset straps => Sys2Proof.Machine.execPinReset straps s
  | .sample input => Sys2Proof.Machine.execSample input s
  | .collapseDetect => Sys2Proof.Machine.execCollapseDetect s
  | .regulationEvent => Sys2Proof.Machine.execRegulationEvent s
  | .stepTimeLimitExpiry => Sys2Proof.Machine.execStepTimeLimitExpiry s
  | .pageWaitExpiry => Sys2Proof.Machine.execPageWaitExpiry s
  | .admissionDecision => Sys2Proof.Machine.execAdmissionDecision s
  | .backoffEnd => Sys2Proof.Machine.execBackoffEnd s
  | .quietWaitEnd => Sys2Proof.Machine.execQuietWaitEnd s
  | .gateDecision => Sys2Proof.Machine.execGateDecision s
  | .gateBackoffEnd => Sys2Proof.Machine.execGateBackoffEnd s
  | .releaseSpanEnd => Sys2Proof.Machine.execReleaseSpanEnd s
  | .generatorSetEnd => Sys2Proof.Machine.execGeneratorSetEnd s
  | .pulseCycleEnd => Sys2Proof.Machine.execPulseCycleEnd s
  | .pulseStopRequest => Sys2Proof.Machine.execPulseStopRequest s
  | .rangeDownEnd => Sys2Proof.Machine.execRangeDownEnd s
  | .relayCountExpiry => Sys2Proof.Machine.execRelayCountExpiry s
  | .applyComplete => Sys2Proof.Machine.execApplyComplete s
  | .blankClose channel => Sys2Proof.Machine.execBlankClose channel s
  | .windowDone => Sys2Proof.Machine.execWindowDone s
  | .ceilingHoldEnd => Sys2Proof.Machine.execCeilingHoldEnd s
  | .tripWaitEnd => Sys2Proof.Machine.execTripWaitEnd s
  | .couplingSpanEnd => Sys2Proof.Machine.execCouplingSpanEnd s
  | .resetPulseEnd => Sys2Proof.Machine.execResetPulseEnd s
  | .captureBlockOffer => Sys2Proof.Machine.execCaptureBlockOffer s
  | .stalledRecordPlaced => Sys2Proof.Machine.execStalledRecordPlaced s
  | .interlockOpen => Sys2Proof.Machine.execInterlockOpen s
  | .interlockClose => Sys2Proof.Machine.execInterlockClose s

end Sys2Proof.Machine
end

