-- ==== Sys2Proof/Machine/Step.lean ====
section
/-! DEFINITION. One step: the command at the front of the queue is taken. -/

namespace Sys2Proof.Machine

/-- `s` with another queue of waiting commands. -/
def State.setPending (s : State) (x : List Instr) : State := { s with pending := x }

/-- The command at the front of `s.pending` is taken from the queue and run; on an empty queue the part
idles (notes/assumptions/1.md). -/
def step (s : State) : Host.Outcome State Fault Refusal :=
  match s.pending with
  | i :: rest => exec i (s.setPending rest)
  | [] => .next s

/-- `s` with a command put at the front of its queue. -/
def State.pushFront (s : State) (i : Instr) : State := s.setPending (i :: s.pending)

/-- `s` with the command that a table word spells at the front of its queue; `s` itself where the word
spells none. -/
def State.withFetchWord (s : State) (nbits w : Nat) : State :=
  match decodeTableWord nbits w with
  | some i => s.pushFront i
  | none => s

end Sys2Proof.Machine
end

