-- ==== Sys2Proof/Safety.lean ====
section
/-! DEFINITION. What the statements about the part speak of: the bound of the result queue, the rest of the
bay lines between walks, how an ended step reaches the queue, and the accepted values of the commands
that carry fields, as the spec's tables list them. -/

namespace Sys2Proof.Machine

/-! ## Invariants -/

/-- A record is a capture block. -/
def Record.isBlock : Record → Bool
  | .captureBlock _ => true
  | .stepLevel _ => false

/-- The bound of the result queue: at most 32 records, and at most 25 capture blocks (R179). -/
def QueueOk (q : List Record) : Prop := q.length ≤ 32 ∧ q.countP Record.isBlock ≤ 25

/-- The bay lines carry nothing of this station: claim 0 and census unit released (R20, R50). -/
def Bay.AtRest (b : Bay) : Prop := b.drivenClaim = 0 ∧ b.ownUnit = .released

/-- The drive unit between walks: the load, line and shelf enables inactive and the commanded level 0, held
by a LEVEL set at rest with nothing in flight that could change either (R20, R41, R84). -/
def Drive.AtRest (d : Drive) : Prop :=
  d.level = 0 ∧ d.active = .level 0 ∧ d.status = .rest ∧ d.staged = none ∧ d.cycleEnded = false
    ∧ d.rangeChange = .none ∧ d.coupling = .none ∧ d.resetPulse = none ∧ d.loadRequest = false
    ∧ d.loadEnable = false ∧ d.lineEnable = false ∧ d.shelfEnable = false

/-- The winddown ramp to 0 waits, or is in force with nothing to hold it back (R84). -/
def Drive.WindingDown (d : Drive) : Prop :=
  (∃ slope, d.staged = some ⟨.ramp none 0 slope, none⟩)
    ∨ (d.staged = none ∧ d.rangeChange = .none ∧ d.coupling = .none
        ∧ ∃ slope, d.active = .ramp none 0 slope ∧ (d.status = .acting ∨ (d.status = .ended ∧ d.level = 0)))

/-- The greatest current of a set in dA, that of a LEVEL target being its DAC value. -/
def GenSet.peak : GenSet → Nat
  | .level target => target / 1000
  | .ramp start stop _ => max (start.getD 0) stop
  | .pulse lo hi _ _ _ => max lo hi

/-- The commanded load, the set in force and a set that waits stay within a limit in dA (R50, R76). -/
def Drive.Within (d : Drive) (limit : Nat) : Prop :=
  d.level / 1000 ≤ limit ∧ d.active.peak ≤ limit ∧ ∀ st, d.staged = some st → st.set.peak ≤ limit

/-- What every step keeps of the lines and the drive. Between walks and from the WINDDOWN releases on, bay
lines and drive unit are at rest; in WINDDOWN before them the winddown ramp waits or runs; no unit is held in
PAUSED; the load stays within the walk's profile I_max; and, so that this is kept, a WALK_SUMMARY waits only
once the releases are made, a record waits only in OUTPUT_STALL of a walk, a step stands only in RUNNING, and
a shelf reset pulse runs only in a step in progress (R20, R41, R50, R58, R76, R84). -/
def State.LinesRest (s : State) : Prop :=
  ((s.engine.walk = .idle ∨ s.engine.walk = .held) → s.bay.AtRest ∧ s.drive.AtRest)
    ∧ (s.engine.walk = .paused → s.bay.ownUnit = .released)
    ∧ (s.engine.releasesDone = true → s.engine.walk = .winddown ∧ s.bay.AtRest ∧ s.drive.AtRest)
    ∧ (s.engine.walk = .winddown → s.engine.releasesDone = false → s.drive.WindingDown)
    ∧ s.drive.Within s.engine.ratings.iMax
    ∧ (∀ w, s.engine.waiting = some (.walkSummary w) → s.engine.releasesDone = true)
    ∧ (∀ r, s.engine.waiting = some r →
        (s.engine.walk = .running ∨ s.engine.walk = .winddown) ∧ s.engine.phase = .outputStall)
    ∧ (s.engine.walk ≠ .running → s.engine.step = none)
    ∧ (∀ n, s.drive.resetPulse = some n →
        s.engine.walk = .running ∧ s.engine.step.isSome = true ∧ s.engine.waiting = none)

/-- The current `x` in dA has a claim of at most `claim` under `vNom` (R50). -/
def Covers (claim vNom x : Nat) : Prop := claimOf x vNom ≤ claim

/-- A claim covers the commanded load, the set in force and a set that waits (R50). -/
def Drive.CoveredBy (d : Drive) (claim vNom : Nat) : Prop :=
  Covers claim vNom (d.level / 1000) ∧ Covers claim vNom d.active.peak
    ∧ ∀ st, d.staged = some st → Covers claim vNom st.set.peak

/-- The load and the set in force stay within the maximum of the range in force, and a set that waits within
that of the range it is to run in; one that waits for a range change with no range of its own goes to 0 (R76). -/
def Drive.InRange (d : Drive) : Prop :=
  d.level / 1000 ≤ d.range.limit ∧ d.active.peak ≤ d.range.limit
    ∧ ∀ st, d.staged = some st → st.set.peak ≤ (st.range.getD d.range).limit
        ∧ (st.range = none → d.rangeChange ≠ .none → st.set.peak = 0)

/-- In a range change the level goes down to 0, or rests there (R78). -/
def Drive.ChangesDown (d : Drive) : Prop :=
  d.rangeChange ≠ .none →
    (d.level = 0 ∧ d.active = .level 0 ∧ d.status = .rest)
      ∨ (d.status = .acting ∧ (∃ slope, d.active = .ramp none 0 slope)
          ∧ ∃ target, d.rangeChange = .down target false)

/-- The generator holds its level, and nothing waits or is in flight. -/
def Drive.Still (d : Drive) : Prop :=
  d.active = .level d.level ∧ d.status = .rest ∧ d.staged = none ∧ d.rangeChange = .none ∧ d.coupling = .none

/-- The generator holds its level, or runs the range change of a halted APPLY, and no set waits (R75). -/
def Drive.Unrequested (d : Drive) : Prop :=
  d.Still ∨ (d.rangeChange ≠ .none ∧ d.staged = none ∧ d.coupling = .none)

/-- No set waits and nothing holds one back but a pulse (R73). -/
def Drive.Free (d : Drive) : Prop := d.staged = none ∧ d.rangeChange = .none ∧ d.coupling = .none

/-- The set in force is no pulse. -/
def Drive.Steady (d : Drive) : Prop := ∀ lo hi period high cycles, d.active ≠ .pulse lo hi period high cycles

/-- The APPLY set of a step waits for its range change, or is in force toward a level of at most I_peak, where it
ends (R26, R78, R82). -/
def Drive.Applies (d : Drive) (peak : Nat) : Prop :=
  d.coupling = .none ∧ ∃ stop slope, stop ≤ peak
    ∧ ((d.rangeChange ≠ .none ∧ ∃ range, d.staged = some ⟨.ramp none stop slope, some range⟩)
      ∨ (d.rangeChange = .none ∧ d.staged = none ∧ d.active = .ramp none stop slope
          ∧ (d.status = .acting ∨ (d.status = .ended ∧ d.level = stop * 1000))))

/-- What the drive unit may have in force for a step in a phase (R26, R73, R128 to R133, R140, R152 to R154, R160,
R161, R164). -/
def Drive.FitsPhase (d : Drive) (c : StepContext) : Phase → Prop
  | .applying => d.Applies c.record.body.peak
  | .settle => d.Still
  | .body =>
    match c.record.kind with
    | .none | .hold => d.Still
    | .recover => if c.stage = .restRamp then d.Free ∧ d.Steady else d.Still
    | .derate => if c.stage = .kneeRamp then d.Free ∧ d.Steady else d.Still
    | .dropout => d.active = .level d.level ∧ d.status = .rest ∧ d.staged = none ∧ d.rangeChange = .none
    | .pulse => d.Free
    | .ramp | .tripSearch | .tripTime => d.Free ∧ d.Steady
  | .exiting => d.Free ∧ (c.record.kind ≠ .pulse → d.Steady)
  | _ => d.Unrequested

/-- A step is in progress in the given phase, with the given context (R19, R23). -/
def State.StepIn (s : State) (p : Phase) (c : StepContext) : Prop :=
  s.engine.walk = .running ∧ s.engine.step = some c ∧ s.engine.waiting = none ∧ s.engine.phase = p

/-- The drive unit in PAGE_WAIT: the rest comparison waits for a range change, the rest ramp is in force, or the
level is held (R40, R83). -/
def State.RestFits (s : State) : Prop :=
  match s.engine.rest with
  | .none => False
  | .deferred => s.drive.rangeChange ≠ .none ∧ s.drive.staged = none ∧ s.drive.coupling = .none
  | .ramping => s.drive.Free ∧ s.drive.Steady
  | .atNextUpdate | .reached => s.drive.Still

/-- The phase in which the protocol of the bay interface is in a state other than IDLE (R19, R52, R53, R59 to
R61). -/
def Protocol.phase : Protocol → Phase
  | .idle => .none
  | .raising => .admitting
  | .backoff => .backoff
  | .quiet | .asserting => .gate
  | .gateBackoff => .gateBackoff

/-- What every step keeps of the commanded load against the claim and the range: the claim of the load is at most
the driven claim, and the load within the maximum of the range (R50, R76). So that this is kept, the claim covers also
what the set in force and a waiting set can command; in ADMIT and BACKOFF the prior claim does; from the admission on
the driven claim covers the step claim; every record's start level is at most its I_peak; and in each phase only the
protocol, sets, spans, detectors, windows and captures of that phase run. -/
def State.LoadCovered (s : State) : Prop :=
  s.drive.CoveredBy s.bay.drivenClaim s.engine.ratings.vNom ∧ s.drive.InRange ∧ s.drive.ChangesDown
    ∧ (∀ page index, (s.store.slot page index).body.start ≤ (s.store.slot page index).body.peak)
    ∧ (∀ p c, s.StepIn p c → c.record.body.start ≤ c.record.body.peak ∧ s.drive.FitsPhase c p
        ∧ (p ≠ .admitting ∧ p ≠ .backoff ∨ s.bay.protocol = .raising →
            Covers s.bay.drivenClaim s.engine.ratings.vNom c.record.body.peak)
        ∧ (c.stage = .resetPulse → p = .body ∧ c.record.kind = .recover)
        ∧ (c.record.kind.tripKind = true → s.acq.capture.mode = .trip → s.acq.capture.state = .collecting →
            p = .exiting ∧ s.drive.Still))
    ∧ (s.bay.protocol ≠ .idle → ∃ c, s.StepIn s.bay.protocol.phase c
        ∧ (s.bay.protocol = .raising ∨ s.bay.protocol = .backoff →
          s.bay.priorClaim ≤ claimOf c.record.body.peak s.engine.ratings.vNom
            ∧ s.drive.CoveredBy s.bay.priorClaim s.engine.ratings.vNom))
    ∧ (s.drive.coupling ≠ .none → ∃ c, s.StepIn .body c ∧ c.record.kind = .dropout)
    ∧ (s.acq.window.mode = .counted → s.acq.window.state = .opened ∨ s.acq.window.state = .waiting →
        ∃ c, s.StepIn .body c ∧ (c.record.kind = .hold ∨ (c.record.kind = .recover ∧ c.stage = .watch)
          ∨ (c.record.kind = .derate ∧ c.stage = .reference)))
    ∧ (s.acq.detectors.collapse ≠ none ∨ s.acq.detectors.alarmArmed = true →
        ∃ p c, s.StepIn p c ∧ (p = .body ∨ p = .exiting))
    ∧ (s.acq.detectors.regulation ≠ none →
        ∃ c, s.StepIn .body c ∧ c.record.kind = .recover ∧ c.stage = .regulationWait)
    ∧ (s.acq.detectors.knee ≠ none → ∃ c, s.StepIn .body c ∧ c.record.kind = .derate ∧ c.stage = .kneeRamp)
    ∧ (s.engine.walk = .paused ∨ (s.engine.walk = .running ∧ s.engine.waiting ≠ none) → s.drive.Unrequested)
    ∧ (s.engine.walk = .pageWait → s.RestFits)

/-! ## Steps and their results -/

/-- The block that capture offers as its last when the step ends: the block in fill, while it collects and
holds a pair (R106, R108). -/
def State.lastBlock (s : State) : List Record :=
  if s.acq.capture.state = .collecting ∧ s.acq.capture.fill ≠ [] then
    [.captureBlock ⟨s.engine.record.tag, s.acq.capture.nextIndex, s.acq.capture.fill⟩]
  else []

/-- The queue after that offer: the block is placed with at least 8 entries free, and dropped otherwise
(R181). -/
def State.queueAtEnd (s : State) : List Record :=
  if s.queue.length ≤ 24 then s.queue ++ s.lastBlock else s.queue

/-- From `s` to `t`, a step has ended with the STEP_RESULT `r`. Capture has offered its last block and the
result counts it as posted or dropped; and the result has been offered behind it: placed at the tail when an
entry was free, with whatever the walk went on to offer after it, and held back otherwise (R30, R106, R180,
R181). -/
def State.Offered (s t : State) (r : StepResult) : Prop :=
  ((s.queueAtEnd.length < 32 ∧ ∃ more, t.queue = s.queueAtEnd ++ .stepLevel (.stepResult r) :: more)
    ∨ (32 ≤ s.queueAtEnd.length ∧ t.queue = s.queueAtEnd ∧ t.engine.waiting = some (.stepResult r)
        ∧ t.engine.phase = .outputStall))
    ∧ r.posted = s.acq.capture.posted + (if s.queue.length ≤ 24 then s.lastBlock.length else 0)
    ∧ r.dropped = s.acq.capture.dropped + (if s.queue.length ≤ 24 then 0 else s.lastBlock.length)

/-- The exit level of a step that the time limit or ABORT ends in phase `p`: in APPLY to EXIT a pulse falls to
its low level, a range change makes it 0, and any other set stops where it stands; before APPLY the level stays
(R28, R75). -/
def State.StopsAt (s : State) (p : Phase) (r : StepResult) : Prop :=
  (p.drives = false → r.exitLevel = s.drive.level / 1000)
    ∧ (p.drives = true → s.drive.rangeChange ≠ .none → r.exitLevel = 0)
    ∧ (p.drives = true → s.drive.rangeChange = .none → s.drive.pulsing = false →
        r.exitLevel = s.drive.level / 1000)
    ∧ (∀ lo hi period high cycles, p.drives = true → s.drive.rangeChange = .none → s.drive.status = .acting →
        s.drive.active = .pulse lo hi period high cycles → r.exitLevel = lo)

/-- The claim that the time limit or ABORT leaves in phase `p`: a raise that awaits its decision is withdrawn
(R28, R49, R55). -/
def State.claimStopped (s : State) (p : Phase) : Nat :=
  if p.drives = false ∧ s.bay.protocol = .raising then s.bay.priorClaim else s.bay.drivenClaim

/-- The own unit that ABORT leaves in phase `p`: an ATTEMPT unit that awaits its decision is released, and a
GATE unit and a TRIP unit are kept (R63, R64). -/
def State.unitStopped (s : State) (p : Phase) : OwnUnit :=
  if p.drives = false ∧ s.bay.protocol = .asserting ∧ s.bay.ownUnit = .attempt then .released else s.bay.ownUnit

/-- At the latest sample the step's window is complete, or the end of the set that ends the step is due: the
DONE sample of HOLD and of the watch of RECOVER, and the end report of RAMP and PULSE (R103, R136, R154). -/
def State.Completes (s : State) (p : Phase) (c : StepContext) : Prop :=
  ((c.record.kind = .hold ∨ c.record.kind = .recover) ∧ s.acq.window.mode = .counted
      ∧ s.acq.window.state = .opened ∧ s.acq.window.length ≤ s.acq.window.count)
    ∨ (c.record.kind = .ramp ∧ p = .body ∧ s.drive.status = .ended)
    ∨ (c.record.kind = .pulse ∧ s.drive.cycleEnded = true
        ∧ ∃ lo hi period high cycles, s.drive.active = .pulse lo hi period high cycles
          ∧ (s.drive.stopPending = true ∨ (cycles ≠ 0 ∧ cycles ≤ s.drive.completed + 1)))

/-- How many samples before its delivery a trip event is dated: two for a collapse, also beside an alarm, and none
for an alarm alone (R101 to R103). -/
def Detectors.tripBack (d : Detectors) : Nat :=
  match d.collapse with
  | some c => if 3 ≤ c.run then 2 else 0
  | none => 0

/-- The source of a trip event (R103). -/
def Detectors.tripSource (d : Detectors) : TripSource :=
  if d.tripBack = 0 then .alarm else if d.alarmArmed ∧ d.alarmHit then .both else .collapse

/-- The state in which APPLY has completed: the level held, the claim lowered to the step claim, and the blanks
counting or, with nothing to count, closed (R26, R49, R82, R95). -/
def State.applied (s : State) : State :=
  let held := s.setDrive s.drive.holdLevel
  let lowered := held.setBay (held.bay.lowerClaim held.stepClaim)
  (lowered.setAcq (lowered.acq.applyCompletion lowered.store.channels lowered.drive.rangeChanged)).setPhase .settle

/-- A trip event that is due in `u` is delivered, with the given outcome: a collapse by its row in `s`; an alarm by
the SAMPLE that finds it in the state its sample makes, by the BLANK_CLOSE that begins BODY or the APPLY_COMPLETE
that leaves no blank open, or, when the sample's operand puts it after the other events, by its event (R101 to R103;
notes/assumptions/4.md, notes/assumptions/21.md). -/
def State.Delivers (s u : State) (out : Host.Outcome State Fault Refusal) : Prop :=
  (u = s ∧ (∃ d, s.acq.detectors.collapse = some d ∧ 3 ≤ d.run) ∧ out = exec .collapseDetect s)
    ∨ (u.acq.detectors.alarmArmed = true ∧ u.acq.detectors.alarmHit = true
        ∧ ((u = s ∧ out = .next (s.alarmDetect.getD s))
          ∨ (∃ i, (∀ event ∈ dueEvents, event s = none) ∧ i.alarmLate = false
              ∧ (u.acq.detectors.knee = none ∨ i.kneeLate = true) ∧ u = s.takeSample i ∧ out = exec (.sample i) s)
          ∨ (∃ ch c, s.acq.blanks.get ch = .counting 0 ∧ s.StepIn .settle c
              ∧ (∀ d, c.settleSet.get d = true → d ≠ ch → s.acq.blanks.get d = .closed) ∧ s.acq.alarmLate = false
              ∧ u = (s.setAcq (s.acq.closeBlank ch)).enterBody ∧ out = exec (.blankClose ch) s)
          ∨ (∃ c, s.StepIn .applying c ∧ s.drive.status = .ended ∧ s.drive.staged = none
              ∧ (∀ d, c.settleSet.get d = true → s.applied.acq.blanks.get d = .closed) ∧ s.acq.alarmLate = false
              ∧ u = s.applied.enterBody ∧ out = exec .applyComplete s)))

/-- From `s` to `t`, the line setpoint has become `v`. A setting to the value held changes no blank. Any other
opens the blanks of V_LINE and P_LINE, afresh: COUNTING their settle, CLOSED for a settle of 0, and WAITING where the
blank stands WAITING since an APPLY entry of the same sample; the other channels keep theirs (R85, R92, R94). That a
blank left WAITING by an uncompleted APPLY becomes COUNTING is read from R95 against R94 (DEDUCED,
notes/assumptions/34.md). -/
def State.LineSet (s t : State) (v : Nat) : Prop :=
  t.drive.lineSetpoint = v
    ∧ (v = s.drive.lineSetpoint → t.acq.blanks = s.acq.blanks ∧ t.acq.averages = s.acq.averages)
    ∧ (v ≠ s.drive.lineSetpoint → ∀ ch,
        (ch ≠ .vLine ∧ ch ≠ .pLine →
          t.acq.blanks.get ch = s.acq.blanks.get ch ∧ t.acq.averages.get ch = s.acq.averages.get ch)
        ∧ (ch = .vLine ∨ ch = .pLine → t.acq.averages.get ch = []
          ∧ t.acq.blanks.get ch =
            if s.acq.blanks.get ch = .waiting ∧ s.acq.averages.get ch = [] then .waiting
            else if (s.store.channels.get ch).settle = 0 then .closed
            else .counting (s.store.channels.get ch).settle))

/-- A window accumulates a sample: its count, and for each channel the sum, the extremes and the over-range
mark (R98). -/
def Window.Accumulates (w w' : Window) (r : SampleRecord) : Prop :=
  w'.count = w.count + 1
    ∧ w'.channels = w.channels.map (fun acc =>
        { channel := acc.channel
          sum := acc.sum + r.value acc.channel
          extremes := match acc.extremes with
            | some e => some (min e.1 (r.value acc.channel), max e.2 (r.value acc.channel))
            | none => some (r.value acc.channel, r.value acc.channel)
          mark := acc.mark || r.overOf acc.channel })

/-- A window that is open takes a sample, by its policy and mode (R99). -/
def Window.Takes (w w' : Window) (r : SampleRecord) : Prop :=
  (w.state = .done ∨ w.state = .closed → w' = w)
    ∧ (w.state = .opened → w.mode = .counted → w.length ≤ w.count → w' = w)
    ∧ (w.state = .opened → (w.mode = .counted → w.count < w.length) → r.disturbed = false ∨ w.policy = .mark →
        w.Accumulates w' r ∧ w'.state = .opened ∧ w'.restarts = w.restarts
          ∧ w'.disturbed = w.disturbed + (if r.disturbed then 1 else 0))
    ∧ (w.state = .opened → w.mode = .counted → w.count < w.length → r.disturbed = true → w.policy = .restart →
        w'.state = .waiting ∧ w'.count = 0 ∧ w'.restarts = w.restarts + 1 ∧ w'.disturbed = w.disturbed + 1
          ∧ w'.channels = w.channels.map (fun acc => ⟨acc.channel, 0, none, false⟩))
    ∧ (w.state = .opened → w.mode = .span → r.disturbed = true → w.policy = .restart →
        w' = { w with disturbed := w.disturbed + 1 })
    ∧ (w.state = .waiting → r.disturbed = true → w' = { w with disturbed := w.disturbed + 1 })
    ∧ (w.state = .waiting → r.disturbed = false →
        w.Accumulates w' r ∧ w'.state = .opened ∧ w'.restarts = w.restarts ∧ w'.disturbed = w.disturbed)

/-- The measured channels a check channel rests on (R93). -/
def CheckChannel.RestsOn : CheckChannel → Channel → Prop
  | .measured c, d => d = c
  | .pOut, d => d = .vOut ∨ d = .iOut
  | .eff, d => d = .vOut ∨ d = .iOut ∨ d = .pLine

/-- The channels a kind uses itself (R96). -/
def StepBody.Uses : StepBody → Channel → Prop
  | .none, _ => False
  | .hold .., d | .ramp .., d | .pulse .., d | .recover .., d | .dropout .., d => d = .vOut
  | .tripSearch _ _ _ detect _ _ _, d => d = .iOut ∨ (d = .vOut ∧ detect ≠ .alarm)
  | .tripTime _ _ detect _ _ _, d => d = .iOut ∨ (d = .vOut ∧ detect ≠ .alarm)
  | .derate _ curveT _ _ _ _ _ _, d => d = .vOut ∨ d = .iOut ∨ (d = .tInlet ∧ curveT.isSome = true)

/-- From `d` to `d'`, an APPLY request stages the ramp to the level `stop` for the given range, and clears drop hold: in
force at once in that range, behind a range change at its slope into another, and waiting while one of the conditions of
R73 holds it back (R73, R77, R78, R82). -/
def Drive.AppliesTo (d d' : Drive) (stop slope : Nat) (range : LoadRange) : Prop :=
  d'.level = d.level ∧ d'.range = d.range ∧ d'.relayCount = d.relayCount ∧ d'.dropHold = false
    ∧ (d.busy = false → d.range = range → d'.active = .ramp none stop slope ∧ d'.status = .acting ∧ d'.staged = none
        ∧ d'.rangeChange = .none)
    ∧ (d.busy = false → d.range ≠ range → d'.active = .ramp none 0 slope ∧ d'.status = .acting
        ∧ d'.staged = some ⟨.ramp none stop slope, some range⟩ ∧ d'.rangeChange = .down range false)
    ∧ (d.busy = true → d'.active = d.active ∧ d'.status = d.status
        ∧ d'.staged = some ⟨.ramp none stop slope, some range⟩ ∧ d'.rangeChange = d.rangeChange)

/-- From `d` to `d'`, a dropout coupling has ended, with line enable active (R75, R79, R87). -/
def Drive.EndsCoupling (d d' : Drive) : Prop :=
  d'.coupling = .none ∧ d'.lineEnable = (d.lineEnable || d.coupling != .none)

/-- From `d` to `d'`, a shelf reset pulse has ended, with shelf enable active (R75, R88). -/
def Drive.EndsPulse (d d' : Drive) : Prop :=
  d'.resetPulse = none ∧ d'.shelfEnable = (d.shelfEnable || d.resetPulse.isSome)

/-- From `d` to `d'`, the relay and the load enable, the line setpoint and drop hold have been left alone. -/
def Drive.KeepsRelay (d d' : Drive) : Prop :=
  d'.range = d.range ∧ d'.relayCount = d.relayCount ∧ d'.loadEnable = d.loadEnable ∧ d'.loadRequest = d.loadRequest
    ∧ d'.lineSetpoint = d.lineSetpoint

/-- From `d` to `d'`, a halt: what waits is discarded, coupling and reset pulse end, a range change in flight goes on, a
pulse falls to its low level, and any other set stops where it stands (R75, R87, R88). -/
def Drive.HaltsTo (d d' : Drive) : Prop :=
  d.EndsCoupling d' ∧ d.EndsPulse d' ∧ d.KeepsRelay d' ∧ d'.staged = none ∧ d'.dropHold = d.dropHold ∧ d'.rangeChange = d.rangeChange
    ∧ (d.rangeChange ≠ .none → d'.active = d.active ∧ d'.status = d.status ∧ d'.level = d.level)
    ∧ (d.rangeChange = .none → d'.active = .level d'.level ∧ d'.status = .rest ∧ d'.pulse = none
        ∧ (d.pulsing = false → d'.level = d.level)
        ∧ (∀ lo hi period high cycles, d.active = .pulse lo hi period high cycles → d.status = .acting →
            d'.level = lo * 1000 ∧ d'.stopPending = false))

/-- From `d` to `d'`, a trip drop: level 0 under a LEVEL set at 0, what waits discarded, a pulse ended, the coupling ended
with the line enabled, and drop hold set; the range change, the relay, the load enable and the shelf enable are kept
(R79, R87). -/
def Drive.DropsTo (d d' : Drive) : Prop :=
  d.EndsCoupling d' ∧ d.KeepsRelay d' ∧ d'.resetPulse = d.resetPulse ∧ d'.shelfEnable = d.shelfEnable
    ∧ d'.level = 0 ∧ d'.active = .level 0 ∧ d'.status = .rest ∧ d'.pulse = none
    ∧ d'.staged = none ∧ d'.stopPending = false ∧ d'.dropHold = true ∧ d'.rangeChange = d.rangeChange

/-- From `d` to `d'`, an immediate drop: level 0 under a LEVEL set at 0, the enables inactive, and nothing left in flight;
the line setpoint, the relay and its count are kept (R80, R87, R88). -/
def Drive.DropsAllTo (d d' : Drive) : Prop :=
  d'.level = 0 ∧ d'.active = .level 0 ∧ d'.status = .rest ∧ d'.pulse = none ∧ d'.staged = none
    ∧ d'.stopPending = false ∧ d'.dropHold = false ∧ d'.rangeChange = .none ∧ d'.coupling = .none ∧ d'.resetPulse = none
    ∧ d'.loadEnable = false ∧ d'.loadRequest = false ∧ d'.lineEnable = false ∧ d'.shelfEnable = false
    ∧ d'.range = d.range ∧ d'.relayCount = d.relayCount ∧ d'.lineSetpoint = d.lineSetpoint

/-- The drive unit that the time limit or ABORT leaves when it ends the step in phase `p`: halted in APPLY to EXIT and
otherwise as it stood, and dropped beside that when a trip falls on the same sample (R28, R36, R75, R168; what a trip
of the same sample does DEDUCED, notes/assumptions/17.md). -/
def State.StopsDrive (s : State) (p : Phase) (d : Drive) : Prop :=
  ∃ h : Drive, (p.drives = true → s.drive.HaltsTo h)
    ∧ (p.drives = false → h = { s.drive with
        resetPulse := none, shelfEnable := s.drive.shelfEnable || s.drive.resetPulse.isSome })
    ∧ (s.acq.detectors.tripDue = false → d = h) ∧ (s.acq.detectors.tripDue = true → h.DropsTo d)

/-- The drive unit that a trip leaves when it ends the step: dropped, with a shelf reset pulse ended (R79, R88). -/
def State.DropsEnding (u : State) (d : Drive) : Prop :=
  ∃ h : Drive, u.drive.DropsTo h
    ∧ d = { h with resetPulse := none, shelfEnable := h.shelfEnable || h.resetPulse.isSome }

/-- What of a drive unit `d` stands when the walk goes on in the same event to `d'`: the level, the enables, the relay, and
that no coupling and no reset pulse runs. -/
def Drive.StandsIn (d d' : Drive) : Prop :=
  d'.level = d.level ∧ d'.range = d.range ∧ d'.relayCount = d.relayCount ∧ d'.loadEnable = d.loadEnable
    ∧ d'.lineEnable = d.lineEnable ∧ d'.shelfEnable = d.shelfEnable ∧ d'.coupling = d.coupling
    ∧ d'.resetPulse = d.resetPulse

/-- From `s` to `t`, the step of the context `c` has entered APPLY, the line setpoint standing at `line`: its settle set
is formed, every blank is WAITING with an empty average, the line setpoint is the step's unless that is 0, and the start
level, clamped to the limit of the step's range, is staged at safe_slope (R26, R76, R82, R85, R92, R94, R96). -/
def State.EntersApply (s t : State) (c : StepContext) (line : Nat) : Prop :=
  let limit := clampLimit t.engine.ratings.iMax c.record.body.range
  t.StepIn .applying c
    ∧ (∀ ch, c.settleSet.get ch = true ↔ c.record.body.Uses ch ∨ ∃ check ∈ c.record.checks, check.channel.RestsOn ch)
    ∧ (∀ ch, t.acq.blanks.get ch = .waiting ∧ t.acq.averages.get ch = [])
    ∧ t.drive.lineSetpoint = (if c.record.lineSetpoint = 0 then line else c.record.lineSetpoint)
    ∧ s.drive.AppliesTo t.drive (min c.record.body.start limit) t.engine.safeSlope c.record.body.range
    ∧ (limit < c.record.body.start → c.clamped = true)
    ∧ t.bay.protocol = .idle ∧ t.queue = s.queue

/-- The blank an APPLY completion leaves of a channel: a WAITING one counts the channel's settle and, after a range
change in this APPLY, its range_settle, and is CLOSED with nothing to count; any other stays (R95). -/
def State.blankAfterApply (s : State) (ch : Channel) : Blank :=
  if s.acq.blanks.get ch = .waiting then
    let n := (s.store.channels.get ch).settle
      + (if s.drive.rangeChanged = true then (s.store.channels.get ch).rangeSettle else 0)
    if n = 0 then .closed else .counting n
  else s.acq.blanks.get ch

/-- From `s` to `t`, the APPLY of the step of context `c` has completed: the claim is lowered to the step claim, and goes
on covering a load within I_peak, and the blanks count (R26, R49, R50, R82, R95). -/
def State.CompletesApply (s t : State) (c : StepContext) : Prop :=
  t.bay.drivenClaim = min s.bay.drivenClaim (claimOf c.record.body.peak s.engine.ratings.vNom)
    ∧ (s.drive.level / 1000 ≤ c.record.body.peak →
        claimOf (s.drive.level / 1000) s.engine.ratings.vNom ≤ s.bay.drivenClaim →
        claimOf (t.drive.level / 1000) s.engine.ratings.vNom ≤ t.bay.drivenClaim)
    ∧ t.bay.ownUnit = s.bay.ownUnit ∧ (∀ ch, t.acq.blanks.get ch = s.blankAfterApply ch)
    ∧ t.drive.level = s.drive.level ∧ t.queue = s.queue

/-- What windows, history and captures take of a sample record: the averages and the derived values with their
over-range flags, and the raw pair of V_OUT and I_OUT with theirs (R93, R97, R98, R107). -/
def SampleRecord.Presents (r : SampleRecord) : Prop :=
  (∀ c, r.value (.measured c) = r.average.get c ∧ r.overOf (.measured c) = r.overRange.get c)
    ∧ r.value .pOut = r.pOut ∧ r.overOf .pOut = r.pOutOver ∧ r.value .eff = r.eff ∧ r.overOf .eff = r.effOver
    ∧ r.pair = { seq := r.seq, vOut := r.raw.vOut, iOut := r.raw.iOut, vOver := r.overRange.vOut,
                 iOver := r.overRange.iOut, disturbed := r.disturbed, range := r.range }

/-- In `s` a window of a step has been opened, and `w` is what stands of it: of the mode and, when COUNTED, the
length, with each wanted channel once, RESTART when a source of one has RESTART, and with the latest sample taken as its
first: accumulated when it is undisturbed or the policy is MARK, waited on by a COUNTED and excluded by a SPAN window
otherwise (R93, R98, R99). -/
def State.Opens (s : State) (w : Window) (mode : WindowMode) (length : Nat) (wanted : CheckChannel → Prop) : Prop :=
  ∃ fresh : Window,
    fresh.mode = mode ∧ (mode = .counted → fresh.length = length) ∧ fresh.state = .opened ∧ fresh.count = 0
    ∧ fresh.restarts = s.acq.window.restarts ∧ fresh.disturbed = s.acq.window.disturbed
    ∧ (∀ ch, ch ∈ fresh.channels.map (·.channel) ↔ wanted ch) ∧ (fresh.channels.map (·.channel)).Nodup
    ∧ (∀ acc ∈ fresh.channels, acc.sum = 0 ∧ acc.extremes = none ∧ acc.mark = false)
    ∧ (fresh.policy = .restart ↔ ∃ ch d, wanted ch ∧ ch.RestsOn d ∧ (s.store.channels.get d).policy = .restart)
    ∧ w.mode = fresh.mode ∧ w.length = fresh.length ∧ w.policy = fresh.policy ∧ w.restarts = fresh.restarts
    ∧ (s.acq.latest = none → w = fresh)
    ∧ ∀ r, s.acq.latest = some r →
      w.disturbed = fresh.disturbed + (if r.disturbed then 1 else 0)
        ∧ (r.disturbed = false ∨ fresh.policy = .mark → fresh.Accumulates w r ∧ w.state = .opened)
        ∧ (r.disturbed = true → fresh.policy = .restart → w.count = 0 ∧ w.channels = fresh.channels
          ∧ w.state = (if mode = .counted then .waiting else .opened))

/-- `v` is a statistic of what a window of `count` samples holds for a channel: the MEAN as the floor of sum by
count, the MIN or the MAX (R100, R125). -/
def Accumulator.HasStatistic (acc : Accumulator) (count : Nat) (v : Int) : Statistic → Prop
  | .mean => v * count ≤ acc.sum ∧ acc.sum < (v + 1) * count
  | .minimum => ∃ high, acc.extremes = some (v, high)
  | .maximum => ∃ low, acc.extremes = some (low, v)

/-- A window judges a check over what it holds for the check's channel: the statistic is reported with the channel's
mark, and the check passes when low ≤ statistic ≤ high; with a count of 0 there is no statistic, and the check fails
with 0 (R100, R125). -/
def Window.Judges (w : Window) (check : Check) (acc : Accumulator) : Prop :=
  (w.count = 0 → w.statistic check.channel check.statistic = none
      ∧ w.evaluate check = { evaluated := true, pass := false, mark := acc.mark, statistic := 0 })
    ∧ (0 < w.count → acc.extremes.isSome = true →
      ∃ v, acc.HasStatistic w.count v check.statistic ∧ w.statistic check.channel check.statistic = some v
        ∧ (w.evaluate check).evaluated = true ∧ (w.evaluate check).statistic = v
        ∧ (w.evaluate check).mark = acc.mark
        ∧ ((w.evaluate check).pass = true ↔ check.low ≤ v ∧ v ≤ check.high))

/-- I_trip with its mark: the largest raw I_OUT of the 16 samples that end with the one dated `back` samples before
the newest, or of as many as the history holds, marked when one of them carries the over-range flag (R121). The
history stands newest first. -/
def IsTripCurrent (history : List RawSample) (back : Nat) (i : Int × Bool) : Prop :=
  (back < history.length → ∃ k p, k < 16 ∧ history[back + k]? = some p ∧ p.iOut = i.1)
    ∧ (∀ k p, k < 16 → history[back + k]? = some p → p.iOut ≤ i.1)
    ∧ (i.2 = true ↔ ∃ k p, k < 16 ∧ history[back + k]? = some p ∧ p.iOver = true)

/-- A set staged with nothing in its way is in force, and the level has not moved (R72, R73). -/
def State.TakesSet (s t : State) (g : GenSet) : Prop :=
  s.drive.dropHold = false → s.drive.busy = false → t.drive.active = g.settled s.drive.level
    ∧ t.drive.status = .acting ∧ t.drive.level = s.drive.level ∧ t.drive.staged = none

/-- Whether BODY start arms the alarm detector for a step (R127, R140, R152, R158, R164). -/
def StepBody.armsAlarm : StepBody → Bool
  | .none | .recover .. => false
  | .tripSearch _ _ _ detect _ _ _ | .tripTime _ _ detect _ _ _ => detect != .collapse
  | .hold _ | .ramp .. | .pulse .. | .derate .. | .dropout .. => true

/-- The alarm detector, if armed at the latest sample, does not detect at it: the input reads inactive, or it was
active before (R102, R110). -/
def Acquisition.NoAlarmFound (a : Acquisition) : Prop :=
  ∀ x, a.latest = some x → x.alarm = false ∨ (a.alarmPrevious = true ∧ a.alarmUnseen = false)

/-- From `s` to `t`, the collapse detector has been armed, and the latest sample is the first of its run
(R101, R143). -/
def State.ArmsCollapse (s t : State) (threshold : Nat) : Prop :=
  ∃ d, t.acq.detectors.collapse = some d ∧ d.threshold = threshold
    ∧ ∀ x, s.acq.latest = some x → d.run = if x.raw.vOut < threshold then 1 else 0

/-- From `s` to `t`, the alarm detector has been armed, and the latest sample is its first (R102, R110). -/
def State.ArmsAlarm (s t : State) : Prop :=
  t.acq.detectors.alarmArmed = true ∧ (t.acq.detectors.alarmHit = true ↔ ¬ s.acq.NoAlarmFound)

/-- From `s` to `t`, the collapse detector has been armed at the profile's V_collapse, and the alarm detector with
it (R127). -/
def State.Guards (s t : State) : Prop := s.ArmsCollapse t s.engine.ratings.vCollapse ∧ s.ArmsAlarm t

/-- From `s` to `t`, the detectors that a detect source names have been armed, and the others left as they stood
(R140, R143). -/
def State.Awaits (s t : State) (detect : Detect) (threshold : Nat) : Prop :=
  (if detect = .alarm then t.acq.detectors.collapse = s.acq.detectors.collapse else s.ArmsCollapse t threshold)
    ∧ (if detect = .collapse then t.acq.detectors.alarmArmed = s.acq.detectors.alarmArmed else s.ArmsAlarm t)

/-- What BODY start requests for a step of the given kind, at clamp limit `limit` (R127 to R131, R140, R144,
R147, R152, R153, R158, R164, R165). -/
def State.BodyStarts (s t : State) (c c' : StepContext) (limit : Nat) : StepBody → Prop
  | .none => True
  | .hold _ =>
    s.Opens t.acq.window .counted c.record.window (· ∈ c.record.checks.map (·.channel)) ∧ s.Guards t
      ∧ t.drive = s.drive
  | .ramp iFrom iTo slope =>
    s.Opens t.acq.window .span 0 (· ∈ c.record.checks.map (·.channel)) ∧ s.Guards t
      ∧ s.TakesSet t (GenSet.ramp (some (min iFrom limit)) (min iTo limit) slope)
  | .pulse lo hi period high cycles =>
    s.Opens t.acq.window .span 0 (· ∈ c.record.checks.map (·.channel)) ∧ s.Guards t
      ∧ s.TakesSet t (GenSet.pulse (min lo limit) (min hi limit) period high cycles)
      ∧ (s.drive.dropHold = false → s.drive.busy = false → t.drive.pulse = some ⟨1, 0⟩ ∧ t.drive.completed = 0)
  | .tripSearch iFrom slope iCeiling detect threshold _ _ =>
    s.Opens t.acq.window .span 0 (fun _ => False) ∧ s.Awaits t detect threshold
      ∧ s.TakesSet t (GenSet.ramp (some (min iFrom limit)) (min iCeiling limit) slope)
  | .tripTime _ iOver detect threshold _ tMax =>
    s.Opens t.acq.window .span 0 (fun _ => False) ∧ s.Awaits t detect threshold
      ∧ s.TakesSet t (GenSet.level (min (iOver * 1000) (limit * 1000))) ∧ c'.wait = some (tMax + 3)
  | .recover _ resetPulse =>
    t.acq.window = s.acq.window
      ∧ (resetPulse = 0 → c'.stage = .regulationWait ∧ t.drive = s.drive
          ∧ ∃ d, t.acq.detectors.regulation = some d ∧ d.threshold = s.engine.ratings.vRegLow
            ∧ ∀ x, s.acq.latest = some x → d.run = if (d.threshold : Int) ≤ x.average.vOut then 1 else 0)
      ∧ (resetPulse ≠ 0 → c'.stage = .resetPulse ∧ t.acq.detectors = s.acq.detectors
          ∧ t.drive = { s.drive with shelfEnable := false, resetPulse := some (resetPulse * 10) })
  | .derate .. =>
    s.Opens t.acq.window .counted c.record.window
        (fun ch => ch = .measured .vOut ∨ ch ∈ c.record.checks.map (·.channel))
      ∧ s.Guards t ∧ t.acq.detectors.knee = s.acq.detectors.knee ∧ t.drive = s.drive ∧ c'.stage = .reference
  | .dropout _ lead dropout restore _ =>
    s.Guards t
      ∧ (lead = 0 → s.Opens t.acq.window .span 0
            (fun ch => ch = .measured .vOut ∨ ch ∈ c.record.checks.map (·.channel))
          ∧ t.drive = { s.drive with coupling := .off dropout restore, lineEnable := false })
      ∧ (lead ≠ 0 → t.acq.window = s.acq.window
          ∧ t.drive = { s.drive with coupling := .lead lead dropout restore })

/-- From `s` to `t`, BODY start has started a TERMINAL capture with the latest sample as its first pair, and left any
other capture alone (R106). -/
def State.StartsCapture (s t : State) : Prop :=
  (s.acq.capture.mode = .terminal → t.acq.capture.state = .collecting
      ∧ ∀ x, s.acq.latest = some x → t.acq.capture.fill = [x.pair])
    ∧ (s.acq.capture.mode ≠ .terminal → t.acq.capture = s.acq.capture)

/-- From `s` to `t`, the walk tallies count the STEP_RESULT `r` (R30). -/
def State.CountedBy (s : State) (r : StepResult) (t : State) : Prop :=
  t.engine.tallies.stepsRun = min (s.engine.tallies.stepsRun + 1) 4294967295
    ∧ (r.verdict = .pass → t.engine.tallies.stepsFailed = s.engine.tallies.stepsFailed
        ∧ t.engine.tallies.firstFail = s.engine.tallies.firstFail
        ∧ t.engine.tallies.allPass = s.engine.tallies.allPass)
    ∧ (r.verdict ≠ .pass → t.engine.tallies.stepsFailed = min (s.engine.tallies.stepsFailed + 1) 4294967295
        ∧ t.engine.tallies.firstFail = some (s.engine.tallies.firstFail.getD (r.page, r.index))
        ∧ t.engine.tallies.allPass = false)

/-- The walk engine goes on to offer the record `x` when the queue holds `n` records: it is the first of the records
placed since, or it waits in OUTPUT_STALL for an entry (R180). -/
def State.OffersNext (t : State) (n : Nat) (more : List Record) (x : StepLevel) : Prop :=
  (n < 32 → more.head? = some (.stepLevel x))
    ∧ (32 ≤ n → more = [] ∧ t.engine.waiting = some x ∧ t.engine.phase = .outputStall)

/-- From `s` to `t`, the walk has entered WINDDOWN for a reason: no step and no pause stand, the line setpoint returns to
line_nominal, and the winddown ramp is in force at safe_slope, or waits where R73 holds it back; the level, the enables
and the relay stand as they were (R41, R84, R85). -/
def State.EntersWinddown (s t : State) (reason : Reason) : Prop :=
  t.engine.walk = .winddown ∧ t.engine.reason = some reason ∧ t.engine.step = none ∧ t.engine.pausePending = false
    ∧ s.LineSet t s.engine.ratings.lineNominal ∧ s.drive.StandsIn t.drive
    ∧ (s.drive.busy = false → t.drive.active = .ramp none 0 s.engine.safeSlope ∧ t.drive.status = .acting
        ∧ t.drive.staged = none)
    ∧ (s.drive.busy = true → t.drive.staged = some ⟨.ramp none 0 s.engine.safeSlope, none⟩
        ∧ t.drive.active = s.drive.active ∧ t.drive.status = s.drive.status ∧ t.drive.rangeChange = s.drive.rangeChange)

/-- From `s` to `t`, the walk has entered WINDDOWN for a reason, with the bay lines kept, and posts nothing yet (R31, R39,
R41). -/
def State.WindsDown (s t : State) (reason : Reason) (more : List Record) : Prop :=
  more = [] ∧ s.EntersWinddown t reason ∧ t.bay = s.bay

/-- From `s` to `t`, PAGE_WAIT has compared the level with rest_level: above it a ramp to rest_level at safe_slope, at or
below it the rest level to be counted as reached at the next update, and while a range change runs the comparison waits;
the level, the enables and the relay stand as they were. A ramp that meets drop hold is discarded (R40, R73, R79, R83). -/
def State.ComparesRest (s t : State) : Prop :=
  s.drive.StandsIn t.drive ∧ t.drive.dropHold = s.drive.dropHold ∧ t.drive.lineSetpoint = s.drive.lineSetpoint
    ∧ (s.drive.rangeChange ≠ .none → t.engine.rest = .deferred ∧ t.drive = s.drive)
    ∧ (s.drive.rangeChange = .none → s.drive.level ≤ s.engine.restLevel * 1000 →
        t.engine.rest = .atNextUpdate ∧ t.drive = s.drive)
    ∧ (s.drive.rangeChange = .none → s.engine.restLevel * 1000 < s.drive.level → t.engine.rest = .ramping
        ∧ (s.drive.dropHold = true → t.drive = s.drive)
        ∧ (s.drive.dropHold = false → s.drive.busy = false →
            t.drive.active = .ramp none s.engine.restLevel s.engine.safeSlope ∧ t.drive.status = .acting
              ∧ t.drive.staged = none ∧ t.drive.rangeChange = .none))

/-- From `s` to `t`, START_WALK has been accepted with the header `f`: the header and the profile's ratings are stored,
the start page is current, the marks and the tallies are cleared, and the enables are active, load enable once no relay
count runs (R22, R77, R81). -/
def State.BeginsWalk (s t : State) (f : StartFields) (page : Page) : Prop :=
  (∃ h, t.engine.header = some h ∧ h.restLevel = f.restLevel.toNat ∧ h.safeSlope = f.safeSlope.toNat
      ∧ h.pageWaitLimit = f.pageWaitLimit.toNat ∧ (h.stopOnFail = true ↔ f.stopOnFail.toNat = 1))
    ∧ t.engine.profile = some (s.store.profile f.profile.toNat).ratings
    ∧ t.engine.page = some page ∧ t.engine.chain = (if f.chain.toNat = 1 then some page.other else none)
    ∧ t.engine.lastIndex = some f.index.toNat ∧ t.engine.pausePending = false ∧ t.engine.abortPending = false
    ∧ t.engine.tallies = ⟨0, 0, none, true⟩ ∧ t.engine.reason = none
    ∧ t.drive.shelfEnable = true ∧ t.drive.lineEnable = true
    ∧ t.drive.loadEnable = (s.drive.loadEnable || s.drive.relayCount == 0)

/-- The context of a step that has just entered ADMIT in `s` (R23, R28). -/
def State.FreshStep (s : State) (c : StepContext) (record : StepRecord) (page : Page) (index : Nat) : Prop :=
  c.record = record ∧ c.page = page ∧ c.index = index ∧ c.timeLeft = record.timeLimit * 10
    ∧ c.admitSeq = s.acq.seq ∧ c.admitLevel = s.drive.level / 1000 ∧ c.contributions = []

/-- From `s` to `t`, a step record has ended with OVER_BAY in the event of its ADMIT entry: its STEP_RESULT is offered at
the tail, and while it waits the claim stays and no attempt has been made (R23, R24, R51, R124). -/
def State.EndsOverBay (s t : State) (r : StepResult) (record : StepRecord) (page : Page) (index : Nat)
    (more : List Record) : Prop :=
  t.queue = s.queue ++ more ∧ t.OffersNext s.queue.length more (.stepResult r)
    ∧ r.verdict = .overBay ∧ r.endPhase = .admitting ∧ r.page = page ∧ r.index = index ∧ r.tag = record.tag
    ∧ r.kind = record.kind ∧ r.duration = 0 ∧ r.exitLevel = s.drive.level / 1000
    ∧ r.admissionAttempts = 0 ∧ r.gateAttempts = 0 ∧ r.posted = 0 ∧ r.dropped = 0
    ∧ (32 ≤ s.queue.length → t.engine.walk = .running ∧ t.engine.lastIndex = some index
        ∧ t.bay.drivenClaim = s.bay.drivenClaim ∧ t.bay.protocol = .idle ∧ t.bay.admissionAttempts = 0)

/-- From `s` to `t`, a step record has entered ADMIT at an index, the queue holding `n` records: with an attempt, at
once under the claim driven, or with the STEP_RESULT of OVER_BAY offered (R23, R24, R51, R54). That a gated step which
goes to GATE at once has its own unit as before, with gate_quiet 0 too, is the model's choice
(notes/assumptions/45.md). -/
def State.Admits (s t : State) (record : StepRecord) (index n : Nat) (more : List Record) : Prop :=
  (s.bay.drivenClaim < claimOf record.body.peak s.engine.ratings.vNom →
    claimOf record.body.peak s.engine.ratings.vNom ≤ s.bayLimit →
    more = [] ∧ t.engine.lastIndex = some index ∧ t.engine.pausePending = s.engine.pausePending
      ∧ t.bay.protocol = .raising ∧ t.bay.drivenClaim = claimOf record.body.peak s.engine.ratings.vNom
      ∧ t.bay.priorClaim = s.bay.drivenClaim ∧ t.bay.ownUnit = s.bay.ownUnit ∧ t.drive.level = s.drive.level
      ∧ ∃ c, t.StepIn .admitting c ∧ c.record = record)
  ∧ (claimOf record.body.peak s.engine.ratings.vNom ≤ s.bay.drivenClaim →
    more = [] ∧ t.engine.lastIndex = some index ∧ t.engine.pausePending = s.engine.pausePending
      ∧ t.bay.drivenClaim = s.bay.drivenClaim ∧ t.bay.admissionAttempts = 0 ∧ t.bay.ownUnit = s.bay.ownUnit
      ∧ t.drive.level = s.drive.level
      ∧ ∃ c, t.StepIn (if record.kind.gated then .gate else .applying) c ∧ c.record = record)
  ∧ (s.bay.drivenClaim < claimOf record.body.peak s.engine.ratings.vNom →
    s.bayLimit < claimOf record.body.peak s.engine.ratings.vNom →
    ∃ x, t.OffersNext n more (.stepResult x) ∧ x.verdict = .overBay ∧ x.endPhase = .admitting ∧ x.index = index
      ∧ x.exitLevel = s.drive.level / 1000 ∧ x.admissionAttempts = 0)

/-- From `s` to `t`, a boundary names a step record: a pending pause is taken when no unit is held, with the index as
the resume index, and otherwise the record enters ADMIT (R31, R34, R39). -/
def State.MeetsBoundary (s t : State) (record : StepRecord) (index n : Nat) (more : List Record) : Prop :=
  (s.engine.pausePending = true → s.bay.ownUnit = .released →
    more = [] ∧ t.engine.walk = .paused ∧ t.engine.resumeIndex = index ∧ t.engine.pausePending = false
      ∧ t.bay = s.bay ∧ t.drive = s.drive)
  ∧ (s.engine.pausePending = false ∨ s.bay.ownUnit ≠ .released → s.Admits t record index n more)

/-- From `s` to `t`, a PAGE_SWAP to page `p` has been placed as the `n`th record of the queue, and the walk goes on by
the first case that holds: ABORT pending, an empty slot 0 of the new page, and the boundary of slot 0 (R39). -/
def State.SwapLeads (s t : State) (p : Page) (n : Nat) (more : List Record) : Prop :=
  (s.engine.abortPending = true → s.WindsDown t .aborted more)
  ∧ (s.engine.abortPending = false → (s.store.slot p 0).kind = .none → s.WindsDown t .emptyStep more)
  ∧ (s.engine.abortPending = false → (s.store.slot p 0).kind ≠ .none →
      s.MeetsBoundary t (s.store.slot p 0) 0 n more)

/-- From `s` to `t`, the walk has swapped to page `p` with `n` records in the queue: the page is current, the mark is
gone, and the PAGE_SWAP is placed, with what follows it, or waits (R39, R40). -/
def State.Swaps (s t : State) (p : Page) (n : Nat) (more : List Record) : Prop :=
  t.engine.page = some p ∧ t.engine.chain = none
    ∧ (n < 32 → ∃ after, more = .stepLevel (.pageSwap p) :: after ∧ s.SwapLeads t p (n + 1) after)
    ∧ (32 ≤ n → more = [] ∧ t.engine.waiting = some (.pageSwap p) ∧ t.engine.phase = .outputStall
        ∧ t.engine.walk = .running ∧ t.bay = s.bay ∧ t.drive = s.drive)

/-- From `s` to `t`, the STEP_RESULT `r` has been placed as the `n`th record of the queue in RUNNING, and the walk goes
on by the first case that holds: ABORT pending, a failing verdict under stop_on_fail, the end of the walk, the end of
the page, an empty slot, and the boundary (R30, R31, R39, R40). -/
def State.ResultLeads (s t : State) (r : StepResult) (record : StepRecord) (n : Nat) (more : List Record) : Prop :=
  let next := if r.verdict = .pass then record.nextPass else record.nextFail
  (s.engine.abortPending = true → s.CountedBy r t ∧ s.WindsDown t .aborted more)
  ∧ (s.engine.abortPending = false → r.verdict ≠ .pass → s.engine.stopOnFail = true →
      s.CountedBy r t ∧ s.WindsDown t .fail more)
  ∧ (s.engine.abortPending = false → (r.verdict ≠ .pass → s.engine.stopOnFail = false) →
    (next = 33 → s.CountedBy r t
      ∧ s.WindsDown t (if s.engine.tallies.allPass ∧ r.verdict = .pass then .pass else .fail) more)
    ∧ (next = 32 → s.engine.chain = none → s.CountedBy r t ∧ more = [] ∧ t.engine.walk = .pageWait ∧ t.bay = s.bay
      ∧ t.engine.page = s.engine.page ∧ t.engine.pageWaitLeft = s.engine.pageWaitSamples ∧ s.ComparesRest t)
    ∧ (∀ p, next = 32 → s.engine.chain = some p → s.Swaps t p n more)
    ∧ (next < 32 → (s.currentSlot next).kind = .none → s.CountedBy r t ∧ s.WindsDown t .emptyStep more)
    ∧ (next < 32 → (s.currentSlot next).kind ≠ .none →
      s.MeetsBoundary t (s.currentSlot next) next n more
        ∧ ((s.engine.pausePending = true ∧ s.bay.ownUnit = .released)
            ∨ claimOf (s.currentSlot next).body.peak s.engine.ratings.vNom ≤ max s.bay.drivenClaim s.bayLimit →
          s.CountedBy r t)))

/-- An event that finds an entry of the queue free for a record that waits, on the state `v`, and takes the state it
makes on with `take`: the completion that sends the head, which removes it, ends the transaction and takes the frame's
command, and the row beside a free entry, which takes nothing (R172, R173, R180, R182; notes/assumptions/9.md,
notes/assumptions/10.md, notes/assumptions/41.md). -/
def State.FreesEntry (s v : State) (take : State → Host.Outcome State Fault Refusal)
    (out : Host.Outcome State Fault Refusal) : Prop :=
  (s.queue.length < 32 ∧ v = s ∧ take = .next ∧ out = exec .stalledRecordPlaced s)
    ∨ ∃ (bytes frame : List Byte) (straps : BitVec 4), s.port.select = .active ∧ 64 ≤ bytes.length
        ∧ s.port.outgoing = some (.queue, frame) ∧ s.queue.length ≤ 32
        ∧ v = (s.setQueue s.queue.tail).setPort ⟨.inactive, bytes.take 64, none, s.port.answer,
            frame.take bytes.length ++ List.replicate (bytes.length - frame.length) 0⟩
        ∧ take = exec (frameCommand (bytes.take 64) straps) ∧ out = exec (.transactionComplete bytes straps) s

/-- The values of a contribution that the line may still show after a reset has taken it to 0, with the samples left of
each: those that were fading, and, with line_settle from the reset on, the value that stood on the line and the one that
a change since the last sample had put in its place (R45, R69). -/
def Contribution.Fades (c : Contribution) (driven settle : Nat) (fading : List (Nat × Nat)) : Prop :=
  ∀ v left, (v, left) ∈ fading ↔ (v, left) ∈ c.fading
    ∨ (left = settle ∧ ((v = driven ∧ driven ≠ 0) ∨ (v = c.current ∧ c.current ≠ driven)))

/-- No event of the latest sample is due. -/
def State.Settled (s : State) : Prop := ∀ event ∈ dueEvents, event s = none

/-- No detector is armed. -/
def Detectors.Quiet (d : Detectors) : Prop :=
  d.collapse = none ∧ d.alarmArmed = false ∧ d.regulation = none ∧ d.knee = none

/-- All that the commands of a walk leave alone: the port, the plan store, the interlock input and the
commands waiting. -/
def State.outer (s : State) : Port × PlanStore × Bool × List Instr :=
  (s.port, s.store, s.interlockOpen, s.pending)

/-! ## Accepted values, as the tables of the spec list them -/

/-- Every field of a table is accepted. A table lists the examined fields of a command in ascending order, each
with its number and what it accepts (R1). -/
def Accepts : List (Nat × Prop) → Prop
  | [] => True
  | (_, ok) :: rest => ok ∧ Accepts rest

/-- Field `n` of a table is the first that fails (R1). -/
def FirstFailing : List (Nat × Prop) → Nat → Prop
  | [], _ => False
  | (k, ok) :: rest, n => (¬ ok ∧ n = k) ∨ (ok ∧ FirstFailing rest n)

/-- The fields of a check entry, from field number `k` (R4). -/
def checkAccepts (k : Nat) (c : CheckFields) : List (Nat × Prop) :=
  [ (k, (CheckChannel.ofCode c.channel).isSome = true),
    (k + 1, (Statistic.ofCode c.statistic).isSome = true),
    (k + 2, ∀ ch, CheckChannel.ofCode c.channel = some ch →
      (checkRange ch).1 ≤ c.low.toInt ∧ c.low.toInt ≤ (checkRange ch).2),
    (k + 3, ∀ ch, CheckChannel.ofCode c.channel = some ch →
      (checkRange ch).1 ≤ c.high.toInt ∧ c.high.toInt ≤ (checkRange ch).2 ∧ c.low.toInt ≤ c.high.toInt) ]

/-- A curve reference passes: an id of 0 to 7, whose curve is empty or not of the wrong axis (R8). -/
def CurveRefAcceptable (store : PlanStore) (id : Nat) (wrong : Axis) : Prop :=
  id ≤ 7 ∧ ((store.curve id).points = [] ∨ (store.curve id).axis ≠ some wrong)

/-- The kind-specific fields of WRITE_STEP (R5 to R8). -/
def kindAccepts (store : PlanStore) (f : StepFields) : Kind → List (Nat × Prop)
  | .none => []
  | .hold => [(24, f.k24.toNat ≤ 12000)]
  | .ramp =>
    [(24, f.k24.toNat ≤ 12000), (25, f.k25.toNat ≤ 12000), (26, 1 ≤ f.k26.toNat ∧ f.k26.toNat ≤ 20000)]
  | .pulse =>
    [ (24, f.k24.toNat ≤ 12000), (25, f.k24.toNat ≤ f.k25.toNat ∧ f.k25.toNat ≤ 12000),
      (26, 2 ≤ f.k26.toNat ∧ f.k26.toNat ≤ 60000), (27, 1 ≤ f.k27.toNat ∧ f.k27.toNat < f.k26.toNat) ]
  | .tripSearch =>
    [ (24, f.k24.toNat ≤ 12000), (25, 1 ≤ f.k25.toNat ∧ f.k25.toNat ≤ 20000),
      (26, f.k24.toNat < f.k26.toNat ∧ f.k26.toNat ≤ 12000), (27, (Detect.ofCode f.k27).isSome = true),
      (28, 1 ≤ f.k28.toNat ∧ f.k28.toNat ≤ 65000), (29, f.k29.toNat ≤ 12000),
      (30, f.k29.toNat ≤ f.k30.toNat ∧ f.k30.toNat ≤ 12000) ]
  | .tripTime =>
    [ (24, f.k24.toNat ≤ 12000), (25, f.k24.toNat < f.k25.toNat ∧ f.k25.toNat ≤ 12000),
      (26, (Detect.ofCode f.k26).isSome = true), (27, 1 ≤ f.k27.toNat ∧ f.k27.toNat ≤ 65000),
      (28, 1 ≤ f.k28.toNat), (29, f.k28.toNat ≤ f.k29.toNat) ]
  | .recover => [(24, f.k24.toNat ≤ 12000), (25, f.k25.toNat ≤ 5000)]
  | .derate =>
    [ (24, CurveRefAcceptable store f.k24.toNat .temperature),
      (25, f.k25.toNat = 255 ∨ CurveRefAcceptable store f.k25.toNat .voltage),
      (26, f.k26.toNat ≤ 12000), (27, 1 ≤ f.k27.toNat ∧ f.k27.toNat ≤ 20000),
      (28, f.k26.toNat < f.k28.toNat ∧ f.k28.toNat ≤ 12000), (29, 100 ≤ f.k29.toNat ∧ f.k29.toNat ≤ 10000),
      (30, f.k30.toNat ≤ 500), (31, f.k31.toNat ≤ 500) ]
  | .dropout =>
    [ (24, f.k24.toNat ≤ 12000), (25, f.k25.toNat ≤ 10000), (26, 1 ≤ f.k26.toNat ∧ f.k26.toNat ≤ 5000),
      (27, 1 ≤ f.k27.toNat ∧ f.k27.toNat ≤ 10000), (28, f.k28.toNat ≤ 65000) ]

/-- The fields of WRITE_STEP after the kind, for a kind other than NONE: the common fields, the present check
entries and the kind-specific fields (R3 to R8). -/
def stepAccepts (store : PlanStore) (f : StepFields) (k : Kind) : List (Nat × Prop) :=
  [ (5, f.nextPass.toNat ≤ 33), (6, f.nextFail.toNat ≤ 33),
    (7, 1 ≤ f.timeLimit.toNat ∧ f.timeLimit.toNat ≤ 600000),
    (8, (1800 ≤ f.lineSetpoint.toNat ∧ f.lineSetpoint.toNat ≤ 3050) ∨ (f.lineSetpoint.toNat = 0 ∧ k ≠ .derate)),
    (9, k = .hold ∨ k = .derate → f.window.toNat ≠ 0),
    (11, f.checkCount.toNat ≤ 3 ∧ (k = .tripSearch ∨ k = .tripTime → f.checkCount.toNat = 0)) ]
    ++ (if 1 ≤ f.checkCount.toNat then checkAccepts 12 f.check1 else [])
    ++ (if 2 ≤ f.checkCount.toNat then checkAccepts 16 f.check2 else [])
    ++ (if 3 ≤ f.checkCount.toNat then checkAccepts 20 f.check3 else [])
    ++ kindAccepts store f k

/-- The point fields of WRITE_CURVE from point `k` on, given the x of the point before: x within the axis range
and above that x, y at most 1000 (R9, R10). -/
def pointAccepts (x : Axis) (k : Nat) (before : Option Int) : List (BitVec 16 × BitVec 16) → List (Nat × Prop)
  | [] => []
  | p :: rest =>
    (2 + 2 * k, (axisRange x).1 ≤ p.1.toInt ∧ p.1.toInt ≤ (axisRange x).2 ∧ ∀ b, before = some b → b < p.1.toInt)
      :: (3 + 2 * k, p.2.toNat ≤ 1000)
      :: pointAccepts x (k + 1) (some p.1.toInt) rest

/-- The fields of WRITE_CURVE before its points (R10). -/
def curveAccepts (f : CurveFields) : List (Nat × Prop) :=
  [ (1, f.curve.toNat ≤ 7), (2, (Axis.ofCode f.axis).isSome = true),
    (3, f.n.toNat = 0 ∨ (2 ≤ f.n.toNat ∧ f.n.toNat ≤ 12)) ]

/-- The fields of WRITE_PROFILE (R12). -/
def profileAccepts (f : ProfileFields) : List (Nat × Prop) :=
  [ (1, f.profile.toNat ≤ 3), (2, 1000 ≤ f.pRated.toNat ∧ f.pRated.toNat ≤ 40000),
    (3, 40000 ≤ f.vNom.toNat ∧ f.vNom.toNat ≤ 60000), (4, 1 ≤ f.vRegLow.toNat ∧ f.vRegLow.toNat < f.vNom.toNat),
    (5, 1 ≤ f.vCollapse.toNat ∧ f.vCollapse.toNat < f.vRegLow.toNat),
    (6, 1 ≤ f.iMax.toNat ∧ f.iMax.toNat ≤ 12000),
    (7, 1800 ≤ f.lineNominal.toNat ∧ f.lineNominal.toNat ≤ 3050) ]

/-- The fields of WRITE_CHANNEL (R13). -/
def channelAccepts (f : ChannelFields) : List (Nat × Prop) :=
  [ (1, (channelOfCode f.channel).isSome = true), (2, 1 ≤ f.gain.toNat ∧ f.gain.toNat ≤ 131071),
    (3, ∀ c, channelOfCode f.channel = some c → |f.offset.toInt| ≤ (channelRange c).2 - (channelRange c).1),
    (4, f.averaging.toNat ∈ [1, 2, 4, 8, 16, 32, 64]), (5, f.settle.toNat ≤ 10000),
    (6, f.rangeSettle.toNat ≤ 10000), (7, (Policy.ofCode f.policy).isSome = true) ]

/-- The header fields of START_WALK (R21). -/
def startAccepts (store : PlanStore) (f : StartFields) : List (Nat × Prop) :=
  [ (1, (Page.ofCode f.page).isSome = true), (2, f.index.toNat ≤ 31),
    (3, f.profile.toNat ≤ 3 ∧ (store.profile f.profile.toNat).valid = true),
    (4, f.restLevel.toNat ≤ 12000), (5, 10 ≤ f.safeSlope.toNat ∧ f.safeSlope.toNat ≤ 20000),
    (6, 1 ≤ f.pageWaitLimit.toNat ∧ f.pageWaitLimit.toNat ≤ 600), (7, f.stopOnFail.toNat ≤ 1),
    (8, f.chain.toNat ≤ 1) ]

/-- The fields of CONFIGURE (R57). -/
def configAccepts (f : ConfigFields) : List (Nat × Prop) :=
  [ (1, 1 ≤ f.limit.toNat ∧ f.limit.toNat ≤ 2047), (2, 1 ≤ f.lineSettle.toNat ∧ f.lineSettle.toNat ≤ 50),
    (3, 1 ≤ f.backoffUnit.toNat ∧ f.backoffUnit.toNat ≤ 100),
    (4, 1 ≤ f.attemptLimit.toNat ∧ f.attemptLimit.toNat ≤ 15), (5, f.gateQuiet.toNat ≤ 1000),
    (6, f.alarmPolarity.toNat ≤ 1) ]

/-! ## Layouts of the outgoing records -/

/-- The unsigned field of `n` bytes at byte `i`, most significant byte first (R186). -/
def fieldAt (frame : List Byte) (i : Nat) : Nat → Nat
  | 0 => 0
  | n + 1 => 256 * fieldAt frame i n + (byteAt frame (i + n)).toNat

/-- A signed value in the field of `n` bytes at byte `i`, in two's complement (R186). -/
def HoldsInt (frame : List Byte) (i n : Nat) (v : Int) : Prop := (fieldAt frame i n : Int) = v % (256 ^ n : Nat)

/-- An unsigned value in the field of `n` bytes at byte `i`. -/
def HoldsNat (frame : List Byte) (i n v : Nat) : Prop := fieldAt frame i n = v % 256 ^ n

/-- The bits of a flags byte, bit 0 first. -/
def HoldsBits (frame : List Byte) (i : Nat) (bits : List Bool) : Prop :=
  ∀ k b, bits[k]? = some b → (byteAt frame i).getLsbD k = b

/-- The check entry at byte `i`: statistic and flags, and 00h when it was not evaluated or is absent (R188). That flags
bits 3 to 7 are 0 is the model's choice (DESIGN CHOICE, notes/assumptions/44.md). -/
def HoldsCheck (frame : List Byte) (i : Nat) (c : Option CheckResult) : Prop :=
  match c with
  | some c =>
    if c.evaluated then
      HoldsInt frame i 3 c.statistic ∧ HoldsBits frame (i + 3) [true, c.pass, c.mark, false, false, false, false, false]
    else fieldAt frame i 4 = 0
  | none => fieldAt frame i 4 = 0

/-- The kind fields of a STEP_RESULT, from byte 52 (R188). -/
def HoldsKind (frame : List Byte) (r : StepResult) : Prop :=
  match r.kind with
  | .pulse => HoldsNat frame 52 2 r.cycles
  | .tripTime => HoldsNat frame 52 3 (r.figures.tTrip.getD 0)
  | .recover => HoldsNat frame 52 3 (r.figures.recovery.getD 0) ∧ HoldsInt frame 55 2 (r.figures.watchMin.getD 0)
  | .derate =>
    HoldsInt frame 52 2 (r.figures.vRef.getD 0) ∧ HoldsInt frame 54 2 (r.figures.tUsed.getD 0)
      ∧ HoldsNat frame 56 2 (r.figures.pExp.getD 0) ∧ HoldsNat frame 58 3 (r.figures.pKnee.getD 0)
  | .dropout =>
    HoldsInt frame 52 2 (r.figures.vMin.getD 0)
      ∧ (∀ span, r.figures.tripSpan = some span → byteAt frame 54 = BitVec.ofNat 8 span.code)
  | _ => True

/-- The layout of a STEP_RESULT (R188). That bits 6 and 7 of byte 20 are 0 is the model's choice (DESIGN CHOICE,
notes/assumptions/44.md). -/
def HoldsStepResult (frame : List Byte) (r : StepResult) : Prop :=
  HoldsNat frame 7 1 (pageCode (some r.page)) ∧ HoldsNat frame 8 1 r.index ∧ HoldsNat frame 9 1 r.tag
    ∧ HoldsNat frame 10 1 r.kind.code ∧ HoldsNat frame 11 1 r.verdict.code ∧ HoldsNat frame 12 1 r.endPhase.code
    ∧ HoldsNat frame 13 3 r.duration ∧ HoldsNat frame 16 2 r.exitLevel ∧ HoldsNat frame 18 1 r.admissionAttempts
    ∧ HoldsNat frame 19 1 r.gateAttempts
    ∧ HoldsBits frame 20 [r.clamped, r.censusHeld, r.figures.curveMissing, r.figures.trip.isSome,
        (r.figures.trip.map (·.mark)).getD false, r.figures.tUsedMark, false, false]
    ∧ HoldsBits frame 21 [r.figures.tTrip.isSome, r.figures.recovery.isSome, r.figures.watchMin.isSome,
        r.figures.vRef.isSome, r.figures.tUsed.isSome, r.figures.pExp.isSome, r.figures.pKnee.isSome,
        r.figures.vMin.isSome]
    ∧ HoldsNat frame 22 1 r.posted ∧ HoldsNat frame 23 1 r.dropped ∧ HoldsNat frame 24 3 r.windowCount
    ∧ HoldsNat frame 27 3 r.restarts ∧ HoldsNat frame 30 3 r.disturbed
    ∧ HoldsCheck frame 33 r.checks[0]? ∧ HoldsCheck frame 37 r.checks[1]? ∧ HoldsCheck frame 41 r.checks[2]?
    ∧ (∀ x, r.figures.trip = some x → byteAt frame 45 = BitVec.ofNat 8 x.source.code
        ∧ HoldsNat frame 46 4 x.date.toNat ∧ HoldsInt frame 50 2 x.iTrip)
    ∧ HoldsKind frame r

/-- The layout of a WALK_SUMMARY (R188). -/
def HoldsWalkSummary (frame : List Byte) (w : WalkSummary) : Prop :=
  byteAt frame 7 = (if w.verdictPass then 0 else 1) ∧ HoldsNat frame 8 1 w.reason.code
    ∧ HoldsNat frame 9 4 w.stepsRun ∧ HoldsNat frame 13 4 w.stepsFailed
    ∧ HoldsNat frame 17 1 (pageCode (w.firstFail.map (·.1))) ∧ HoldsNat frame 18 1 (indexCode (w.firstFail.map (·.2)))

/-- The layout of a CAPTURE_BLOCK, for its pairs of up to 12 (R189). -/
def HoldsCaptureBlock (frame : List Byte) (b : CaptureBlock) : Prop :=
  HoldsNat frame 11 1 b.tag ∧ HoldsNat frame 12 1 b.index
    ∧ (∀ p, b.samples.head? = some p → HoldsNat frame 7 4 p.seq.toNat
        ∧ byteAt frame 13 = BitVec.ofNat 8 ((if p.range = .high then 128 else 0) + b.samples.length))
    ∧ (∀ k p, k < 12 → b.samples[k]? = some p → HoldsInt frame (16 + 4 * k) 2 p.vOut
        ∧ fieldAt frame (18 + 4 * k) 2 = p.iOut.toNat % 16384 + (if p.disturbed then 16384 else 0)
            + (if p.iOver then 32768 else 0)
        ∧ (fieldAt frame 14 2).testBit k = p.vOver)
    ∧ (b.samples.length ≤ 12 → ∀ k, b.samples.length ≤ k → k < 12 →
        fieldAt frame (16 + 4 * k) 4 = 0 ∧ (fieldAt frame 14 2).testBit k = false)

/-- The layout of a record of the result queue (R188, R189). -/
def HoldsRecord (frame : List Byte) : Record → Prop
  | .stepLevel (.stepResult r) => HoldsStepResult frame r
  | .stepLevel (.walkSummary w) => HoldsWalkSummary frame w
  | .stepLevel (.pageSwap p) => HoldsNat frame 7 1 (pageCode (some p))
  | .captureBlock b => HoldsCaptureBlock frame b

/-- The layout of the snapshot in the ANSWER to STATUS (R188). -/
def HoldsSnapshot (frame : List Byte) (p : Snapshot) : Prop :=
  HoldsNat frame 10 1 p.walk.code ∧ HoldsNat frame 11 1 p.phase.code ∧ HoldsNat frame 12 1 (pageCode p.page)
    ∧ HoldsNat frame 13 1 (indexCode p.index) ∧ HoldsNat frame 14 1 p.drivenClaim ∧ HoldsNat frame 15 2 p.bayTotal
    ∧ HoldsNat frame 17 1 p.censusReading ∧ HoldsNat frame 18 1 p.censusOthers ∧ HoldsNat frame 19 1 p.ownUnit.code
    ∧ HoldsNat frame 20 1 p.admissionAttempts ∧ HoldsNat frame 21 1 p.gateAttempts ∧ HoldsNat frame 22 4 p.level
    ∧ HoldsNat frame 26 1 p.range.code ∧ HoldsNat frame 27 1 p.queueCount
    ∧ byteAt frame 28 = (if p.interlockOpen then 1 else 0) ∧ HoldsNat frame 29 1 p.address


end Sys2Proof.Machine

namespace Sys2Proof

/-- The commands apart from the station port and the resets: the sample, the part's own events and the
interlock input. -/
def Instr.isEvent : Instr → Bool
  | .sample _ | .collapseDetect | .regulationEvent | .stepTimeLimitExpiry | .pageWaitExpiry
  | .admissionDecision | .backoffEnd | .quietWaitEnd | .gateDecision | .gateBackoffEnd | .releaseSpanEnd
  | .generatorSetEnd | .pulseCycleEnd | .pulseStopRequest | .rangeDownEnd | .relayCountExpiry
  | .applyComplete | .blankClose _ | .windowDone | .ceilingHoldEnd | .tripWaitEnd | .couplingSpanEnd
  | .resetPulseEnd | .captureBlockOffer | .stalledRecordPlaced | .interlockOpen | .interlockClose => true
  | .transactionBegin | .transactionComplete .. | .transactionIncomplete _ | .badCommand _ | .nop | .status
  | .configure _ | .writeStep _ | .writeCurve _ | .writeProfile _ | .writeChannel _ | .startWalk _
  | .pause | .resume | .abort | .release | .armChain | .disarmChain | .reset _ | .pinReset _ => false

/-- The commands that can change the plan store: CONFIGURE and the four writes, a completed transaction
that carries one of them, and the pin reset. -/
def Instr.writesStore : Instr → Bool
  | .configure _ | .writeStep _ | .writeCurve _ | .writeProfile _ | .writeChannel _
  | .transactionComplete .. | .pinReset _ => true
  | _ => false

/-- The commands that reset the part: RESET, also in a completed transaction, and the pin reset (R184, R185). -/
def Instr.resets : Instr → Prop
  | .reset _ | .pinReset _ => True
  | .transactionComplete bytes straps =>
    64 ≤ bytes.length ∧ Machine.frameCommand (bytes.take 64) straps = .reset straps
  | _ => False

/-- The commands of the command summary that are answered (R173, R174), and a frame that names none. -/
def Instr.isAnswered : Instr → Bool
  | .badCommand _ | .status | .configure _ | .writeStep _ | .writeCurve _ | .writeProfile _
  | .writeChannel _ | .startWalk _ | .pause | .resume | .abort | .release | .armChain | .disarmChain
  | .reset _ => true
  | _ => false

end Sys2Proof
end

