-- ==== Sys2Proof/Certificates/Slice0/Obligations.lean ====
section
/-! DEFINITION. The statements about the part, for the provers. OBLIGATIONS.json lists them with the rules
they rest on; Sys2Proof/Tests/Slice0.lean holds a witness for the hypotheses of each. -/

open Sys2Proof Sys2Proof.Machine

/-! ## Steps and commands -/

/-- The model's choice (notes/assumptions/1.md): the commands that reach the part wait in a queue, first in
first out, and a step takes the one at its front and runs it with the rest of the queue. The blocks so take
commands one at a time and in their order, as R173 says of the commands of the port. -/
def Obligations.StepTakesFront : Prop :=
  ∀ (i : Instr) (rest : List Instr) (s : State), s.pending = i :: rest → step s = exec i (s.setPending rest)

/-- The model's choice (notes/assumptions/1.md, notes/assumptions/2.md): with no command waiting the part
idles, and an event row of a state in which nothing is due changes nothing. -/
def Obligations.NothingDueChangesNothing : Prop :=
  ∀ s : State, (s.pending = [] → step s = .next s)
    ∧ (s.Settled → s.engine.waiting = none → ∀ c : Instr, c.isEvent = true → (∀ i, c ≠ .sample i) →
        c ≠ .interlockOpen → c ≠ .interlockClose → exec c s = .next s)

/-- Every command is taken in every state with a next state (R173, R178), and none changes the commands that
wait. That an event row that is not due is taken too, and that commands wait in a queue, is the model's choice
(notes/assumptions/2.md, notes/assumptions/1.md). -/
def Obligations.EveryCommandCompletes : Prop :=
  ∀ (c : Instr) (s : State), ∃ t, exec c s = .next t ∧ t.pending = s.pending

/-- The sample, the part's own events and the interlock input leave the station port and the plan store alone, and only
the two interlock rows among them move the interlock input; and of all commands only CONFIGURE, the four writes, a
completed transaction and the pin reset change the plan store (R17, R18, R42, R173). -/
def Obligations.PortAndStoreAreKept : Prop :=
  (∀ (c : Instr) (s t : State), c.isEvent = true → exec c s = .next t →
      t.port = s.port ∧ t.store = s.store
        ∧ (c ≠ .interlockOpen → c ≠ .interlockClose → t.interlockOpen = s.interlockOpen))
    ∧ (∀ (c : Instr) (s t : State), c.writesStore = false → exec c s = .next t → t.store = s.store)

/-- While a walk is active, no command but a pin reset and a completed transaction changes its current page,
the curves, the shelf profiles or the channel profiles (R10, R12, R13, R16). A completed transaction is left out:
its consumption can swap the page before its command is taken. -/
def Obligations.CurrentPageIsGuarded : Prop :=
  ∀ (c : Instr) (s t : State) (p : Page), s.engine.walk.active = true → s.engine.page = some p →
    (∀ bytes straps, c ≠ .transactionComplete bytes straps) → (∀ straps, c ≠ .pinReset straps) →
    exec c s = .next t →
    t.store.page p = s.store.page p ∧ t.store.curves = s.store.curves
      ∧ t.store.profiles = s.store.profiles ∧ t.store.channels = s.store.channels

/-! ## The station port -/

/-- TRANSACTION_BEGIN latches the ANSWER, else the queue's head, else an IDLE frame, under the status
header, and changes nothing else of the part (R170, R171, R175). That a begin within a transaction, or under a
select that a pin reset made void, begins anew and chooses again is the model's choice (notes/assumptions/10.md).
That the bytes data out has carried are kept until then is the model's own record (notes/assumptions/24.md). -/
def Obligations.TransactionBeginChoosesFrame : Prop :=
  ∀ s : State,
    (∀ a, s.port.answer = some a → exec .transactionBegin s = .next (s.setPort
      ⟨.active, [], some (.answer, toFrame (headerBytes s 0x81 ++ answerBytes a)), some a, []⟩))
    ∧ (∀ r rest, s.port.answer = none → s.queue = r :: rest → exec .transactionBegin s = .next (s.setPort
      ⟨.active, [], some (.queue, toFrame (headerBytes s r.typeCode ++ r.bytes)), none, []⟩))
    ∧ (s.port.answer = none → s.queue = [] → exec .transactionBegin s = .next (s.setPort
      ⟨.active, [], some (.idle, toFrame (headerBytes s 0x80)), none, []⟩))

/-- An outgoing frame has 64 bytes. Bytes 0 to 6 carry record type, walk state, current page, step index, phase,
queue count and flags; an ANSWER carries its command code, answer code and field number, and the snapshot of a
STATUS; a record of the queue carries its fields at the places of its layout; and an IDLE frame is 00h from byte
7 on (R170, R175, R178, R188, R189). The step index shown while a PAGE_SWAP waits in RUNNING is the model's
choice (notes/assumptions/33.md), and so is the 0 of the flags bits that the layout of a STEP_RESULT does not name:
bits 6 and 7 of byte 20 and bits 3 to 7 of bytes 36, 40 and 44 (notes/assumptions/44.md). -/
def Obligations.OutgoingFrameLayout : Prop :=
  ∀ s t : State, exec .transactionBegin s = .next t →
    ∃ source frame, t.port.outgoing = some (source, frame) ∧ frame.length = 64
      ∧ byteAt frame 1 = BitVec.ofNat 8 s.engine.walk.code
      ∧ byteAt frame 2 = BitVec.ofNat 8 (pageCode s.engine.page)
      ∧ byteAt frame 3 = BitVec.ofNat 8
          (indexCode (if s.engine.walk = .paused then some s.engine.resumeIndex else s.engine.lastIndex))
      ∧ byteAt frame 4 = BitVec.ofNat 8 s.engine.phase.code
      ∧ byteAt frame 5 = BitVec.ofNat 8 s.queue.length
      ∧ HoldsBits frame 6 [s.engine.walk == .held, s.store.config.isSome, false, false, false, false, false, false]
      ∧ (∀ a, s.port.answer = some a → byteAt frame 0 = 0x81 ∧ byteAt frame 7 = a.code
          ∧ byteAt frame 8 = BitVec.ofNat 8 a.answer.code ∧ byteAt frame 9 = BitVec.ofNat 8 a.answer.field
          ∧ (∀ p, a.snapshot = some p → HoldsSnapshot frame p)
          ∧ (a.snapshot = none → ∀ k, 10 ≤ k → byteAt frame k = 0))
      ∧ (∀ r rest, s.port.answer = none → s.queue = r :: rest →
          byteAt frame 0 = (match r with
            | .stepLevel (.stepResult _) => 0x90
            | .stepLevel (.walkSummary _) => 0x92
            | .stepLevel (.pageSwap _) => 0x93
            | .captureBlock _ => 0x94)
          ∧ HoldsRecord frame r)
      ∧ (s.port.answer = none → s.queue = [] → byteAt frame 0 = 0x80 ∧ ∀ k, 7 ≤ k → byteAt frame k = 0)

/-- A completed transaction consumes the frame it sent and then takes the incoming frame: it acts as the
row of the frame's command, on the state in which an ANSWER sent has left the answer slot, a queue record
sent has left the queue's head, and chip select is inactive. Data out has carried the frame, and 00h after it
(R170, R172, R173, R174). That the command latch keeps the frame and the outgoing latch is emptied is the model's choice
(notes/assumptions/10.md, notes/assumptions/41.md). -/
def Obligations.CompletionConsumesThenTakes : Prop :=
  ∀ (bytes frame carried : List Byte) (straps : BitVec 4) (s : State), s.port.select = .active →
    64 ≤ bytes.length → carried = frame.take bytes.length ++ List.replicate (bytes.length - frame.length) 0 →
    (s.port.outgoing = some (.answer, frame) → exec (.transactionComplete bytes straps) s =
      exec (frameCommand (bytes.take 64) straps) (s.setPort ⟨.inactive, bytes.take 64, none, none, carried⟩))
    ∧ (s.port.outgoing = some (.queue, frame) → s.engine.waiting = none →
      exec (.transactionComplete bytes straps) s = exec (frameCommand (bytes.take 64) straps)
        ((s.setQueue s.queue.tail).setPort ⟨.inactive, bytes.take 64, none, s.port.answer, carried⟩))
    ∧ (s.port.outgoing = some (.idle, frame) → exec (.transactionComplete bytes straps) s =
      exec (frameCommand (bytes.take 64) straps)
        (s.setPort ⟨.inactive, bytes.take 64, none, s.port.answer, carried⟩))

/-- A record that waits, whichever it is, is placed in the event that frees an entry, behind the records that stand: by
the completion that removes the head of the queue, which then takes its frame's command, and by
STALLED_RECORD_PLACED beside a free entry. A WALK_SUMMARY so placed ends the walk in IDLE or HELD; and in WINDDOWN, where
an interlock opening found the record waiting, the WALK_SUMMARY is offered behind it once the releases are made, and
the walk waits for them before that (R30, R41, R42, R172, R180, R182; DEDUCED, notes/assumptions/19.md). That a record
waits beside a free entry is a state that no run from reset reaches, because the completion places it first (DEDUCED,
notes/assumptions/9.md). What the completion leaves in the latches is the model's choice (notes/assumptions/10.md,
notes/assumptions/41.md). -/
def Obligations.StalledRecordIsPlaced : Prop :=
  ∀ (s v : State) (take : State → Host.Outcome State Fault Refusal) (out : Host.Outcome State Fault Refusal)
    (r : StepLevel), s.FreesEntry v take out → s.engine.waiting = some r →
    ∃ t more, out = take t ∧ t.queue = v.queue ++ .stepLevel r :: more ∧ t.port = v.port ∧ t.store = s.store
      ∧ (∀ w, r = .walkSummary w → more = [] ∧ t.engine.waiting = none
        ∧ t.engine.walk = (if w.verdictPass then .idle else .held) ∧ t.engine.page = none
        ∧ t.engine.chain = none ∧ t.engine.phase = .none ∧ t.bay = s.bay ∧ t.drive = s.drive)
      ∧ (s.engine.walk = .winddown → (∀ w, r ≠ .walkSummary w) →
        t.bay = s.bay ∧ t.drive = s.drive ∧ t.engine.reason = s.engine.reason
          ∧ (∀ x, r = .stepResult x → s.CountedBy x t)
          ∧ (s.engine.releasesDone = false → more = [] ∧ t.engine.waiting = none ∧ t.engine.walk = .winddown
            ∧ t.engine.phase = .none)
          ∧ (s.engine.releasesDone = true →
            t.OffersNext (v.queue.length + 1) more (.walkSummary t.engine.summary)))

/-- A STEP_RESULT that waits is placed and tallied, and the walk goes on by the first case that holds: ABORT
pending, a failing verdict under stop_on_fail, the end of the walk, the end of the page, an empty slot, a pending
pause with no unit held, and otherwise ADMIT of the next slot, with an attempt, at once under the claim driven, or
with OVER_BAY. A PAGE_SWAP that waits is placed, and the walk goes on with ABORT pending, an empty slot 0, a pending
pause or ADMIT of slot 0. What the walk offers next is placed while an entry is free and waits otherwise. All this holds
for the placement by a completed transaction that removes the head, of a full queue too, and beside a free entry. Where
the walk ends, WINDDOWN is entered with the line returning to line_nominal and its ramp to 0; and at the end of a page
with no mark, PAGE_WAIT compares the level with rest_level (R24, R30, R31, R34, R39, R40, R41, R51, R54, R83, R84, R180,
R182; the row beside a free entry DEDUCED, notes/assumptions/9.md; a line blank left WAITING DEDUCED,
notes/assumptions/34.md). That a gate entered with gate_quiet 0 stands in QUIET until
QUIET_WAIT_END is taken is the model's choice (notes/assumptions/45.md). -/
def Obligations.PlacedRecordBranches : Prop :=
  ∀ (s v : State) (take : State → Host.Outcome State Fault Refusal) (out : Host.Outcome State Fault Refusal),
    s.FreesEntry v take out → s.engine.walk = .running →
    (∀ (r : StepResult) (c : StepContext), s.engine.waiting = some (.stepResult r) → s.engine.step = some c →
      ∃ t more, out = take t ∧ t.queue = v.queue ++ .stepLevel (.stepResult r) :: more
        ∧ s.ResultLeads t r c.record (v.queue.length + 1) more)
    ∧ (∀ p q : Page, s.engine.waiting = some (.pageSwap q) → s.engine.page = some p →
      ∃ t more, out = take t ∧ t.queue = v.queue ++ .stepLevel (.pageSwap q) :: more
        ∧ s.SwapLeads t p (v.queue.length + 1) more)

/-- A transaction of fewer than 64 whole bytes consumes and takes nothing, and data out has carried the bytes of
the frame; one that a pin reset made void ends without effect, and data out carried 00h. NOP has neither answer nor
effect, and STATUS changes the answer slot alone: OK with the snapshot (R170, R173, R176, R184). The row BAD_COMMAND
is answered BAD_COMMAND for its code, also where that code names a command, which no frame can bring about: the
model's choice (notes/assumptions/22.md), as is the step index that STATUS shows while a PAGE_SWAP waits in RUNNING
(notes/assumptions/33.md), the 00h that a void transaction shows for bytes clocked before its pin reset
(notes/assumptions/24.md), and the empty outgoing latch after the end of a transaction (notes/assumptions/41.md). -/
def Obligations.PortOnlyCommands : Prop :=
  ∀ s : State,
    (∀ n source frame, s.port.select = .active → n < 64 → s.port.outgoing = some (source, frame) →
      exec (.transactionIncomplete n) s = .next (s.setPort ⟨.inactive, [], none, s.port.answer,
        frame.take n ++ List.replicate (n - frame.length) 0⟩))
    ∧ (∀ bytes straps, s.port.select = .void → exec (.transactionComplete bytes straps) s =
      .next (s.setPort ⟨.inactive, [], none, s.port.answer, List.replicate bytes.length 0⟩))
    ∧ (∀ n, s.port.select = .void → n < 64 → exec (.transactionIncomplete n) s =
      .next (s.setPort ⟨.inactive, [], none, s.port.answer, List.replicate n 0⟩))
    ∧ exec .nop s = .next s
    ∧ (∀ code, exec (.badCommand code) s =
      .next (s.setPort { s.port with answer := some ⟨code, .badCommand, none⟩ }))
    ∧ exec .status s = .next (s.setPort { s.port with answer := some ⟨0x02, .ok, some
    { walk := s.engine.walk
      phase := s.engine.phase
      page := s.engine.page
      index := if s.engine.walk = .paused then some s.engine.resumeIndex else s.engine.lastIndex
      drivenClaim := s.bay.drivenClaim
      bayTotal := s.bay.bayTotal
      censusReading := s.bay.censusReading
      censusOthers := s.bay.censusOthers
      ownUnit := s.bay.ownUnit
      admissionAttempts := s.bay.admissionAttempts
      gateAttempts := s.bay.gateAttempts
      level := s.drive.level
      range := s.drive.range
      queueCount := s.queue.length
      interlockOpen := s.interlockOpen
      address := s.bay.address }⟩ })

/-- A refused command has no effect other than its answer (R178). -/
def Obligations.RefusedCommandOnlyAnswers : Prop :=
  ∀ (c : Instr) (s t : State) (a : AnswerRecord), c.isAnswered = true → exec c s = .next t →
    t.port.answer = some a → a.answer ≠ .ok → t = s.setPort { s.port with answer := some a }

/-- Every command frame of the spec's layout is read back as the command it carries (R173, R174, R187). -/
def Obligations.CommandFrameRoundTrip : Prop :=
  ∀ (i : Instr) (frame : List Byte) (straps : BitVec 4), i.wellFormed = true → commandFrame i = some frame →
    (∀ other, i = .reset other → other = straps) → frameCommand frame straps = i

/-! ## The plan store -/

/-- CONFIGURE: ALREADY_SET once configured; before that, the record is stored or the first field that fails is
named, with nothing else changed (R1, R57, R177). -/
def Obligations.ConfigureStoresOrRefuses : Prop :=
  ∀ (f : ConfigFields) (s : State),
    (s.store.config.isSome = true → exec (.configure f) s = .next (s.reply 0x08 .alreadySet))
    ∧ (s.store.config = none → Accepts (configAccepts f) → exec (.configure f) s = .next ((s.setStore
        { s.store with config := some ⟨f.limit.toNat, f.lineSettle.toNat, f.backoffUnit.toNat,
            f.attemptLimit.toNat, f.gateQuiet.toNat,
            if f.alarmPolarity.toNat = 0 then .activeHigh else .activeLow⟩ }).reply 0x08 .ok))
    ∧ (s.store.config = none → ¬ Accepts (configAccepts f) →
        ∃ n, FirstFailing (configAccepts f) n ∧ exec (.configure f) s = .next (s.reply 0x08 (.badField n)))

/-- WRITE_STEP past its guards, for every kind: NONE empties the slot, an accepted record replaces it, and
any other is refused with BAD_FIELD and its first field that fails; nothing else changes (R1, R3 to R8). That a
slot keeps the window of a kind for which R3 leaves it unexamined is the model's choice (notes/assumptions/43.md). -/
def Obligations.WriteStepStoresOrRefuses : Prop :=
  ∀ (f : StepFields) (s : State) (p : Page) (k : Kind), Page.ofCode f.page = some p → f.index.toNat ≤ 31 →
    (s.engine.walk.active = true → s.engine.page ≠ some p) → s.engine.chain ≠ some p →
    Kind.ofCode f.kind = some k →
    (k = .none → exec (.writeStep f) s =
      .next ((s.setStore (s.store.putSlot p f.index.toNat StepRecord.empty)).reply 0x10 .ok))
    ∧ (k ≠ .none → Accepts (stepAccepts s.store f k) → exec (.writeStep f) s =
      .next ((s.setStore (s.store.putSlot p f.index.toNat
        { tag := f.tag.toNat
          nextPass := f.nextPass.toNat
          nextFail := f.nextFail.toNat
          timeLimit := f.timeLimit.toNat
          lineSetpoint := f.lineSetpoint.toNat
          window := f.window.toNat
          captureBlocks := f.captureBlocks.toNat
          checks := (presentChecks f).map storedCheck
          body := storedBody f k })).reply 0x10 .ok))
    ∧ (k ≠ .none → ¬ Accepts (stepAccepts s.store f k) →
      ∃ n, FirstFailing (stepAccepts s.store f k) n
        ∧ exec (.writeStep f) s = .next (s.reply 0x10 (.badField n)))

/-- The guards of the writes: a bad page or index before the page guards, IN_USE for the current page of an
active walk, CHAIN_ARMED for the chain target, a bad kind after them, and IN_USE for the tables while a walk
is active (R3, R10, R12, R13, R16). -/
def Obligations.WriteGuards : Prop :=
  ∀ s : State,
    (∀ f : StepFields, Page.ofCode f.page = none → exec (.writeStep f) s = .next (s.reply 0x10 (.badField 1)))
    ∧ (∀ (f : StepFields) (p : Page), Page.ofCode f.page = some p →
        (31 < f.index.toNat → exec (.writeStep f) s = .next (s.reply 0x10 (.badField 2)))
        ∧ (f.index.toNat ≤ 31 → s.engine.walk.active = true → s.engine.page = some p →
            exec (.writeStep f) s = .next (s.reply 0x10 .inUse))
        ∧ (f.index.toNat ≤ 31 → (s.engine.walk.active = true → s.engine.page ≠ some p) →
            s.engine.chain = some p → exec (.writeStep f) s = .next (s.reply 0x10 .chainArmed))
        ∧ (f.index.toNat ≤ 31 → (s.engine.walk.active = true → s.engine.page ≠ some p) →
            s.engine.chain ≠ some p → Kind.ofCode f.kind = none →
            exec (.writeStep f) s = .next (s.reply 0x10 (.badField 3))))
    ∧ (s.engine.walk.active = true →
        (∀ f, exec (.writeCurve f) s = .next (s.reply 0x11 .inUse))
        ∧ (∀ f, exec (.writeProfile f) s = .next (s.reply 0x12 .inUse))
        ∧ (∀ f, exec (.writeChannel f) s = .next (s.reply 0x13 .inUse)))

/-- WRITE_CURVE outside a walk: a bad curve id, axis or point count is named, the first of them that fails; an
accepted write replaces the axis and the points of one curve, and n = 0 empties it; and otherwise the first point
field that fails is named (R1, R9, R10). -/
def Obligations.WriteCurveStores : Prop :=
  ∀ (f : CurveFields) (s : State), s.engine.walk.active = false →
    (¬ Accepts (curveAccepts f) →
      ∃ n, FirstFailing (curveAccepts f) n ∧ exec (.writeCurve f) s = .next (s.reply 0x11 (.badField n)))
    ∧ (∀ x, Accepts (curveAccepts f) → Axis.ofCode f.axis = some x →
      (f.n.toNat = 0 → exec (.writeCurve f) s = .next ((s.setStore { s.store with
        curves := s.store.curves.setIfInBounds f.curve.toNat ⟨none, []⟩ }).reply 0x11 .ok))
      ∧ (f.n.toNat ≠ 0 → Accepts (pointAccepts x 1 none (f.points.take f.n.toNat)) →
        exec (.writeCurve f) s = .next ((s.setStore { s.store with
          curves := s.store.curves.setIfInBounds f.curve.toNat
            ⟨some x, (f.points.take f.n.toNat).map (fun p => (p.1.toInt, p.2.toNat))⟩ }).reply 0x11 .ok))
      ∧ (f.n.toNat ≠ 0 → ¬ Accepts (pointAccepts x 1 none (f.points.take f.n.toNat)) →
        ∃ n, FirstFailing (pointAccepts x 1 none (f.points.take f.n.toNat)) n
          ∧ exec (.writeCurve f) s = .next (s.reply 0x11 (.badField n))))

/-- An accepted WRITE_PROFILE stores the six ratings and sets the valid flag, and an accepted WRITE_CHANNEL
replaces one channel profile; either is otherwise refused with BAD_FIELD and its first field that fails, and changes
nothing (R1, R12, R13). -/
def Obligations.WriteProfileAndChannelStore : Prop :=
  ∀ s : State, s.engine.walk.active = false →
    (∀ f : ProfileFields, Accepts (profileAccepts f) →
      exec (.writeProfile f) s = .next ((s.setStore { s.store with
        profiles := s.store.profiles.setIfInBounds f.profile.toNat
          ⟨true, ⟨f.pRated.toNat, f.vNom.toNat, f.vRegLow.toNat, f.vCollapse.toNat, f.iMax.toNat,
            f.lineNominal.toNat⟩⟩ }).reply 0x12 .ok))
    ∧ (∀ f : ProfileFields, ¬ Accepts (profileAccepts f) →
      ∃ n, FirstFailing (profileAccepts f) n ∧ exec (.writeProfile f) s = .next (s.reply 0x12 (.badField n)))
    ∧ (∀ (f : ChannelFields) (c : Channel) (p : Policy), channelOfCode f.channel = some c →
      Policy.ofCode f.policy = some p → Accepts (channelAccepts f) →
      exec (.writeChannel f) s = .next ((s.setStore { s.store with
        channels := s.store.channels.put c ⟨f.gain.toNat, f.offset.toInt, f.averaging.toNat, f.settle.toNat,
          f.rangeSettle.toNat, p⟩ }).reply 0x13 .ok))
    ∧ (∀ f : ChannelFields, ¬ Accepts (channelAccepts f) →
      ∃ n, FirstFailing (channelAccepts f) n ∧ exec (.writeChannel f) s = .next (s.reply 0x13 (.badField n)))

/-! ## The walk engine's commands -/

/-- START_WALK is examined in its fixed order, a bad header with the first field that fails, and a refused one
only answers (R21). -/
def Obligations.StartWalkRefusalOrder : Prop :=
  ∀ (f : StartFields) (s : State),
    (s.engine.walk = .held → exec (.startWalk f) s = .next (s.reply 0x20 .held))
    ∧ (s.engine.walk.active = true → exec (.startWalk f) s = .next (s.reply 0x20 .busy))
    ∧ (s.engine.walk = .idle → s.store.config = none → exec (.startWalk f) s = .next (s.reply 0x20 .notConfigured))
    ∧ (s.engine.walk = .idle → s.store.config.isSome = true →
        (¬ Accepts (startAccepts s.store f) →
          ∃ n, FirstFailing (startAccepts s.store f) n
            ∧ exec (.startWalk f) s = .next (s.reply 0x20 (.badField n)))
        ∧ (Accepts (startAccepts s.store f) → s.interlockOpen = true →
          exec (.startWalk f) s = .next (s.reply 0x20 .interlock))
        ∧ (∀ p, Accepts (startAccepts s.store f) → s.interlockOpen = false → Page.ofCode f.page = some p →
          (s.store.slot p f.index.toNat).kind = .none → exec (.startWalk f) s = .next (s.reply 0x20 .emptyStep)))

/-- An accepted START_WALK begins its walk in the start slot, with the shelf and line enables active at line_nominal. A
first step that must raise the claim is in ADMIT with attempt 1 driving the step claim; one whose claim is driven already
is admitted at once, to GATE for a gated kind and to APPLY otherwise; and one above L ends with OVER_BAY, which fails the
walk under stop_on_fail. A change of the line setpoint opens the V_LINE and P_LINE blanks (R22, R23, R24, R26, R31, R48,
R51, R52, R59, R81, R82, R85, R92, R94). That a blank left WAITING by an uncompleted APPLY becomes COUNTING at the change is
read from R95 (DEDUCED, notes/assumptions/34.md). That a START_WALK taken in the sample interval of its CONFIGURE tests L
and counts line_settle of the new record already is the model's choice (notes/assumptions/42.md). That the ADMIT entry
falls on the sample before the command is read from the dating of events by samples (DEDUCED, notes/assumptions/5.md).
That a gate entered with gate_quiet 0 stands in QUIET until
QUIET_WAIT_END is taken is the model's choice (notes/assumptions/45.md). -/
def Obligations.StartWalkBeginsFirstStep : Prop :=
  ∀ (f : StartFields) (s : State) (p : Page) (g : BayConfig) (record : StepRecord) (ratings : Ratings),
    s.engine.walk = .idle → s.store.config = some g →
    Accepts (startAccepts s.store f) → Page.ofCode f.page = some p → s.interlockOpen = false →
    record = s.store.slot p f.index.toNat → record.kind ≠ .none → s.engine.waiting = none →
    ratings = (s.store.profile f.profile.toNat).ratings →
    (s.bay.drivenClaim < claimOf record.body.peak ratings.vNom → claimOf record.body.peak ratings.vNom ≤ g.limit →
      ∃ t c, exec (.startWalk f) s = .next t ∧ t.StepIn .admitting c ∧ s.FreshStep c record p f.index.toNat
        ∧ s.BeginsWalk t f p ∧ s.LineSet t ratings.lineNominal
        ∧ t.bay.drivenClaim = claimOf record.body.peak ratings.vNom ∧ t.bay.priorClaim = s.bay.drivenClaim
        ∧ t.bay.protocol = .raising ∧ t.bay.protocolCount = g.lineSettle * 10 ∧ t.bay.admissionAttempts = 1
        ∧ t.bay.gateAttempts = 0 ∧ t.bay.ownUnit = s.bay.ownUnit
        ∧ t.drive.level = s.drive.level ∧ t.queue = s.queue ∧ t.store = s.store
        ∧ t.port = { s.port with answer := some ⟨0x20, .ok, none⟩ })
    ∧ (claimOf record.body.peak ratings.vNom ≤ s.bay.drivenClaim →
      ∃ t c, exec (.startWalk f) s = .next t ∧ s.FreshStep c record p f.index.toNat ∧ s.BeginsWalk t f p
        ∧ (record.kind.gated = true → t.StepIn .gate c ∧ s.LineSet t ratings.lineNominal
          ∧ t.bay.protocol = .quiet ∧ t.bay.protocolCount = 0)
        ∧ (record.kind.gated = false → s.EntersApply t c ratings.lineNominal)
        ∧ t.bay.drivenClaim = s.bay.drivenClaim ∧ t.bay.priorClaim = s.bay.drivenClaim
        ∧ t.bay.admissionAttempts = 0 ∧ t.bay.gateAttempts = 0 ∧ t.bay.ownUnit = s.bay.ownUnit
        ∧ t.drive.level = s.drive.level ∧ t.queue = s.queue ∧ t.store = s.store
        ∧ t.port = { s.port with answer := some ⟨0x20, .ok, none⟩ })
    ∧ (s.bay.drivenClaim < claimOf record.body.peak ratings.vNom → g.limit < claimOf record.body.peak ratings.vNom →
      ∃ t r more, exec (.startWalk f) s = .next t ∧ s.EndsOverBay t r record p f.index.toNat more
        ∧ t.drive.shelfEnable = true ∧ t.drive.lineEnable = true
        ∧ (32 ≤ s.queue.length → s.BeginsWalk t f p ∧ s.LineSet t ratings.lineNominal)
        ∧ (s.queue.length < 32 → f.stopOnFail.toNat = 1 → more.length = 1 ∧ t.engine.walk = .winddown
          ∧ t.engine.reason = some .fail ∧ t.engine.tallies = ⟨1, 1, some (p, f.index.toNat), false⟩
          ∧ t.bay.drivenClaim = s.bay.drivenClaim ∧ t.bay.protocol = .idle)
        ∧ t.store = s.store ∧ t.port = { s.port with answer := some ⟨0x20, .ok, none⟩ })

/-- PAUSE by walk state and own unit, and RESUME outside PAUSED (R33, R35). That a PAUSE which finds the unit
asserted and a pause pending already is answered GATED is the model's choice (notes/assumptions/32.md). -/
def Obligations.PauseAndResumeAnswers : Prop :=
  ∀ s : State,
    (s.engine.walk = .running ∨ s.engine.walk = .pageWait →
      (s.bay.ownUnit ≠ .released → exec .pause s = .next (s.reply 0x21 .gated))
      ∧ (s.bay.ownUnit = .released →
          exec .pause s = .next ((s.setEngine { s.engine with pausePending := true }).reply 0x21 .ok)))
    ∧ (s.engine.walk = .paused → exec .pause s = .next (s.reply 0x21 .ok))
    ∧ (s.engine.walk = .idle ∨ s.engine.walk = .held ∨ s.engine.walk = .winddown →
        exec .pause s = .next (s.reply 0x21 .noWalk))
    ∧ (s.engine.walk = .running → s.engine.pausePending = true →
        exec .resume s = .next ((s.setEngine { s.engine with pausePending := false }).reply 0x22 .ok))
    ∧ ((s.engine.walk = .running ∧ s.engine.pausePending = false) ∨ s.engine.walk = .idle
        ∨ s.engine.walk = .pageWait ∨ s.engine.walk = .winddown ∨ s.engine.walk = .held →
        exec .resume s = .next (s.reply 0x22 .noWalk))

/-- RESUME in PAUSED enters ADMIT of the resume index: with an attempt when its claim must be raised, straight into GATE
for a gated kind and into APPLY for any other whose claim is already driven, and with OVER_BAY above L (R24, R26, R35,
R51, R52, R59). That the ADMIT entry falls on the sample before the command is read from the dating of events by samples
(DEDUCED, notes/assumptions/5.md). That a gate entered with gate_quiet 0 stands in QUIET until
QUIET_WAIT_END is taken is the model's choice (notes/assumptions/45.md). -/
def Obligations.ResumeEntersAdmit : Prop :=
  ∀ (s : State) (record : StepRecord) (p : Page), s.engine.walk = .paused → s.engine.waiting = none →
    p = s.engine.page.getD .a → record = s.currentSlot s.engine.resumeIndex →
    (s.bay.drivenClaim < claimOf record.body.peak s.engine.ratings.vNom →
      claimOf record.body.peak s.engine.ratings.vNom ≤ s.bayLimit →
      ∃ t c, exec .resume s = .next t ∧ t.StepIn .admitting c ∧ s.FreshStep c record p s.engine.resumeIndex
        ∧ t.engine.lastIndex = some s.engine.resumeIndex ∧ t.bay.protocol = .raising
        ∧ t.bay.protocolCount = s.lineSettle ∧ t.bay.admissionAttempts = 1 ∧ t.bay.gateAttempts = 0
        ∧ t.bay.drivenClaim = claimOf record.body.peak s.engine.ratings.vNom
        ∧ t.bay.priorClaim = s.bay.drivenClaim ∧ t.drive.level = s.drive.level ∧ t.queue = s.queue)
    ∧ (claimOf record.body.peak s.engine.ratings.vNom ≤ s.bay.drivenClaim →
      ∃ t c, exec .resume s = .next t ∧ s.FreshStep c record p s.engine.resumeIndex
        ∧ (record.kind.gated = true → t.StepIn .gate c ∧ t.bay.protocol = .quiet ∧ t.bay.protocolCount = 0)
        ∧ (record.kind.gated = false → s.EntersApply t c s.drive.lineSetpoint)
        ∧ t.engine.lastIndex = some s.engine.resumeIndex
        ∧ t.bay.admissionAttempts = 0 ∧ t.bay.gateAttempts = 0 ∧ t.bay.priorClaim = s.bay.drivenClaim
        ∧ t.bay.drivenClaim = s.bay.drivenClaim ∧ t.drive.level = s.drive.level ∧ t.queue = s.queue)
    ∧ (s.bay.drivenClaim < claimOf record.body.peak s.engine.ratings.vNom →
      s.bayLimit < claimOf record.body.peak s.engine.ratings.vNom →
      ∃ t r more, exec .resume s = .next t ∧ s.EndsOverBay t r record p s.engine.resumeIndex more)

/-- ABORT ends the step in progress in its phase with verdict ABORTED, and the walk goes to WINDDOWN as soon
as the STEP_RESULT is placed. In ADMIT a raise is withdrawn, in GATE an ATTEMPT unit is released, a GATE unit is
kept for the WINDDOWN releases, and in APPLY to EXIT the drive halts: what waits is discarded, a dropout coupling ends
with the line enabled and a shelf reset pulse with the shelf enabled, and a range change goes on (R28, R29, R31, R36,
R41, R55, R63, R64, R75, R84, R87, R88, R168). That a step which entered ADMIT as its predecessor ended on the same sample
is such a step in progress is the model's choice (notes/assumptions/40.md). What a trip on the same sample does to the
exit level and the drive, and the line blanks left WAITING, are read from the spec (DEDUCED, notes/assumptions/17.md,
notes/assumptions/34.md). -/
def Obligations.AbortEndsStep : Prop :=
  ∀ (s : State) (p : Phase) (c : StepContext), s.StepIn p c →
    ∃ t r d, exec .abort s = .next t ∧ s.Offered t r ∧ r.verdict = .aborted ∧ r.endPhase = p
      ∧ r.page = c.page ∧ r.index = c.index ∧ r.tag = c.record.tag ∧ r.kind = c.record.kind
      ∧ t.engine.abortPending = true
      ∧ s.StopsDrive p d
      ∧ (s.queue.length < 32 → (s.setDrive d).EntersWinddown t .aborted)
      ∧ (32 ≤ s.queue.length → t.engine.walk = .running ∧ t.drive = d)
      ∧ t.bay.drivenClaim = s.claimStopped p ∧ t.bay.ownUnit = s.unitStopped p ∧ t.bay.protocol = .idle
      ∧ (r.censusHeld = true ↔ s.unitStopped p ≠ .released)
      ∧ ((∀ v ∈ c.contributions, 3 < v.rank) → s.StopsAt p r)
      ∧ t.port = { s.port with answer := some ⟨0x23, .ok, none⟩ }

/-- ABORT with no step to end: PAUSED and PAGE_WAIT go to WINDDOWN without a STEP_RESULT, the rest ramp of PAGE_WAIT
halted; a record that waits keeps its verdict and ABORT is kept for its placement, WINDDOWN changes nothing, also when
the step ended on the same sample (notes/assumptions/40.md), and IDLE and HELD refuse. At WINDDOWN entry the winddown ramp
is staged, and a change of the line setpoint opens the V_LINE and P_LINE blanks (R36, R40, R41, R75, R84, R85, R92, R94;
for a blank left WAITING DEDUCED, notes/assumptions/34.md). -/
def Obligations.AbortWithoutStep : Prop :=
  ∀ s : State,
    (s.engine.walk = .paused ∨ s.engine.walk = .pageWait →
      ∃ t d, exec .abort s = .next t ∧ (s.setDrive d).EntersWinddown t .aborted ∧ t.bay = s.bay ∧ t.queue = s.queue
        ∧ (s.engine.walk = .paused → d = s.drive) ∧ (s.engine.walk = .pageWait → s.drive.HaltsTo d)
        ∧ t.port = { s.port with answer := some ⟨0x23, .ok, none⟩ })
    ∧ (s.engine.walk = .running → s.engine.waiting.isSome = true →
      exec .abort s = .next ((s.setEngine { s.engine with abortPending := true }).reply 0x23 .ok))
    ∧ (s.engine.walk = .winddown → exec .abort s = .next (s.reply 0x23 .ok))
    ∧ (s.engine.walk = .idle ∨ s.engine.walk = .held → exec .abort s = .next (s.reply 0x23 .noWalk))

/-- RELEASE in HELD is answered OK and leaves HELD for IDLE, with nothing else changed; in any other state it is
refused with NOT_HELD; and HELD is left only by RELEASE or a reset, also when a transaction carries it. The last is said
of the states in which no step stands outside RUNNING, which every step keeps (R37). -/
def Obligations.ReleaseLeavesHeld : Prop :=
  (∀ s : State,
    (s.engine.walk = .held → exec .release s = .next ((s.setEngine { s.engine with walk := .idle }).reply 0x24 .ok))
      ∧ (s.engine.walk ≠ .held → exec .release s = .next (s.reply 0x24 .notHeld)))
  ∧ (∀ (c : Instr) (s t : State), s.LinesRest → s.engine.walk = .held → exec c s = .next t →
      t.engine.walk ≠ .held → c = .release ∨ (∃ straps, c = .reset straps ∨ c = .pinReset straps)
        ∨ ∃ bytes straps, c = .transactionComplete bytes straps
            ∧ (frameCommand (bytes.take 64) straps = .release ∨ frameCommand (bytes.take 64) straps = .reset straps))

/-- ARM_CHAIN places the mark on the other page once and is refused in IDLE, in HELD and over a mark; DISARM_CHAIN
removes the mark in every state. In PAGE_WAIT, ARM_CHAIN stops the rest ramp and swaps the page at once: the other page
is the current one, a PAGE_SWAP naming it is placed, with what follows it, and waits in OUTPUT_STALL when no entry is
free. Where WINDDOWN follows, the line setpoint returns to line_nominal, and a change of it opens the V_LINE and P_LINE
blanks (R38, R39, R40, R41, R84, R85, R92, R94; for a blank left WAITING by an APPLY that did not complete DEDUCED,
notes/assumptions/34.md). That a gate entered with gate_quiet 0 stands in QUIET until
QUIET_WAIT_END is taken is the model's choice (notes/assumptions/45.md). -/
def Obligations.ChainCommandsMoveTheMark : Prop :=
  ∀ s : State,
    (s.engine.walk = .idle ∨ s.engine.walk = .held → exec .armChain s = .next (s.reply 0x28 .noWalk))
    ∧ (s.engine.walk.active = true → s.engine.chain.isSome = true →
        exec .armChain s = .next (s.reply 0x28 .chainArmed))
    ∧ (∀ p, s.engine.walk = .running ∨ s.engine.walk = .paused ∨ s.engine.walk = .winddown →
        s.engine.chain = none → s.engine.page = some p →
        exec .armChain s = .next ((s.setEngine { s.engine with chain := some p.other }).reply 0x28 .ok))
    ∧ exec .disarmChain s = .next ((s.setEngine { s.engine with chain := none }).reply 0x29 .ok)
    ∧ (∀ p, s.engine.walk = .pageWait → s.engine.chain = none → s.engine.page = some p →
      ∃ t more, exec .armChain s = .next t ∧ t.queue = s.queue ++ more
        ∧ s.drive.HaltsTo s.drive.halt ∧ (s.setDrive s.drive.halt).Swaps t p.other s.queue.length more
        ∧ (32 ≤ s.queue.length → t.engine.pageWaitLeft = 0)
        ∧ t.port = { s.port with answer := some ⟨0x28, .ok, none⟩ })

/-! ## Resets -/

/-- A soft reset keeps the plan store with its configuration and the interlock input, places OK last, and
brings everything else to its reset values, among them the model's choices of notes/assumptions/7.md,
notes/assumptions/27.md and notes/assumptions/36.md; a pin reset also clears the plan store, and a transaction in
progress takes no further part (R18, R43, R69, R89, R110, R184, R185). The station contributes 0 to both lines from
then on; what a reading may still show of it (R45) is kept by both resets: the values that were fading, and, for
line_settle from the reset on, the driven claim and the unit's contribution that the reset took away
(notes/assumptions/6.md). -/
def Obligations.ResetsSetEveryBlock : Prop :=
  ∀ (straps : BitVec 4) (s : State), ∃ claim census : List (Nat × Nat),
    s.bay.claimOnLine.Fades s.bay.drivenClaim s.lineSettle claim
    ∧ s.bay.censusOnLine.Fades (if s.bay.ownUnit = .released then 0 else 1) s.lineSettle census
    ∧ exec (.reset straps) s = .next
      { port := ⟨.inactive, [], none, some ⟨0x3F, .ok, none⟩, s.port.dataOut⟩
        store := s.store
        engine := Engine.reset
        bay := { Bay.reset straps.toNat with claimOnLine := ⟨0, claim⟩, censusOnLine := ⟨0, census⟩ }
        drive := Drive.reset
        acq := Acquisition.reset
        queue := []
        interlockOpen := s.interlockOpen
        pending := s.pending }
    ∧ exec (.pinReset straps) s = .next
      { port := ⟨if s.port.select = .inactive then .inactive else .void, [], none, none, []⟩
        store := PlanStore.reset
        engine := Engine.reset
        bay := { Bay.reset straps.toNat with claimOnLine := ⟨0, claim⟩, censusOnLine := ⟨0, census⟩ }
        drive := Drive.reset
        acq := Acquisition.reset
        queue := []
        interlockOpen := s.interlockOpen
        pending := s.pending }

/-- The reset values the spec states for each block: the walk engine's list, the records of the bay interface and the
drive unit, acquisition's table, the port and the queue, and the plan store (R14, R18, R43, R47, R70, R110, R184). The
address, which the straps give, and the readings, which the first sample gives, have none. The release span and the
reset pulse count of 0 are none here (notes/assumptions/16.md). -/
def Obligations.ResetValues : Prop :=
  (State.reset.engine.walk = .idle ∧ State.reset.engine.header = none ∧ State.reset.engine.profile = none
    ∧ State.reset.engine.page = none ∧ State.reset.engine.chain = none ∧ State.reset.engine.pausePending = false
    ∧ State.reset.engine.abortPending = false ∧ State.reset.engine.lastIndex = none
    ∧ State.reset.engine.phase = .none ∧ State.reset.engine.step = none ∧ State.reset.engine.waiting = none
    ∧ State.reset.engine.reason = none ∧ State.reset.engine.tallies = ⟨0, 0, none, true⟩)
  ∧ (State.reset.bay.drivenClaim = 0 ∧ State.reset.bay.priorClaim = 0 ∧ State.reset.bay.ownUnit = .released
    ∧ State.reset.bay.protocol = .idle ∧ State.reset.bay.admissionAttempts = 0
    ∧ State.reset.bay.gateAttempts = 0 ∧ State.reset.bay.protocolCount = 0
    ∧ State.reset.bay.releaseSpan = none)
  ∧ (State.reset.drive.level = 0 ∧ State.reset.drive.loadEnable = false ∧ State.reset.drive.range = .low
    ∧ State.reset.drive.relayCount = 200 ∧ State.reset.drive.rangeChange = .none
    ∧ State.reset.drive.active = .level 0 ∧ State.reset.drive.staged = none ∧ State.reset.drive.pulse = none
    ∧ State.reset.drive.dropHold = false ∧ State.reset.drive.stopPending = false
    ∧ State.reset.drive.lineSetpoint = 0 ∧ State.reset.drive.lineEnable = false
    ∧ State.reset.drive.coupling = .none ∧ State.reset.drive.shelfEnable = false
    ∧ State.reset.drive.resetPulse = none)
  ∧ (State.reset.acq.nextSeq = 0 ∧ (∀ c, State.reset.acq.averages.get c = [])
    ∧ (∀ c, State.reset.acq.blanks.get c = .closed)
    ∧ State.reset.acq.window.state = .closed ∧ State.reset.acq.window.count = 0
    ∧ State.reset.acq.window.channels = [] ∧ State.reset.acq.window.restarts = 0
    ∧ State.reset.acq.window.disturbed = 0
    ∧ State.reset.acq.detectors.Quiet ∧ State.reset.acq.alarmPrevious = false ∧ State.reset.acq.history = []
    ∧ State.reset.acq.capture = ⟨.none, .idle, [], 0, 0, 0, 0⟩)
  ∧ (State.reset.port.answer = none ∧ State.reset.port.command = [] ∧ State.reset.port.outgoing = none
    ∧ State.reset.queue = [])
  ∧ (State.reset.store.config = none ∧ (∀ p i, State.reset.store.slot p i = StepRecord.empty)
    ∧ (∀ i, State.reset.store.curve i = ⟨none, []⟩)
    ∧ (∀ i, State.reset.store.profile i = ⟨false, ⟨0, 0, 0, 0, 0, 0⟩⟩)
    ∧ State.reset.store.channels.vOut = ⟨65536, 0, 4, 20, 200, .restart⟩
    ∧ State.reset.store.channels.iOut = ⟨65536, 0, 4, 20, 200, .restart⟩
    ∧ State.reset.store.channels.vLine = ⟨65536, 0, 16, 500, 0, .mark⟩
    ∧ State.reset.store.channels.pLine = ⟨65536, 0, 16, 500, 0, .mark⟩
    ∧ State.reset.store.channels.tInlet = ⟨65536, 0, 64, 0, 0, .mark⟩)

/-! ## SAMPLE

A sample first takes what is still due from the sample before (notes/assumptions/3.md). The first statement says so, and
brings a SAMPLE of any state back to one of a settled state, which the statements on what a sample does ask for; and a
sample delivers an alarm detection and a knee of its own unless its operands put them after the
other events (notes/assumptions/4.md), so each asks that no detector is armed or that the operands do so. -/

/-- At a sample the bay lines are read: the peers' currents with this station's own contribution, rounded to the
nearest unit with halfway upward, saturating at 2047 and 16. The reading shows the driven claim and the unit as they
stand, or an older value that is less than line_settle old, and census_others leaves out the own unit while it is
asserted and through line_settle after its release (R44, R45, R46). A SAMPLE that finds events of the sample before still
due takes them first, one by one, and then acts as the SAMPLE of a settled state: the model's choice
(notes/assumptions/3.md). That the peers' currents are operands, and that
of the older values the operands name the one shown, is the model's choice (notes/assumptions/6.md), and so is the
sample at which the span after a release ends (notes/assumptions/16.md). -/
def Obligations.SampleReadsBayLines : Prop :=
  (∀ (i : SampleInput) (s t : State), firstDue s dueEvents = some t → s.settleDue.Settled →
    t.settleDue = s.settleDue ∧ exec (.sample i) s = exec (.sample i) t)
  ∧ (∀ (i : SampleInput) (s : State), s.settleDue.Settled →
    exec (.sample i) s = exec (.sample i) s.settleDue)
  ∧ ∀ (i : SampleInput) (s : State), s.Settled →
    s.acq.detectors.Quiet ∨ (i.alarmLate = true ∧ i.kneeLate = true) →
    ∃ t claim units, exec (.sample i) s = .next t
      ∧ t.bay.bayTotal = min ((i.peersClaim + 20 * claim + 10) / 20) 2047
      ∧ t.bay.censusReading = min ((i.peersCensus + 250 * units + 125) / 250) 16
      ∧ (claim = s.bay.drivenClaim ∨ (claim = s.bay.claimOnLine.current ∧ 1 < s.lineSettle)
          ∨ ∃ left, 1 < left ∧ (claim, left) ∈ s.bay.claimOnLine.fading)
      ∧ (units = (if s.bay.ownUnit = .released then 0 else 1)
          ∨ (units = s.bay.censusOnLine.current ∧ 1 < s.lineSettle)
          ∨ ∃ left, 1 < left ∧ (units, left) ∈ s.bay.censusOnLine.fading)
      ∧ (i.claimLag = 0 → claim = s.bay.drivenClaim)
      ∧ (i.censusLag = 0 → units = if s.bay.ownUnit = .released then 0 else 1)
      ∧ t.bay.claimOnLine.current = s.bay.drivenClaim
      ∧ (∀ v left, (v, left) ∈ t.bay.claimOnLine.fading → 1 ≤ left
          ∧ ((v, left + 1) ∈ s.bay.claimOnLine.fading
            ∨ (v = s.bay.claimOnLine.current ∧ v ≠ s.bay.drivenClaim ∧ left + 1 = s.lineSettle)))
      ∧ (s.bay.ownUnit ≠ .released ∨ (∃ n, s.bay.releaseSpan = some n ∧ 1 < n) →
          t.bay.censusOthers = t.bay.censusReading - 1)
      ∧ (s.bay.ownUnit = .released → (∀ n, s.bay.releaseSpan = some n → n ≤ 1) →
          t.bay.censusOthers = t.bay.censusReading)
      ∧ t.bay.ownUnit = s.bay.ownUnit ∧ t.queue = s.queue

/-- At a sample each code is scaled, clamped and averaged, P_OUT and EFF are formed from the averages, the sample is
marked disturbed by census_others, it carries the commanded load and range, and the sequence number moves on; the
history, the measurement window, the armed detectors and a collecting capture take the sample, the history and the
capture its raw V_OUT and I_OUT with their flags, and the window the averages and the derived values (R90 to R94, R97 to R99,
R101, R102, R104 to R106, R108, R112 to R114). That the load and range are those after the update of the same sample is
read from R71 and R90 (DEDUCED, notes/assumptions/29.md). That an alarm active since the reset is found at the first armed
sample although it was never inactive follows R110 (DEDUCED, notes/assumptions/35.md). -/
def Obligations.SampleTakesCodes : Prop :=
  ∀ (i : SampleInput) (s : State), s.Settled →
    s.acq.detectors.Quiet ∨ (i.alarmLate = true ∧ i.kneeLate = true) →
    ∃ t r, exec (.sample i) s = .next t ∧ t.acq.latest = some r ∧ r.seq = s.acq.nextSeq
      ∧ t.acq.nextSeq = s.acq.nextSeq + 1 ∧ r.load = t.drive.level / 1000 ∧ r.range = t.drive.range
      ∧ r.Presents
      ∧ (∀ c : Channel, r.raw.get c = max (channelRange c).1 (min (channelRange c).2
          (((sampleCode i c * (s.store.channels.get c).gain / 65536 : Nat) : Int) + (s.store.channels.get c).offset)))
      ∧ (∀ c : Channel, r.overRange.get c = true ↔ r.raw.get c ≠
          ((sampleCode i c * (s.store.channels.get c).gain / 65536 : Nat) : Int) + (s.store.channels.get c).offset)
      ∧ (∀ c : Channel, t.acq.averages.get c = (s.acq.averages.get c ++ [r.raw.get c]).drop
          ((s.acq.averages.get c).length + 1 - (s.store.channels.get c).averaging))
      ∧ (∀ c : Channel, r.average.get c = (t.acq.averages.get c).sum / ((t.acq.averages.get c).length : Int))
      ∧ r.pOut = (r.average.vOut * r.average.iOut / 10000).toNat
      ∧ (r.average.pLine ≤ 0 → r.eff = 0)
      ∧ (0 < r.average.pLine → r.eff = min (1000 * r.pOut / r.average.pLine.toNat) 1000)
      ∧ (r.pOutOver = true ↔ r.overRange.vOut = true ∨ r.overRange.iOut = true)
      ∧ (r.effOver = true ↔ r.overRange.vOut = true ∨ r.overRange.iOut = true ∨ r.overRange.pLine = true
          ∨ (0 < r.average.pLine ∧ r.average.pLine < r.pOut))
      ∧ (r.disturbed = true ↔ 1 ≤ t.bay.censusOthers)
      ∧ (∀ c : Channel, r.blank.get c = false ↔ t.acq.blanks.get c = .closed ∨ t.acq.blanks.get c = .counting 0)
      ∧ (∀ g, s.store.config = some g → (r.alarm = true ↔ (i.alarmHigh = true ↔ g.alarmPolarity = .activeHigh)))
      ∧ t.acq.history = (r.pair :: s.acq.history).take 48
      ∧ s.acq.window.Takes t.acq.window r
      ∧ (∀ d, s.acq.detectors.collapse = some d → t.acq.detectors.collapse =
          some ⟨d.threshold, if r.raw.vOut < d.threshold then d.run + 1 else 0⟩)
      ∧ (∀ d, s.acq.detectors.regulation = some d → t.acq.detectors.regulation =
          some ⟨d.threshold, if (d.threshold : Int) ≤ r.average.vOut then d.run + 1 else 0⟩)
      ∧ t.acq.detectors.alarmArmed = s.acq.detectors.alarmArmed
      ∧ (t.acq.detectors.alarmHit = true ↔ s.acq.detectors.alarmArmed = true ∧ r.alarm = true
          ∧ (s.acq.alarmUnseen = true ∨ ∀ x, s.acq.latest = some x → x.alarm = false))
      ∧ (∀ v, s.acq.detectors.knee = some v → t.acq.detectors.knee = some v
          ∧ (t.acq.detectors.kneeHit = true ↔ r.average.vOut ≤ v))
      ∧ (s.acq.capture.state = .collecting → t.acq.capture =
          { s.acq.capture with
            fill := s.acq.capture.fill ++ [r.pair]
            left := if s.acq.capture.mode = .trip then s.acq.capture.left - 1 else s.acq.capture.left })
      ∧ (s.acq.capture.state ≠ .collecting → t.acq.capture = s.acq.capture)
      ∧ t.store = s.store ∧ t.queue = s.queue

/-- At a sample the set in force moves the level: a ramp by its slope until it lands on its end, or to its from
first, a LEVEL set to its target, and a pulse through its cycle; DOWN of a range change ends at level 0. The load
never leaves what the level, the set in force and a waiting set span (R50, R71, R72, R74, R76, R78). -/
def Obligations.SampleMovesGenerator : Prop :=
  ∀ (i : SampleInput) (s : State), s.Settled →
    s.acq.detectors.Quiet ∨ (i.alarmLate = true ∧ i.kneeLate = true) → s.drive.status = .acting →
    ∃ t, exec (.sample i) s = .next t
      ∧ (∀ stop slope, s.drive.active = .ramp none stop slope → s.drive.rangeChange = .none →
          (s.drive.level ≤ stop * 1000 → t.drive.level = min (s.drive.level + slope) (stop * 1000))
          ∧ (stop * 1000 ≤ s.drive.level → t.drive.level = max (s.drive.level - slope) (stop * 1000))
          ∧ (t.drive.status = .ended ↔ t.drive.level = stop * 1000))
      ∧ (∀ start stop slope, s.drive.active = .ramp (some start) stop slope → s.drive.rangeChange = .none →
          t.drive.level = start * 1000 ∧ t.drive.active = .ramp none stop slope ∧ t.drive.status = .acting)
      ∧ (∀ target, s.drive.active = .level target → s.drive.rangeChange = .none →
          t.drive.level = target ∧ t.drive.status = .ended)
      ∧ (∀ lo hi period high cycles k n, s.drive.active = .pulse lo hi period high cycles →
          s.drive.rangeChange = .none → s.drive.pulse = some ⟨k, n⟩ →
          (n < period → t.drive.pulse = some ⟨k, n + 1⟩
            ∧ t.drive.level = (if n + 1 ≤ high then hi else lo) * 1000
            ∧ (t.drive.cycleEnded = true ↔ n + 1 = period))
          ∧ (period ≤ n → t.drive.pulse = some ⟨k + 1, 1⟩
            ∧ t.drive.level = (if 1 ≤ high then hi else lo) * 1000))
      ∧ (∀ target slope, s.drive.rangeChange = .down target false → s.drive.active = .ramp none 0 slope →
          t.drive.level = s.drive.level - slope
          ∧ t.drive.rangeChange = .down target (t.drive.level == 0))
      ∧ (∀ limit, s.drive.Within limit → t.drive.Within limit)
      ∧ t.drive.range = s.drive.range ∧ t.drive.loadEnable = s.drive.loadEnable
      ∧ t.drive.staged = s.drive.staged ∧ t.drive.dropHold = s.drive.dropHold
      ∧ t.drive.lineSetpoint = s.drive.lineSetpoint ∧ t.drive.lineEnable = s.drive.lineEnable
      ∧ t.drive.shelfEnable = s.drive.shelfEnable ∧ t.drive.completed = s.drive.completed ∧ t.queue = s.queue

/-- At a sample every running count goes down by one: the relay count, the span of the dropout coupling, the shelf
reset pulse, the counting blanks, the protocol waits, the span after a release, the step time limit, a ceiling hold or
trip wait, and the page wait limit; the quiet count goes up or back to 0, and a rest level that counts as reached at
this update lowers the claim (R28, R40, R46, R59, R77, R83, R86, R88, R95, R145, R147). -/
def Obligations.SampleRunsCounts : Prop :=
  ∀ (i : SampleInput) (s : State), s.Settled →
    s.acq.detectors.Quiet ∨ (i.alarmLate = true ∧ i.kneeLate = true) →
    ∃ t, exec (.sample i) s = .next t ∧ t.drive.relayCount = s.drive.relayCount - 1
      ∧ t.drive.coupling = (match s.drive.coupling with
          | .none => .none
          | .lead n dropout restore => .lead (n - 1) dropout restore
          | .off n restore => .off (n - 1) restore
          | .restore n => .restore (n - 1))
      ∧ t.drive.resetPulse = s.drive.resetPulse.map (· - 1)
      ∧ (∀ c n, s.acq.blanks.get c = .counting n → t.acq.blanks.get c = .counting (n - 1))
      ∧ (∀ c, (∀ n, s.acq.blanks.get c ≠ .counting n) → t.acq.blanks.get c = s.acq.blanks.get c)
      ∧ (s.bay.protocol = .raising ∨ s.bay.protocol = .backoff ∨ s.bay.protocol = .asserting
          ∨ s.bay.protocol = .gateBackoff → t.bay.protocolCount = s.bay.protocolCount - 1)
      ∧ (s.bay.protocol = .quiet → t.bay.protocolCount =
          if t.bay.censusOthers = 0 then s.bay.protocolCount + 1 else 0)
      ∧ t.bay.releaseSpan = s.bay.releaseSpan.map (· - 1)
      ∧ (∀ p c, s.StepIn p c → ∃ c', t.StepIn p c' ∧ c'.timeLeft = c.timeLeft - 1 ∧ c'.wait = c.wait.map (· - 1))
      ∧ (s.engine.walk = .pageWait → t.engine.walk = .pageWait
          ∧ t.engine.pageWaitLeft = s.engine.pageWaitLeft - 1
          ∧ (s.engine.rest = .atNextUpdate → t.engine.rest = .reached
            ∧ t.bay.drivenClaim = min s.bay.drivenClaim (claimOf (t.drive.level / 1000) s.engine.ratings.vNom))
          ∧ (s.engine.rest ≠ .atNextUpdate → t.bay.drivenClaim = s.bay.drivenClaim))

/-! ## Trip, regulation and limit events -/

/-- A trip event, by collapse, alarm or both, in a step of kind HOLD, RAMP, PULSE, RECOVER or DERATE is an unexpected
trip: the step ends in its phase with exit level 0 and the census unit held, and reports the trip with its source, dated
two samples before its delivery for a collapse and at its delivery for an alarm alone. At the sample
that completes the step's window the checks are evaluated and reported all the same, and otherwise they are not
evaluated (R27, R29, R79, R101, R102, R103, R121, R134, R135, R136, R162). That the watch of RECOVER is evaluated too is
read from R103 against R154 (DEDUCED, notes/assumptions/37.md). When an alarm is delivered, in SAMPLE, at BODY start or
after the other events of its sample, follows notes/assumptions/4.md and notes/assumptions/21.md. I_trip is the largest
raw I_OUT of the 16 samples that end with the dated one, with the over-range mark of any of them. The drive makes its trip
drop, and the step's end ends a shelf reset pulse with the shelf enabled (R79, R88). -/
def Obligations.TripEndsStepUnexpectedly : Prop :=
  (∀ (history : List RawSample) (back : Nat), IsTripCurrent history back (tripCurrent history back))
  ∧ ∀ (s u : State) (out : Host.Outcome State Fault Refusal) (p : Phase) (c : StepContext) (back : Nat),
    s.Delivers u out → u.StepIn p c → back = u.acq.detectors.tripBack →
    (∀ v ∈ c.contributions, 4 < v.rank) →
    c.record.kind = .hold ∨ c.record.kind = .ramp ∨ c.record.kind = .pulse ∨ c.record.kind = .recover
      ∨ c.record.kind = .derate →
    ∃ t r x, out = .next t ∧ u.Offered t r ∧ r.verdict = .unexpectedTrip ∧ r.endPhase = p
      ∧ r.exitLevel = 0 ∧ r.censusHeld = true ∧ r.figures.trip = some x ∧ x.date = u.acq.seq - BitVec.ofNat 32 back
      ∧ x.source = u.acq.detectors.tripSource
      ∧ x.iTrip = (tripCurrent u.acq.history back).1 ∧ x.mark = (tripCurrent u.acq.history back).2
      ∧ (∃ d, u.DropsEnding d ∧ d.StandsIn t.drive ∧ (32 ≤ u.queueAtEnd.length → t.drive = d))
      ∧ (u.Completes p c → r.checks = c.record.checks.map u.acq.window.evaluate
          ∧ r.windowCount = u.acq.window.count
          ∧ (c.record.kind = .recover →
            r.figures.watchMin = u.acq.window.statistic (.measured .vOut) .minimum))
      ∧ (¬ u.Completes p c → r.checks = c.checks ∧ r.figures.watchMin = c.figures.watchMin
          ∧ (c.record.kind ≠ .derate → u.acq.window.state = .opened ∨ u.acq.window.state = .waiting →
            r.windowCount = u.acq.window.count))

/-- A trip event in the BODY of a trip step is the step's own trip, judged by its kind: I_trip against trip_lo to
trip_hi for TRIP_SEARCH, t_trip against t_min to t_max for TRIP_TIME. With nothing to capture the step ends in EXIT
at level 0 with the unit held; otherwise it waits in EXIT for the trip capture, which takes the history, oldest
first, offers its whole blocks of 12, and collects 48 samples more. A trip in the EXIT that follows NO_TRIP leaves the
verdict NO_TRIP, and one in the BODY of a DROPOUT step is judged HOLDUP with the span it came in: the drive drops to
level 0 under drop hold, with the coupling ended, the line enabled and the load enable kept (R79, R87, R102, R108, R121,
R122, R141, R142, R146, R148, R149, R167). When an alarm is delivered follows notes/assumptions/4.md and
notes/assumptions/21.md. -/
def Obligations.TripIsOwnTripOfTripStep : Prop :=
  ∀ (s u : State) (out : Host.Outcome State Fault Refusal) (c : StepContext) (back : Nat),
    s.Delivers u out → back = u.acq.detectors.tripBack →
    (u.StepIn .body c → c.contributions = [] → u.acq.capture.mode = .none → u.acq.capture.state = .idle →
      (∀ iFrom slope iCeiling detect threshold lo hi,
        c.record.body = .tripSearch iFrom slope iCeiling detect threshold lo hi →
        ∃ t r x, out = .next t ∧ u.Offered t r ∧ r.endPhase = .exiting ∧ r.exitLevel = 0
          ∧ r.censusHeld = true ∧ r.figures.trip = some x ∧ x.iTrip = (tripCurrent u.acq.history back).1
          ∧ r.windowCount = u.acq.window.count
          ∧ r.verdict = (if (lo : Int) ≤ x.iTrip ∧ x.iTrip ≤ hi then .pass else .tripCurrent))
      ∧ (∀ iPre iOver detect threshold tMin tMax,
        c.record.body = .tripTime iPre iOver detect threshold tMin tMax →
        ∃ t r n, out = .next t ∧ u.Offered t r ∧ r.endPhase = .exiting ∧ r.exitLevel = 0
          ∧ r.censusHeld = true ∧ r.figures.tTrip = some n ∧ r.windowCount = u.acq.window.count
          ∧ n = (if u.acq.seq - BitVec.ofNat 32 back = c.bodySeq then 0 else (u.acq.seq - BitVec.ofNat 32 back - (c.bodySeq + 1)).toNat)
          ∧ r.verdict = (if n < tMin then .tripEarly else if n ≤ tMax then .pass else .noTrip)))
    ∧ (∀ blocks : Nat, u.StepIn .body c ∨ (u.StepIn .exiting c ∧ c.contributions = [.noTrip]) →
      c.record.kind = .tripSearch ∨ c.record.kind = .tripTime → u.acq.capture.mode = .trip →
      u.acq.capture.state = .idle → u.acq.capture.fill = [] → blocks = u.acq.history.length / 12 →
      u.queue.length + blocks ≤ 25 →
      ∃ t c' x, out = .next t ∧ t.StepIn .exiting c' ∧ c'.figures.trip = some x
        ∧ x.date = u.acq.seq - BitVec.ofNat 32 back ∧ t.drive.level = 0 ∧ t.drive.dropHold = true ∧ t.drive.loadEnable = u.drive.loadEnable
        ∧ t.bay.ownUnit = .trip ∧ t.acq.detectors.collapse = none ∧ t.acq.detectors.alarmArmed = false
        ∧ t.acq.capture.state = .collecting ∧ t.acq.capture.left = 48
        ∧ t.acq.capture.posted = u.acq.capture.posted + blocks
        ∧ t.acq.capture.fill = u.acq.history.reverse.drop (12 * blocks)
        ∧ t.queue = u.queue ++ (List.range blocks).map (fun k => .captureBlock
            ⟨c.record.tag, u.acq.capture.nextIndex + k, (u.acq.history.reverse.drop (12 * k)).take 12⟩))
    ∧ (u.StepIn .exiting c → c.contributions = [.noTrip] → c.record.kind = .tripSearch ∨ c.record.kind = .tripTime →
      u.acq.capture.mode = .none → u.acq.capture.state = .idle →
      ∃ t r x, out = .next t ∧ u.Offered t r ∧ r.verdict = .noTrip ∧ r.endPhase = .exiting
        ∧ r.exitLevel = 0 ∧ r.censusHeld = true ∧ r.figures.trip = some x ∧ x.date = u.acq.seq - BitVec.ofNat 32 back
        ∧ r.figures.tTrip = c.figures.tTrip)
    ∧ (∀ iHold lead dropout restore vMin, u.StepIn .body c → c.contributions = [] →
      c.record.body = .dropout iHold lead dropout restore vMin → u.bay.ownUnit = .gate ∨ u.bay.ownUnit = .trip →
      ∃ t r x, out = .next t ∧ u.Offered t r ∧ r.verdict = .holdup ∧ r.endPhase = .exiting
        ∧ r.exitLevel = 0 ∧ (r.censusHeld = true ↔ u.bay.ownUnit = .trip) ∧ r.figures.trip = some x
        ∧ (∃ d, u.DropsEnding d ∧ d.StandsIn t.drive ∧ (32 ≤ u.queueAtEnd.length → t.drive = d))
        ∧ x.date = u.acq.seq - BitVec.ofNat 32 back
        ∧ (∀ n off restored, u.drive.coupling = .lead n off restored → r.figures.tripSpan = some .lead)
        ∧ (∀ n restored, u.drive.coupling = .off n restored → r.figures.tripSpan = some .off)
        ∧ (∀ n, u.drive.coupling = .restore n → r.figures.tripSpan = some .restore)
        ∧ (u.acq.window.state = .opened ∨ u.acq.window.state = .waiting →
          r.figures.vMin = u.acq.window.statistic (.measured .vOut) .minimum
            ∧ r.checks = c.record.checks.map u.acq.window.evaluate)
        ∧ (u.acq.window.state = .closed → r.figures.vMin = c.figures.vMin ∧ r.checks = c.checks))

/-- The course of a RECOVER step after its wait: the regulation event records the recovery time from BODY start, arms
collapse and alarm afresh, and starts the ramp to the clamped I_rest; the end of that ramp opens the watch, a COUNTED
window of 100 with V_OUT; and the watch's DONE ends the step in EXIT, with NO_RECOVERY for a MIN below V_reg_low and
the TRIP unit released on PASS (R76, R104, R123, R153 to R156). That the exit level is the level also when a trip is due on
the DONE sample is read from R155 against R136 (DEDUCED, notes/assumptions/17.md). -/
def Obligations.RegulationStartsRestRamp : Prop :=
  ∀ (s : State) (c : StepContext) (iRest pulse : Nat), s.StepIn .body c → c.record.body = .recover iRest pulse →
    (∀ d, s.acq.detectors.regulation = some d → 10 ≤ d.run → s.drive.dropHold = false → s.drive.busy = false →
      ∃ t c', exec .regulationEvent s = .next t ∧ t.StepIn .body c' ∧ c'.stage = .restRamp
        ∧ c'.figures.recovery = some (s.acq.seq - c.bodySeq).toNat
        ∧ t.acq.detectors.regulation = none
        ∧ t.acq.detectors.collapse = some ⟨s.engine.ratings.vCollapse, 0⟩
        ∧ t.acq.detectors.alarmArmed = true ∧ t.acq.detectors.alarmHit = false
        ∧ t.drive.active = .ramp none (min iRest (clampLimit s.engine.ratings.iMax s.drive.range)) s.engine.safeSlope
        ∧ t.drive.status = .acting ∧ t.drive.level = s.drive.level ∧ t.bay = s.bay ∧ t.queue = s.queue)
    ∧ (c.stage = .restRamp → s.drive.status = .ended →
      ∃ t c', exec .generatorSetEnd s = .next t ∧ t.StepIn .body c' ∧ c'.stage = .watch
        ∧ s.Opens t.acq.window .counted 100 (fun ch => ch = .measured .vOut ∨ ch ∈ c.record.checks.map (·.channel))
        ∧ t.drive.level = s.drive.level ∧ t.bay = s.bay ∧ t.queue = s.queue)
    ∧ (c.contributions = [] → s.acq.window.mode = .counted → s.acq.window.state = .opened →
      s.acq.window.length ≤ s.acq.window.count → s.drive.rangeChange = .none →
      ∃ t r, exec .windowDone s = .next t ∧ s.Offered t r ∧ r.endPhase = .exiting
        ∧ r.exitLevel = s.drive.level / 1000 ∧ r.windowCount = s.acq.window.count
        ∧ r.figures.watchMin = s.acq.window.statistic (.measured .vOut) .minimum
        ∧ r.checks = c.record.checks.map s.acq.window.evaluate
        ∧ ((∃ v, r.figures.watchMin = some v ∧ (s.engine.ratings.vRegLow : Int) ≤ v) →
            r.verdict = (if r.checks.all (·.pass) then .pass else .limit))
        ∧ ((∀ v, r.figures.watchMin = some v → v < (s.engine.ratings.vRegLow : Int)) → r.verdict = .noRecovery)
        ∧ (s.bay.ownUnit = .trip → (r.censusHeld = true ↔ r.verdict ≠ .pass)))

/-- The step time limit ends the step in the phase it is in, with TIMEOUT, or NO_RECOVERY for RECOVER. In ADMIT a
raise is withdrawn, in GATE an ATTEMPT unit is released, and in APPLY to EXIT the drive halts, with a pulse at its low
level, what waits discarded, a dropout coupling ended with the line enabled, a shelf reset pulse ended with the shelf
enabled, and a range change going on; a GATE unit is released with the step's end and a TRIP unit kept (R28, R29, R55,
R63, R64, R75, R87, R88, R168). What a trip on the same sample does to the exit level and the drive is read from the spec
(DEDUCED, notes/assumptions/17.md). -/
def Obligations.TimeLimitEndsStep : Prop :=
  ∀ (s : State) (p : Phase) (c : StepContext), s.StepIn p c → (∀ v ∈ c.contributions, 3 < v.rank) →
    c.timeLeft = 0 →
    ∃ t r, exec .stepTimeLimitExpiry s = .next t ∧ s.Offered t r ∧ r.endPhase = p
      ∧ r.verdict = (if c.record.kind = .recover then .noRecovery else .timeout)
      ∧ s.StopsAt p r
      ∧ (∃ d, s.StopsDrive p d ∧ d.StandsIn t.drive ∧ (32 ≤ s.queueAtEnd.length → t.drive = d))
      ∧ (r.censusHeld = true ↔ s.unitStopped p ≠ .released ∧ s.bay.ownUnit ≠ .gate)
      ∧ (32 ≤ s.queueAtEnd.length → t.bay.drivenClaim = s.claimStopped p ∧ t.bay.protocol = .idle
          ∧ t.bay.ownUnit = (if s.bay.ownUnit = .gate then .released else s.unitStopped p))

/-- The page wait limit sends the walk to WINDDOWN with reason STARVED: the line returns to line_nominal and
the level ramps to 0, while the claim and the unit are kept; a change of the line setpoint opens the V_LINE and P_LINE
blanks with their settle as the count (R40, R41, R84, R85, R92, R94; for a blank left WAITING DEDUCED,
notes/assumptions/34.md). -/
def Obligations.PageWaitExpiryStarves : Prop :=
  ∀ s : State, s.engine.walk = .pageWait → s.engine.pageWaitLeft = 0 →
    ∃ t, exec .pageWaitExpiry s = .next t ∧ s.EntersWinddown t .starved ∧ t.bay = s.bay ∧ t.queue = s.queue

/-! ## Admission and gate -/

/-- The admission decision: T at most L admits the step, to GATE for a gated kind and to APPLY otherwise,
under the claim driven; T above L withdraws the claim, and the attempt is followed by a BACKOFF or, at the
limit, by DENIED with the exit level of ADMIT entry; the prior claim stays driven into the next step, which may raise it
again from there (R24, R52, R53, R54, R124). That a gate entered with gate_quiet 0 stands in QUIET until
QUIET_WAIT_END is taken is the model's choice (notes/assumptions/45.md). -/
def Obligations.AdmissionDecides : Prop :=
  ∀ (s : State) (c : StepContext), s.StepIn .admitting c → s.bay.protocol = .raising → s.bay.protocolCount = 0 →
    (s.bay.bayTotal ≤ s.bayLimit → c.record.kind.gated = true →
      ∃ t, exec .admissionDecision s = .next t ∧ t.StepIn .gate c ∧ t.bay.protocol = .quiet
        ∧ t.bay.protocolCount = 0 ∧ t.bay.drivenClaim = s.bay.drivenClaim ∧ t.drive = s.drive
        ∧ t.bay.ownUnit = s.bay.ownUnit ∧ t.acq = s.acq ∧ t.queue = s.queue)
    ∧ (s.bay.bayTotal ≤ s.bayLimit → c.record.kind.gated = false →
      ∃ t c', exec .admissionDecision s = .next t ∧ c'.record = c.record ∧ s.EntersApply t c' s.drive.lineSetpoint
        ∧ t.bay.drivenClaim = s.bay.drivenClaim ∧ t.bay.ownUnit = s.bay.ownUnit)
    ∧ (s.bayLimit < s.bay.bayTotal → s.bay.admissionAttempts < s.attemptLimit →
      ∃ t, exec .admissionDecision s = .next t ∧ t.StepIn .backoff c ∧ t.bay.protocol = .backoff
        ∧ t.bay.drivenClaim = s.bay.priorClaim ∧ t.drive = s.drive ∧ t.acq = s.acq ∧ t.queue = s.queue
        ∧ t.bay.ownUnit = s.bay.ownUnit
        ∧ t.bay.protocolCount = (1 + (5 * s.bay.address + 3 * s.bay.admissionAttempts) % 16) * s.slotSamples)
    ∧ (s.bayLimit < s.bay.bayTotal → s.attemptLimit ≤ s.bay.admissionAttempts → c.contributions = [] →
      ∃ t r, exec .admissionDecision s = .next t ∧ s.Offered t r ∧ r.verdict = .denied ∧ r.endPhase = .admitting
        ∧ r.exitLevel = c.admitLevel ∧ r.admissionAttempts = s.bay.admissionAttempts
        ∧ (t.bay.drivenClaim = s.bay.priorClaim
          ∨ (t.bay.protocol = .raising ∧ t.bay.priorClaim = s.bay.priorClaim))
        ∧ (32 ≤ s.queueAtEnd.length → t.bay.drivenClaim = s.bay.priorClaim ∧ t.bay.protocol = .idle
          ∧ t.bay.admissionAttempts = s.bay.admissionAttempts))

/-- The ends of the protocol's waits: BACKOFF leads to the next attempt, the quiet wait to an asserted unit and
ASSERTING, GATE_BACKOFF to the next quiet wait, and the span after a release to census_others computed without the
unit (R46, R52, R53, R59, R60, R61, R62). That the span's last sample is the one before its end is taken is the
model's choice (notes/assumptions/16.md). That a gate entered with gate_quiet 0 stands in QUIET until
QUIET_WAIT_END is taken is the model's choice (notes/assumptions/45.md). -/
def Obligations.ProtocolWaitsEnd : Prop :=
  ∀ (s : State) (c : StepContext),
    (s.StepIn .backoff c → s.bay.protocol = .backoff → s.bay.protocolCount = 0 →
      ∃ t, exec .backoffEnd s = .next t ∧ t.StepIn .admitting c ∧ t.bay.protocol = .raising
        ∧ t.bay.protocolCount = s.lineSettle ∧ t.bay.admissionAttempts = s.bay.admissionAttempts + 1
        ∧ t.bay.drivenClaim = claimOf c.record.body.peak s.engine.ratings.vNom ∧ t.drive = s.drive
        ∧ t.bay.ownUnit = s.bay.ownUnit ∧ t.acq = s.acq ∧ t.queue = s.queue)
    ∧ (s.StepIn .gate c → s.bay.protocol = .quiet → s.quietSamples ≤ s.bay.protocolCount →
      ∃ t, exec .quietWaitEnd s = .next t ∧ t.StepIn .gate c ∧ t.bay.protocol = .asserting
        ∧ t.bay.protocolCount = s.lineSettle ∧ t.bay.gateAttempts = s.bay.gateAttempts + 1
        ∧ (s.bay.ownUnit = .released → t.bay.ownUnit = .attempt)
        ∧ (s.bay.ownUnit = .trip → t.bay.ownUnit = .trip)
        ∧ t.bay.drivenClaim = s.bay.drivenClaim ∧ t.drive = s.drive ∧ t.acq = s.acq ∧ t.queue = s.queue)
    ∧ (s.StepIn .gateBackoff c → s.bay.protocol = .gateBackoff → s.bay.protocolCount = 0 →
      ∃ t, exec .gateBackoffEnd s = .next t ∧ t.StepIn .gate c ∧ t.bay.protocol = .quiet
        ∧ t.bay.protocolCount = 0 ∧ t.bay.ownUnit = s.bay.ownUnit
        ∧ t.bay.drivenClaim = s.bay.drivenClaim ∧ t.drive = s.drive ∧ t.acq = s.acq ∧ t.queue = s.queue)
    ∧ (s.bay.releaseSpan = some 0 →
      ∃ t, exec .releaseSpanEnd s = .next t ∧ t = s.setBay { s.bay with releaseSpan := none }
        ∧ (s.bay.ownUnit = .released → ∀ reading, t.bay.othersOf reading = reading)
        ∧ (s.bay.ownUnit ≠ .released → ∀ reading, t.bay.othersOf reading = reading - 1))

/-- The gate decision: census_others 0 holds the gate and APPLY begins; 1 or more releases an ATTEMPT unit and
keeps a TRIP unit, and is followed by GATE_BACKOFF or, at the limit, by DENIED in GATE; the claim stays in each case, and
after DENIED the next step may raise it from there (R25, R60, R61, R62, R67). -/
def Obligations.GateDecides : Prop :=
  ∀ (s : State) (c : StepContext), s.StepIn .gate c → s.bay.protocol = .asserting → s.bay.protocolCount = 0 →
    s.bay.ownUnit = .attempt ∨ s.bay.ownUnit = .trip →
    (s.bay.censusOthers = 0 →
      ∃ t c', exec .gateDecision s = .next t ∧ c'.record = c.record ∧ s.EntersApply t c' s.drive.lineSetpoint
        ∧ t.bay.ownUnit = (if s.bay.ownUnit = .trip then .trip else .gate)
        ∧ t.bay.drivenClaim = s.bay.drivenClaim)
    ∧ (1 ≤ s.bay.censusOthers → s.bay.gateAttempts < s.attemptLimit →
      ∃ t, exec .gateDecision s = .next t ∧ t.StepIn .gateBackoff c ∧ t.bay.protocol = .gateBackoff
        ∧ t.bay.ownUnit = (if s.bay.ownUnit = .trip then .trip else .released)
        ∧ t.bay.protocolCount = (1 + (5 * s.bay.address + 3 * s.bay.gateAttempts) % 16) * s.slotSamples
        ∧ t.bay.drivenClaim = s.bay.drivenClaim ∧ t.drive = s.drive ∧ t.acq = s.acq ∧ t.queue = s.queue)
    ∧ (1 ≤ s.bay.censusOthers → s.attemptLimit ≤ s.bay.gateAttempts → c.contributions = [] →
      ∃ t r, exec .gateDecision s = .next t ∧ s.Offered t r ∧ r.verdict = .denied ∧ r.endPhase = .gate
        ∧ r.exitLevel = c.admitLevel ∧ r.gateAttempts = s.bay.gateAttempts
        ∧ (r.censusHeld = true ↔ s.bay.ownUnit = .trip)
        ∧ t.bay.ownUnit = (if s.bay.ownUnit = .trip then .trip else .released)
        ∧ (t.bay.drivenClaim = s.bay.drivenClaim
          ∨ (t.bay.protocol = .raising ∧ t.bay.priorClaim = s.bay.drivenClaim))
        ∧ (32 ≤ s.queueAtEnd.length → t.bay.drivenClaim = s.bay.drivenClaim ∧ t.bay.protocol = .idle
          ∧ t.bay.gateAttempts = s.bay.gateAttempts))

/-! ## The drive unit's events -/

/-- The walk's own ramps report their ends. The winddown ramp: claim 0, unit released, the enables inactive, the relay to
LOW with its count, and the WALK_SUMMARY offered; once placed, the walk is over. The rest ramp of PAGE_WAIT: the driven
claim lowered to the claim of the level reached, with the rest of the walk as it stood (R40, R41, R49, R66, R83, R84). -/
def Obligations.WalkRampsEnd : Prop :=
  ∀ s : State, s.engine.waiting = none → s.drive.status = .ended → s.drive.staged = none →
    (s.engine.walk = .winddown → s.engine.releasesDone = false →
      ∃ t, exec .generatorSetEnd s = .next t
        ∧ t.bay.drivenClaim = 0 ∧ t.bay.ownUnit = .released ∧ t.bay.protocol = .idle
        ∧ t.drive.loadEnable = false ∧ t.drive.lineEnable = false ∧ t.drive.shelfEnable = false
        ∧ t.drive.dropHold = false ∧ t.drive.range = .low ∧ t.drive.level = s.drive.level
        ∧ t.drive.relayCount = (if s.drive.range = .high then 200 else s.drive.relayCount)
        ∧ (s.queue.length < 32 → t.queue = s.queue ++ [.stepLevel (.walkSummary s.engine.summary)]
            ∧ t.engine.walk = (if s.engine.reason = some .pass then .idle else .held) ∧ t.engine.page = none)
        ∧ (32 ≤ s.queue.length → t.queue = s.queue ∧ t.engine.walk = .winddown
            ∧ t.engine.waiting = some (.walkSummary s.engine.summary)))
    ∧ (s.engine.walk = .pageWait → s.engine.rest = .ramping →
      ∃ t, exec .generatorSetEnd s = .next t ∧ t.engine = { s.engine with rest := .reached }
        ∧ t.bay = { s.bay with
            drivenClaim := min s.bay.drivenClaim (claimOf (s.drive.level / 1000) s.engine.ratings.vNom) }
        ∧ t.drive.level = s.drive.level ∧ t.drive.active = .level s.drive.level ∧ t.drive.status = .rest
        ∧ s.drive.StandsIn t.drive ∧ t.acq = s.acq ∧ t.queue = s.queue)

/-- A pulse cycle's end counts the cycle; the last one ends the pulse at its low level and ends the step, with
its window evaluated, at level 0 when a trip falls on the same sample; and the stop request of a cycles-0 pulse ends
BODY, with capture's last block offered (R74, R106, R131, R132, R133, R136, R139). -/
def Obligations.PulseCyclesEnd : Prop :=
  ∀ (s : State) (lo hi period high cycles : Nat), s.drive.active = .pulse lo hi period high cycles →
    (s.drive.cycleEnded = true → s.drive.staged = none → s.drive.stopPending = false →
      cycles = 0 ∨ s.drive.completed + 1 < cycles → s.engine.waiting = none →
      exec .pulseCycleEnd s = .next (s.setDrive
        { s.drive with completed := min (s.drive.completed + 1) 65535, cycleEnded := false }))
    ∧ (∀ (p : Phase) (c : StepContext), s.StepIn p c → p = .body ∨ p = .exiting → c.record.kind = .pulse →
      c.contributions = [] → s.drive.rangeChange = .none → s.drive.cycleEnded = true →
      s.drive.stopPending = true ∨ (cycles ≠ 0 ∧ cycles ≤ s.drive.completed + 1) →
      ∃ t r, exec .pulseCycleEnd s = .next t ∧ s.Offered t r ∧ r.endPhase = .exiting
        ∧ r.exitLevel = (if s.acq.detectors.tripDue then 0 else lo)
        ∧ r.cycles = min (s.drive.completed + 1) 65535 ∧ r.windowCount = s.acq.window.count
        ∧ r.checks = c.record.checks.map s.acq.window.evaluate
        ∧ r.verdict = (if r.checks.all (·.pass) then .pass else .limit))
    ∧ (∀ (c : StepContext) (l h w : Nat), s.StepIn .body c → c.record.body = .pulse l h period w 0 →
      c.timeLeft ≤ period + 1 → s.drive.status = .acting →
      ∃ t, exec .pulseStopRequest s = .next t ∧ t.StepIn .exiting c ∧ t.drive.stopPending = true
        ∧ t.drive.level = s.drive.level ∧ t.drive.active = s.drive.active
        ∧ (s.acq.capture.mode = .terminal → t.queue = s.queueAtEnd ∧ t.acq.capture.state ≠ .collecting)
        ∧ (s.acq.capture.mode ≠ .terminal → t.queue = s.queue ∧ t.acq = s.acq))

/-- A range change: the end of DOWN opens the load and moves the relay for 200 samples. At the relay count's end the load
closes again. A set that waits then takes force, the level standing at 0 where none does, as after a halt; one whose range
is not the relay's begins a new change; and in PAGE_WAIT the rest comparison that waited is made. With no range change, a
load enable that waits takes effect (R73, R75, R77, R78, R81, R83). That the end is reported as a range change of the
APPLY in which it falls, also when a halt left an earlier step's running, is read from R95 and R78 (DEDUCED,
notes/assumptions/20.md). -/
def Obligations.RangeChangeStages : Prop :=
  ∀ s u : State, u = s.setDrive { s.drive with
      loadEnable := true, loadRequest := false, rangeChange := .none, rangeChanged := true } →
    (∀ target, s.drive.rangeChange = .down target true →
      exec .rangeDownEnd s = .next (s.setDrive { s.drive with
        loadEnable := false, range := target, relayCount := 200, rangeChange := .relayWait }))
    ∧ (s.drive.rangeChange = .relayWait → s.drive.relayCount = 0 →
      ¬ (s.engine.walk = .pageWait ∧ s.engine.rest = .deferred) →
      (s.drive.staged = none → exec .relayCountExpiry s = .next u)
      ∧ (∀ g range, s.drive.staged = some ⟨g, range⟩ → s.drive.pulsing = false → s.drive.coupling = .none →
        ∃ t, exec .relayCountExpiry s = .next t ∧ u.drive.StandsIn t.drive ∧ t.drive.rangeChanged = true
          ∧ (range = none ∨ range = some s.drive.range → t.drive.rangeChange = .none
            ∧ t.drive.active = g.settled s.drive.level ∧ t.drive.status = .acting ∧ t.drive.staged = none)
          ∧ (∀ other, range = some other → other ≠ s.drive.range → t.drive.rangeChange = .down other false
            ∧ t.drive.active = .ramp none 0 g.slope ∧ t.drive.status = .acting
            ∧ t.drive.staged = some ⟨g, some other⟩)
          ∧ t.engine = s.engine ∧ t.bay = s.bay ∧ t.acq = s.acq ∧ t.queue = s.queue))
    ∧ (s.drive.rangeChange = .relayWait → s.drive.relayCount = 0 → s.engine.walk = .pageWait →
      s.engine.rest = .deferred → s.drive.staged = none →
      ∃ t, exec .relayCountExpiry s = .next t ∧ u.ComparesRest t ∧ t.engine = { s.engine with rest := t.engine.rest }
        ∧ t.bay = s.bay ∧ t.acq = s.acq ∧ t.queue = s.queue)
    ∧ (s.drive.rangeChange = .none → s.drive.relayCount = 0 → s.drive.loadRequest = true →
      ¬ (s.engine.walk = .pageWait ∧ s.engine.rest = .deferred) →
      exec .relayCountExpiry s = .next (s.setDrive { s.drive with loadEnable := true, loadRequest := false }))

/-- APPLY completes: the claim is lowered to the step claim, and goes on covering a load within I_peak; every waiting
blank counts its settle and, after a range change, its range_settle. SETTLE waits while a blank of the step's settle set
is open; and when none is, BODY begins in the same event, with what it requests for the kind and the latest sample as
its first (R26, R49, R50, R82, R95, R96, R106, R127). An alarm that this sample finds, and that the sample's operand does
not put after its other events, is delivered in the same event (notes/assumptions/21.md): the statements on trip events say
what it does. That an alarm active since the reset is found here is read from R110 (DEDUCED, notes/assumptions/35.md). -/
def Obligations.ApplyCompletesIntoSettle : Prop :=
  ∀ (s : State) (c : StepContext), s.StepIn .applying c → s.drive.status = .ended → s.drive.staged = none →
    ((∃ ch, c.settleSet.get ch = true ∧ s.blankAfterApply ch ≠ .closed) →
      ∃ t, exec .applyComplete s = .next t ∧ t.StepIn .settle c ∧ s.CompletesApply t c
        ∧ t.drive.active = .level s.drive.level ∧ t.drive.status = .rest)
    ∧ ((∀ ch, c.settleSet.get ch = true → s.blankAfterApply ch = .closed) →
      s.acq.alarmLate = true ∨ (s.acq.detectors.alarmArmed = false
        ∧ (c.record.body.armsAlarm = false ∨ s.acq.NoAlarmFound)) →
      ∃ t c', exec .applyComplete s = .next t ∧ t.StepIn .body c' ∧ c'.record = c.record ∧ c'.bodySeq = s.acq.seq
        ∧ s.CompletesApply t c
        ∧ (s.setDrive s.drive.holdLevel).BodyStarts t c c' (clampLimit s.engine.ratings.iMax s.drive.range)
            c.record.body
        ∧ s.StartsCapture t)

/-- A blank closes and nothing else changes outside SETTLE; the last blank of a step's settle set begins its BODY,
which requests for each kind its window with its channels and policy, its detectors, its set or its span, and starts a
TERMINAL capture; the window, the capture and the runs of the detectors take that sample as their first (R93, R95, R96,
R98, R101, R102, R104, R106, R127 to R131, R140, R143, R144, R147, R152, R153, R158, R164, R165). An alarm that this sample
finds, and that the sample's operand does not put after its other events, is delivered in the same event
(notes/assumptions/21.md): the statements on trip events say what it does. That an alarm active since the reset is found
here is read from R110 (DEDUCED, notes/assumptions/35.md). -/
def Obligations.BlankCloses : Prop :=
  ∀ (s : State) (ch : Channel), s.acq.blanks.get ch = .counting 0 →
    (s.engine.phase ≠ .settle →
      ∃ t, exec (.blankClose ch) s = .next t ∧ t.acq.blanks = s.acq.blanks.put ch .closed
        ∧ t.acq.averages = s.acq.averages ∧ t.acq.window = s.acq.window ∧ t.acq.detectors = s.acq.detectors
        ∧ t.acq.capture = s.acq.capture ∧ t.engine = s.engine ∧ t.bay = s.bay ∧ t.drive = s.drive
        ∧ t.queue = s.queue)
    ∧ (∀ c d, s.StepIn .settle c → d ≠ ch → c.settleSet.get d = true → s.acq.blanks.get d ≠ .closed →
      ∃ t, exec (.blankClose ch) s = .next t ∧ t.StepIn .settle c ∧ t.acq.blanks = s.acq.blanks.put ch .closed)
    ∧ (∀ c, s.StepIn .settle c →
      (∀ d, c.settleSet.get d = true → d ≠ ch → s.acq.blanks.get d = .closed) →
      s.acq.alarmLate = true ∨ (s.acq.detectors.alarmArmed = false
        ∧ (c.record.body.armsAlarm = false ∨ s.acq.NoAlarmFound)) →
      ∃ t c', exec (.blankClose ch) s = .next t ∧ t.StepIn .body c' ∧ c'.record = c.record ∧ c'.bodySeq = s.acq.seq
        ∧ s.BodyStarts t c c' (clampLimit s.engine.ratings.iMax s.drive.range) c.record.body
        ∧ s.StartsCapture t ∧ t.bay = s.bay ∧ t.queue = s.queue)

/-- A HOLD step ends when its window is DONE and a RAMP step when its ramp lands: in EXIT, with the window
evaluated, LIMIT for a failing check and PASS otherwise, and the level as exit level, or 0 when a trip falls on the
same sample and its end is taken first. A check takes its statistic of its channel, MEAN with floor toward −∞, MIN or
MAX, and passes when low ≤ statistic ≤ high; and the verdict of a step is the highest-ranking of its contributions, PASS
when there is none (R29, R72, R99, R100, R125, R128, R129, R130, R134, R136). -/
def Obligations.SteadyStepsEnd : Prop :=
  (∀ (w : Window) (check : Check) (acc : Accumulator),
    w.channels.find? (fun a => a.channel == check.channel) = some acc → w.Judges check acc)
  ∧ (∀ vs : List Verdict, (vs = [] → verdictOf vs = .pass)
    ∧ ∀ v ∈ vs, verdictOf vs ∈ vs ∧ (verdictOf vs).rank ≤ v.rank)
  ∧ ∀ (s : State) (c : StepContext), s.StepIn .body c → c.contributions = [] → s.drive.rangeChange = .none →
    (∀ iSet, c.record.body = .hold iSet → s.acq.window.mode = .counted → s.acq.window.state = .opened →
      s.acq.window.length ≤ s.acq.window.count →
      ∃ t r, exec .windowDone s = .next t ∧ s.Offered t r ∧ r.endPhase = .exiting
        ∧ r.exitLevel = (if s.acq.detectors.tripDue then 0 else s.drive.level / 1000)
        ∧ r.windowCount = s.acq.window.count
        ∧ r.restarts = s.acq.window.restarts ∧ r.disturbed = s.acq.window.disturbed
        ∧ r.checks = c.record.checks.map s.acq.window.evaluate
        ∧ r.verdict = (if r.checks.all (·.pass) then .pass else .limit))
    ∧ (∀ iFrom iTo slope, c.record.body = .ramp iFrom iTo slope → s.drive.status = .ended →
      ∃ t r, exec .generatorSetEnd s = .next t ∧ s.Offered t r ∧ r.endPhase = .exiting
        ∧ r.exitLevel = (if s.acq.detectors.tripDue then 0 else s.drive.level / 1000)
        ∧ r.windowCount = s.acq.window.count
        ∧ r.checks = c.record.checks.map s.acq.window.evaluate
        ∧ r.verdict = (if r.checks.all (·.pass) then .pass else .limit))

/-- A DERATE step's reference window is DONE: with a curve missing the step ends with LIMIT and an expected power of
0; otherwise the expected power and its two limits are formed, and the ramp to I_ceiling starts with the knee
detector armed at V_ref less knee_drop and a new window. The window stands requested at w and takes its first sample
at w + 1 (R160; DEDUCED, notes/assumptions/25.md). A sample at or below the knee threshold then ends BODY with P_knee
judged, and the end of the ramp with NO_KNEE; either stages the return ramp, and its end ends the step (R76, R105,
R116 to R118, R159 to R161, R163). A curve is missing when it is empty or not of the axis that the field requires
(R11). That the knee is delivered in SAMPLE, before the other events of the sample, as its operand says, is the model's
choice (notes/assumptions/4.md). That the exit level is the level also when a trip is due on the sample of the step's end
is read from R136 (DEDUCED, notes/assumptions/17.md). -/
def Obligations.DerateFormsFigures : Prop :=
  ∀ (s : State) (c : StepContext) (curveV : Nat) (curveT : Option Nat)
    (iFrom slope iCeiling kneeDrop tolLo tolHi iMax : Nat),
    c.record.body = .derate curveV curveT iFrom slope iCeiling kneeDrop tolLo tolHi →
    iMax = clampLimit s.engine.ratings.iMax s.drive.range →
    (∀ id axis, curveMissing s.store id axis = true ↔
      (s.store.curve id).points = [] ∨ (s.store.curve id).axis ≠ some axis)
    ∧ (∀ (v : Int) (x : SampleRecord), s.StepIn .body c → c.contributions = [] →
      s.acq.window.mode = .counted → s.acq.window.state = .opened → s.acq.window.length ≤ s.acq.window.count →
      s.acq.window.statistic (.measured .vOut) .mean = some v → s.acq.latest = some x →
      (curveMissing s.store curveV .voltage = true ∨ (∃ id, curveT = some id ∧ curveMissing s.store id .temperature) →
        ∃ t r, exec .windowDone s = .next t ∧ s.Offered t r ∧ r.endPhase = .exiting ∧ r.verdict = .limit
          ∧ r.figures.curveMissing = true ∧ r.figures.pExp = some 0 ∧ r.figures.vRef = some v
          ∧ r.windowCount = s.acq.window.count ∧ r.checks = c.record.checks.map s.acq.window.evaluate)
      ∧ (∀ yV yT pExp, curveMissing s.store curveV .voltage = false →
        (∀ id, curveT = some id → curveMissing s.store id .temperature = false) →
        yV = curveValue (s.store.curve curveV).points c.record.lineSetpoint →
        (∀ id, curveT = some id → yT = curveValue (s.store.curve id).points x.average.tInlet) →
        (curveT = none → yT = 1000) → pExp = s.engine.ratings.pRated * min yV yT / 1000 →
        s.drive.dropHold = false → s.drive.busy = false →
        ∃ t c', exec .windowDone s = .next t ∧ t.StepIn .body c' ∧ c'.figures.vRef = some v
          ∧ c'.figures.pExp = some pExp ∧ c'.figures.tUsed = curveT.map (fun _ => x.average.tInlet)
          ∧ c'.limits = (pExp * (1000 - tolLo) / 1000, (pExp * (1000 + tolHi) + 999) / 1000)
          ∧ c'.windowCount = s.acq.window.count ∧ c'.checks = c.record.checks.map s.acq.window.evaluate
          ∧ c'.contributions = (if c'.checks.all (·.pass) then [] else [.limit])
          ∧ t.drive.active = .ramp (if min iFrom iMax * 1000 = s.drive.level then none else some (min iFrom iMax))
              (min iCeiling iMax) slope
          ∧ t.drive.status = .acting ∧ t.acq.detectors.knee = some (v - kneeDrop) ∧ t.acq.window.mode = .span
          ∧ t.acq.window.policy = .mark ∧ t.acq.window.channels = [] ∧ t.acq.window.state = .opened
          ∧ t.acq.window.count = 0 ∧ t.drive.level = s.drive.level ∧ t.bay = s.bay ∧ t.queue = s.queue))
    ∧ (∀ (i : SampleInput) (threshold : Int), s.Settled → s.StepIn .body c →
      s.acq.detectors.knee = some threshold → s.acq.detectors.alarmArmed = false ∨ i.alarmLate = true →
      i.kneeLate = false → s.drive.dropHold = false → s.drive.busy = false →
      ∃ t r, exec (.sample i) s = .next t ∧ t.acq.latest = some r
        ∧ (r.average.vOut ≤ threshold → ∃ c' pKnee, t.StepIn .exiting c' ∧ c'.figures.pKnee = some pKnee
          ∧ pKnee = (r.average.vOut * r.average.iOut / 10000).toNat
          ∧ c'.contributions = c.contributions ++ (if pKnee < c.limits.1 then [.derateLow]
              else if c.limits.2 < pKnee then [.derateHigh] else [])
          ∧ t.acq.window.state = .closed ∧ t.acq.detectors.knee = none
          ∧ t.drive.active = .ramp none (min iFrom iMax) s.engine.safeSlope ∧ t.drive.status = .acting)
        ∧ (threshold < r.average.vOut → ∃ c', t.StepIn .body c' ∧ c'.contributions = c.contributions))
    ∧ (s.StepIn .body c → c.stage = .kneeRamp → s.drive.status = .ended → s.drive.staged = none →
      s.drive.dropHold = false → s.drive.rangeChange = .none → s.drive.coupling = .none →
      ∃ t c', exec .generatorSetEnd s = .next t ∧ t.StepIn .exiting c'
        ∧ c'.contributions = c.contributions ++ [.noKnee] ∧ t.acq.window.state = .closed
        ∧ t.acq.detectors.knee = none ∧ t.drive.level = s.drive.level
        ∧ t.drive.active = .ramp none (min iFrom iMax) s.engine.safeSlope ∧ t.drive.status = .acting)
    ∧ (s.StepIn .exiting c → (∀ v ∈ c.contributions, 3 < v.rank) → s.drive.status = .ended →
      s.drive.rangeChange = .none →
      ∃ t r, exec .generatorSetEnd s = .next t ∧ s.Offered t r ∧ r.endPhase = .exiting
        ∧ r.verdict = verdictOf c.contributions ∧ r.exitLevel = s.drive.level / 1000)

/-- The ceiling of a TRIP_SEARCH ramp begins the hold of 1000 samples. A trip step whose wait runs out records
NO_TRIP, closes its window and stages its return: TRIP_SEARCH a ramp to I_from after its ceiling hold, TRIP_TIME a jump
to I_pre after t_max; the end of the return ends the step, with a GATE unit released (R64, R76, R145, R147, R151). That the
exit level is the level also when a trip is due on the sample of the step's end is read from R136 (DEDUCED,
notes/assumptions/17.md). -/
def Obligations.TripWaitsEnd : Prop :=
  ∀ (s : State) (c : StepContext),
    (s.StepIn .body c → c.wait = some 0 → s.drive.dropHold = false → s.drive.busy = false →
      (∀ iFrom slope iCeiling detect threshold lo hi,
        c.record.body = .tripSearch iFrom slope iCeiling detect threshold lo hi →
        ∃ t c', exec .ceilingHoldEnd s = .next t ∧ t.StepIn .exiting c'
          ∧ c'.contributions = c.contributions ++ [.noTrip] ∧ c'.wait = none
          ∧ t.acq.window.state = .closed ∧ c'.windowCount = s.acq.window.count
          ∧ t.drive.active = .ramp none (min iFrom (clampLimit s.engine.ratings.iMax s.drive.range)) s.engine.safeSlope
          ∧ t.drive.status = .acting ∧ t.drive.level = s.drive.level ∧ t.bay = s.bay ∧ t.queue = s.queue)
      ∧ (∀ iPre iOver detect threshold tMin tMax,
        c.record.body = .tripTime iPre iOver detect threshold tMin tMax →
        ∃ t c', exec .tripWaitEnd s = .next t ∧ t.StepIn .exiting c'
          ∧ c'.contributions = c.contributions ++ [.noTrip] ∧ c'.wait = none
          ∧ t.acq.window.state = .closed ∧ c'.windowCount = s.acq.window.count
          ∧ t.drive.active = .level (min (iPre * 1000) (clampLimit s.engine.ratings.iMax s.drive.range * 1000))
          ∧ t.drive.status = .acting ∧ t.drive.level = s.drive.level ∧ t.bay = s.bay ∧ t.queue = s.queue))
    ∧ (s.StepIn .body c → c.record.kind = .tripSearch → s.drive.status = .ended →
      ∃ t c', exec .generatorSetEnd s = .next t ∧ t.StepIn .body c' ∧ c'.wait = some 1000
        ∧ t.acq.detectors = s.acq.detectors ∧ t.drive.level = s.drive.level ∧ t.bay = s.bay ∧ t.queue = s.queue)
    ∧ (s.StepIn .exiting c → c.record.kind = .tripSearch ∨ c.record.kind = .tripTime → c.figures.trip = none →
      c.contributions = [.noTrip] → s.drive.status = .ended → s.drive.rangeChange = .none →
      ∃ t r, exec .generatorSetEnd s = .next t ∧ s.Offered t r ∧ r.verdict = .noTrip ∧ r.endPhase = .exiting
        ∧ r.exitLevel = s.drive.level / 1000 ∧ r.figures.trip = none
        ∧ (s.bay.ownUnit = .gate → r.censusHeld = false) ∧ (s.bay.ownUnit = .trip → r.censusHeld = true))

/-- The dropout coupling: LEAD leads to OFF with the line off and the dropout window opened, OFF to RESTORE with
the line on, and the end of RESTORE to the judgement of V_min, HOLDUP when it is below v_min or absent (R64,
R86, R165, R166). That the exit level is the level also when a trip is due on the last sample is read from R167 against
R136 (DEDUCED, notes/assumptions/17.md). -/
def Obligations.CouplingSpansEnd : Prop :=
  ∀ s : State,
    (∀ dropout restore, s.drive.coupling = .lead 0 dropout restore →
      ∃ t, exec .couplingSpanEnd s = .next t
        ∧ t.drive = { s.drive with coupling := .off dropout restore, lineEnable := false }
        ∧ s.Opens t.acq.window .span 0
            (fun ch => ch = .measured .vOut ∨ ch ∈ s.engine.record.checks.map (·.channel))
        ∧ t.acq.blanks = s.acq.blanks ∧ t.engine = s.engine ∧ t.bay = s.bay
        ∧ t.queue = s.queue)
    ∧ (∀ restore, s.drive.coupling = .off 0 restore →
      exec .couplingSpanEnd s = .next (s.setDrive
        { s.drive with coupling := .restore (restore - 1), lineEnable := true }))
    ∧ (∀ c iHold lead dropout restore vMin, s.drive.coupling = .restore 0 → s.StepIn .body c →
      c.record.body = .dropout iHold lead dropout restore vMin → c.contributions = [] →
      s.drive.rangeChange = .none → s.drive.staged = none → s.acq.window.state = .opened → s.bay.ownUnit = .gate →
      ∃ t r, exec .couplingSpanEnd s = .next t ∧ s.Offered t r ∧ r.endPhase = .exiting
        ∧ r.exitLevel = s.drive.level / 1000 ∧ r.censusHeld = false
        ∧ r.figures.vMin = s.acq.window.statistic (.measured .vOut) .minimum
        ∧ r.checks = c.record.checks.map s.acq.window.evaluate
        ∧ ((∃ v, r.figures.vMin = some v ∧ (vMin : Int) ≤ v) →
            r.verdict = (if r.checks.all (·.pass) then .pass else .limit))
        ∧ ((∀ v, r.figures.vMin = some v → v < (vMin : Int)) → r.verdict = .holdup))

/-- The shelf reset pulse ends with shelf enable active, and the RECOVER step begins its regulation wait with
that sample as the first (R88, R104, R153). -/
def Obligations.ResetPulseEndBeginsRegulationWait : Prop :=
  ∀ (s : State) (c : StepContext) (r : SampleRecord), s.StepIn .body c → c.stage = .resetPulse →
    s.drive.resetPulse = some 0 → s.acq.latest = some r →
    ∃ t c', exec .resetPulseEnd s = .next t ∧ t.StepIn .body c' ∧ c'.stage = .regulationWait
      ∧ t.drive = { s.drive with resetPulse := none, shelfEnable := true }
      ∧ t.acq.detectors.regulation = some ⟨s.engine.ratings.vRegLow,
          if (s.engine.ratings.vRegLow : Int) ≤ r.average.vOut then 1 else 0⟩
      ∧ t.bay = s.bay ∧ t.queue = s.queue

/-- A block that is due is offered: placed with at least 8 entries free and dropped otherwise, its index used either
way. A TERMINAL capture is DONE with its last block, and a trip capture with the block that follows its last sample,
which ends the trip step that waits for it in EXIT (R106, R108, R109, R142, R149, R181). -/
def Obligations.CaptureBlockIsPlacedOrDropped : Prop :=
  ∀ s : State, s.acq.capture.state = .collecting → s.acq.capture.fill ≠ [] → s.engine.waiting = none →
    (s.acq.capture.fill.length = 12 →
      s.acq.capture.mode = .terminal ∨ (s.acq.capture.mode = .trip ∧ 0 < s.acq.capture.left) →
      ∃ t, exec .captureBlockOffer s = .next t
        ∧ (s.queue.length ≤ 24 → t.queue = s.queue ++ [.captureBlock
              ⟨s.engine.record.tag, s.acq.capture.nextIndex, s.acq.capture.fill⟩]
            ∧ t.acq.capture.posted = s.acq.capture.posted + 1 ∧ t.acq.capture.dropped = s.acq.capture.dropped)
        ∧ (24 < s.queue.length → t.queue = s.queue
            ∧ t.acq.capture.posted = s.acq.capture.posted ∧ t.acq.capture.dropped = s.acq.capture.dropped + 1)
        ∧ t.acq.capture.fill = [] ∧ t.acq.capture.nextIndex = s.acq.capture.nextIndex + 1
        ∧ t.acq.capture.left = s.acq.capture.left
        ∧ t.acq.capture.state = (if s.acq.capture.mode = .terminal
              ∧ s.engine.record.captureBlocks ≤ s.acq.capture.nextIndex + 1 then .done else .collecting)
        ∧ t.engine = s.engine ∧ t.bay = s.bay ∧ t.drive = s.drive)
    ∧ (∀ c, s.StepIn .exiting c → c.record.kind = .tripSearch ∨ c.record.kind = .tripTime →
      s.acq.capture.mode = .trip → s.acq.capture.left = 0 → s.drive.level = 0 →
      (∀ v ∈ c.contributions, 4 < v.rank) → s.bay.ownUnit = .trip →
      ∃ t r, exec .captureBlockOffer s = .next t ∧ s.Offered t r ∧ r.endPhase = .exiting ∧ r.exitLevel = 0
        ∧ r.censusHeld = true ∧ r.verdict = verdictOf c.contributions ∧ r.figures = c.figures)

/-- The interlock input: without a walk its opening and closing only move the input. While a walk is active its
opening drops the drive and the bay lines, and the walk goes to WINDDOWN with reason INTERLOCK: from PAUSED and
PAGE_WAIT at once, from a step in progress with the step ended ABORTED at level 0, and from a record that waits with
that record kept. In WINDDOWN the reason becomes INTERLOCK until the WALK_SUMMARY is placed, and the releases are
made in the event (R32, R42, R66, R67, R80, R84). That the winddown ramp still runs to its report from the other
states, so that the WALK_SUMMARY is not yet offered, is read from R42 and R84 (DEDUCED, notes/assumptions/19.md), and
an opening of an input already open acts as an opening (DESIGN CHOICE, notes/assumptions/30.md). For a line blank left
WAITING see notes/assumptions/34.md (DEDUCED). -/
def Obligations.InterlockDrops : Prop :=
  ∀ s : State,
    exec .interlockClose s = .next (s.setInterlock false)
    ∧ (s.engine.walk.active = false → exec .interlockOpen s = .next (s.setInterlock true))
    ∧ (s.engine.walk.active = true →
      ∃ t, exec .interlockOpen s = .next t ∧ t.interlockOpen = true ∧ t.bay.drivenClaim = 0
        ∧ t.bay.ownUnit = .released ∧ t.bay.protocol = .idle ∧ t.drive.level = 0 ∧ t.drive.loadEnable = false
        ∧ t.drive.lineEnable = false ∧ t.drive.shelfEnable = false ∧ t.drive.coupling = .none
        ∧ t.drive.resetPulse = none ∧ t.drive.rangeChange = .none)
    ∧ (s.engine.walk = .paused ∨ s.engine.walk = .pageWait → s.engine.waiting = none →
      ∃ t d, exec .interlockOpen s = .next t ∧ s.drive.DropsAllTo d ∧ (s.setDrive d).EntersWinddown t .interlock
        ∧ t.queue = s.queue)
    ∧ (∀ p c, s.StepIn p c → (∀ v ∈ c.contributions, 3 < v.rank) →
      ∃ t r d, exec .interlockOpen s = .next t ∧ s.Offered t r ∧ r.verdict = .aborted ∧ r.endPhase = p
        ∧ r.exitLevel = 0 ∧ r.censusHeld = false
        ∧ s.drive.DropsAllTo d ∧ (s.setDrive d).EntersWinddown t .interlock)
    ∧ (∀ x, s.engine.walk = .running → s.engine.waiting = some x → 32 ≤ s.queue.length →
      ∃ t d, exec .interlockOpen s = .next t ∧ s.drive.DropsAllTo d ∧ (s.setDrive d).EntersWinddown t .interlock
        ∧ t.engine.waiting = some x ∧ t.engine.phase = .outputStall ∧ t.queue = s.queue)
    ∧ (∀ summary, s.engine.walk = .winddown → summary = { s.engine.summary with verdictPass := false, reason := .interlock } →
      (s.engine.releasesDone = false → s.engine.waiting = none →
        ∃ t, exec .interlockOpen s = .next t ∧ t.drive.range = .low
          ∧ (s.queue.length < 32 → t.queue = s.queue ++ [.stepLevel (.walkSummary summary)]
            ∧ t.engine.walk = .held ∧ t.engine.page = none)
          ∧ (32 ≤ s.queue.length → t.queue = s.queue ∧ t.engine.walk = .winddown
            ∧ t.engine.reason = some .interlock ∧ t.engine.waiting = some (.walkSummary summary)))
      ∧ (∀ w, s.engine.releasesDone = true → s.engine.waiting = some (.walkSummary w) → 32 ≤ s.queue.length →
        ∃ t, exec .interlockOpen s = .next t ∧ t.engine.walk = .winddown ∧ t.queue = s.queue
          ∧ t.engine.reason = some .interlock ∧ t.engine.waiting = some (.walkSummary summary))
      ∧ (∀ x, s.engine.releasesDone = false → s.engine.waiting = some x → (∀ w, x ≠ .walkSummary w) →
        32 ≤ s.queue.length →
        ∃ t, exec .interlockOpen s = .next t ∧ t.engine.walk = .winddown ∧ t.engine.releasesDone = true
          ∧ t.engine.reason = some .interlock ∧ t.engine.waiting = some x ∧ t.queue = s.queue))

/-! ## Arithmetic -/

/-- The value of a curve: its ends beyond its first and last breakpoint, and between two breakpoints the segment
that starts at or below x, with floor toward −∞ (R115). -/
def Obligations.CurveValueInterpolates : Prop :=
  ∀ (points : List (Int × Nat)) (x : Int), points.Pairwise (fun p q => p.1 < q.1) →
    (∀ p, points.head? = some p → x ≤ p.1 → curveValue points x = p.2)
    ∧ (∀ p, points.getLast? = some p → p.1 ≤ x → curveValue points x = p.2)
    ∧ (∀ i p q, points[i]? = some p → points[i + 1]? = some q → p.1 ≤ x → x < q.1 →
        (curveValue points x : Int) = p.2 + (((q.2 : Int) - p.2) * (x - p.1)) / (q.1 - p.1))

/-- A claim is ceil(I × V_nom / 5,000,000): exact on a multiple, one more on any remainder, 0 exactly when I is
0, and a claim of c units covers exactly the currents up to floor(c × 5,000,000 / V_nom). It is the step claim
of I_peak, which a clamped current never exceeds, and what the rest lowering of PAGE_WAIT lowers the driven claim to
(R119). -/
def Obligations.ClaimRoundsUp : Prop :=
  (∀ current vNom : Nat, 5000000 * claimOf current vNom < current * vNom + 5000000
      ∧ current * vNom ≤ 5000000 * claimOf current vNom)
    ∧ (∀ current vNom : Nat, 0 < vNom → (claimOf current vNom = 0 ↔ current = 0))
    ∧ (∀ current vNom c : Nat, 0 < vNom → (claimOf current vNom ≤ c ↔ current ≤ c * 5000000 / vNom))
    ∧ (∀ current limit vNom : Nat, claimOf (min current limit) vNom ≤ claimOf current vNom)
    ∧ (∀ s : State, s.stepClaim = claimOf s.engine.record.body.peak s.engine.ratings.vNom)
    ∧ (∀ s : State, s.reachRest.bay.drivenClaim
        = min s.bay.drivenClaim (claimOf (s.drive.level / 1000) s.engine.ratings.vNom))

/-- Backoff slots: 1 + ((5 × address + 3 × n) mod 16), between 1 and 16, for admission and gate alike; different
for different addresses at the same attempt and for 16 consecutive attempts of one address; over attempts 1 to 14
they add up to 136 less the slots of attempts 15 and 16, between 107 at address 3 and 131 at address 7. The wait
lasts slots × backoff_unit × 10 samples, 10 to 16000 (R124). -/
def Obligations.BackoffSlotsPartStations : Prop :=
  (∀ (b : Bay) (unit : Nat), (b.enterBackoff (unit * 10)).protocolCount
        = (1 + (5 * b.address + 3 * b.admissionAttempts) % 16) * (unit * 10)
      ∧ (b.enterGateBackoff (unit * 10)).protocolCount
        = (1 + (5 * b.address + 3 * b.gateAttempts) % 16) * (unit * 10))
    ∧ (∀ address attempt, 1 ≤ backoffSlots address attempt ∧ backoffSlots address attempt ≤ 16)
    ∧ (∀ a b n, a < 16 → b < 16 → backoffSlots a n = backoffSlots b n → a = b)
    ∧ (∀ a m n, m < n + 16 → n < m + 16 → backoffSlots a m = backoffSlots a n → m = n)
    ∧ (∀ a n unit, 1 ≤ unit → unit ≤ 100 →
        10 ≤ backoffSlots a n * (unit * 10) ∧ backoffSlots a n * (unit * 10) ≤ 16000)
    ∧ (∀ a, a < 16 → ((List.range 14).map (fun k => backoffSlots a (k + 1))).sum
        = 136 - backoffSlots a 15 - backoffSlots a 16)
    ∧ (∀ a, a < 16 → 107 ≤ ((List.range 14).map (fun k => backoffSlots a (k + 1))).sum
        ∧ ((List.range 14).map (fun k => backoffSlots a (k + 1))).sum ≤ 131)
    ∧ ((List.range 14).map (fun k => backoffSlots 3 (k + 1))).sum = 107
    ∧ ((List.range 14).map (fun k => backoffSlots 7 (k + 1))).sum = 131

/-- After k updates a ramp from `level` toward `stop` at `slope` stands at the smaller of level + k × slope and
the end when it rises, and at the larger when it falls, and lands exactly at update ceil(d / slope). No operation of
the drive unit takes the load above what the level, the set in force and a waiting set span, a set that is staged
within a limit keeps the drive within it, and the clamp brings every current of a set to its limit, the smaller of
I_max and 1500 dA in LOW or 12000 dA in HIGH, and raises none;
so a claim that covers these currents goes on covering the load (R50, R72, R75, R76, R79, R80, R84, R120). -/
def Obligations.RampReachesItsEnd : Prop :=
  (∀ level stop slope k : Nat, 0 < slope →
    (level ≤ stop → (fun l => rampUpdate l stop slope)^[k] level = min (level + k * slope) stop)
    ∧ (stop ≤ level → (fun l => rampUpdate l stop slope)^[k] level = max (level - k * slope) stop)
    ∧ ((fun l => rampUpdate l stop slope)^[k] level = stop
        ↔ ceilDiv (if level ≤ stop then stop - level else level - stop) slope ≤ k))
  ∧ (∀ (d : Drive) (limit : Nat), d.Within limit →
    d.update.Within limit ∧ d.halt.Within limit ∧ d.tripDrop.Within limit ∧ d.immediateDrop.Within limit
      ∧ d.holdLevel.Within limit ∧ d.releaseStaged.Within limit ∧ d.endCycle.Within limit ∧ d.endDown.Within limit
      ∧ d.relayExpiry.Within limit ∧ d.winddownReleases.Within limit
      ∧ ∀ (g : GenSet) (req : Request), g.peak ≤ limit → (d.stage g req).Within limit)
  ∧ (∀ (iMax : Nat), clampLimit iMax .low = min iMax 1500 ∧ clampLimit iMax .high = min iMax 12000)
  ∧ (∀ (g : GenSet) (limit : Nat), (g.clamp limit).peak ≤ limit ∧ (g.clamp limit).peak ≤ g.peak
    ∧ (g.peak ≤ limit → (∀ target, g = .level target → target ≤ limit * 1000) → g.clamp limit = g))
  ∧ (∀ (d : Drive) (limit vNom claim : Nat), d.Within limit → claimOf limit vNom ≤ claim →
    claimOf (d.update.level / 1000) vNom ≤ claim)

/-! ## Invariants -/

/-- The result queue: from a queue of at most 32 records with at most 25 capture blocks, every step leaves one;
records leave from the head, one at a time and with a completed transaction, and join at the tail; only a reset
empties the queue otherwise; and the count shown in the status header and in STATUS is the number of records held
(R179). -/
def Obligations.QueueKeepsOrderAndBound : Prop :=
  (∀ s t : State, QueueOk s.queue → step s = .next t →
      QueueOk t.queue
        ∧ ((t.queue = [] ∧ ∃ i rest, s.pending = i :: rest ∧ i.resets)
          ∨ ∃ removed more, removed ≤ 1 ∧ t.queue = s.queue.drop removed ++ more
            ∧ (removed = 1 → ∃ bytes straps rest, s.pending = .transactionComplete bytes straps :: rest)))
  ∧ (∀ s t : State, exec .transactionBegin s = .next t →
      ∃ source frame, t.port.outgoing = some (source, frame) ∧ byteAt frame 5 = BitVec.ofNat 8 s.queue.length)
  ∧ (∀ s t : State, exec .status s = .next t →
      ∃ a p, t.port.answer = some a ∧ a.snapshot = some p ∧ p.queueCount = s.queue.length)

/-- Every step keeps the rest of the lines and the drive between walks: in IDLE and HELD, and from the WINDDOWN
releases on, the claim is 0, the census unit released, the commanded load 0 and the enables inactive, with nothing in
flight that could change them; before the releases the winddown ramp waits or runs; no unit is held in PAUSED; and at
every moment the commanded load is at most the walk's profile I_max (R20, R41, R50, R58, R76, R84). -/
def Obligations.LinesRestKept : Prop :=
  ∀ s t : State, s.LinesRest → step s = .next t → t.LinesRest

/-- The claim law and the clamp law: beside the invariant before, every step keeps the claim of the commanded load at
most the driven claim, and the commanded load within the maximum of the range in force, with what holds them up: the
claim covers also the set in force and a waiting set, the prior claim covers them in ADMIT and BACKOFF, and the step
claim is covered from the admission on (R49, R50, R51, R76, R78). -/
def Obligations.ClaimCoversLoad : Prop :=
  (∀ s : State, s.LoadCovered → claimOf (s.drive.level / 1000) s.engine.ratings.vNom ≤ s.bay.drivenClaim
      ∧ (s.drive.range = .low → s.drive.level / 1000 ≤ 1500) ∧ s.drive.level / 1000 ≤ 12000)
  ∧ ∀ s t : State, s.LinesRest → s.LoadCovered → step s = .next t → t.LoadCovered

/-- The three invariants hold after a reset (R43, R69, R89, R184). -/
def Obligations.InvariantsHoldAtReset : Prop :=
  QueueOk State.reset.queue ∧ State.reset.LinesRest ∧ State.reset.LoadCovered
end

