-- ==== Sys2Proof/Laws/State.lean ====
section
/-! SUPPORT. One lemma for each field and each update of a block of `State`, so that no proof unfolds a
record update. -/

namespace Sys2Proof.Machine

@[simp] theorem State.setPort_port (s : State) (x : Port) : (s.setPort x).port = x := (rfl)
@[simp] theorem State.setPort_store (s : State) (x : Port) : (s.setPort x).store = s.store := (rfl)
@[simp] theorem State.setPort_engine (s : State) (x : Port) : (s.setPort x).engine = s.engine := (rfl)
@[simp] theorem State.setPort_bay (s : State) (x : Port) : (s.setPort x).bay = s.bay := (rfl)
@[simp] theorem State.setPort_drive (s : State) (x : Port) : (s.setPort x).drive = s.drive := (rfl)
@[simp] theorem State.setPort_acq (s : State) (x : Port) : (s.setPort x).acq = s.acq := (rfl)
@[simp] theorem State.setPort_queue (s : State) (x : Port) : (s.setPort x).queue = s.queue := (rfl)
@[simp] theorem State.setPort_interlockOpen (s : State) (x : Port) : (s.setPort x).interlockOpen = s.interlockOpen := (rfl)
@[simp] theorem State.setPort_pending (s : State) (x : Port) : (s.setPort x).pending = s.pending := (rfl)
@[simp] theorem State.setPort_setPort (s : State) (x y : Port) : (s.setPort x).setPort y = s.setPort y := (rfl)
@[simp] theorem State.setPort_self (s : State) : s.setPort s.port = s := (rfl)

@[simp] theorem State.setStore_port (s : State) (x : PlanStore) : (s.setStore x).port = s.port := (rfl)
@[simp] theorem State.setStore_store (s : State) (x : PlanStore) : (s.setStore x).store = x := (rfl)
@[simp] theorem State.setStore_engine (s : State) (x : PlanStore) : (s.setStore x).engine = s.engine := (rfl)
@[simp] theorem State.setStore_bay (s : State) (x : PlanStore) : (s.setStore x).bay = s.bay := (rfl)
@[simp] theorem State.setStore_drive (s : State) (x : PlanStore) : (s.setStore x).drive = s.drive := (rfl)
@[simp] theorem State.setStore_acq (s : State) (x : PlanStore) : (s.setStore x).acq = s.acq := (rfl)
@[simp] theorem State.setStore_queue (s : State) (x : PlanStore) : (s.setStore x).queue = s.queue := (rfl)
@[simp] theorem State.setStore_interlockOpen (s : State) (x : PlanStore) : (s.setStore x).interlockOpen = s.interlockOpen := (rfl)
@[simp] theorem State.setStore_pending (s : State) (x : PlanStore) : (s.setStore x).pending = s.pending := (rfl)
@[simp] theorem State.setStore_setStore (s : State) (x y : PlanStore) : (s.setStore x).setStore y = s.setStore y := (rfl)
@[simp] theorem State.setStore_self (s : State) : s.setStore s.store = s := (rfl)

@[simp] theorem State.setEngine_port (s : State) (x : Engine) : (s.setEngine x).port = s.port := (rfl)
@[simp] theorem State.setEngine_store (s : State) (x : Engine) : (s.setEngine x).store = s.store := (rfl)
@[simp] theorem State.setEngine_engine (s : State) (x : Engine) : (s.setEngine x).engine = x := (rfl)
@[simp] theorem State.setEngine_bay (s : State) (x : Engine) : (s.setEngine x).bay = s.bay := (rfl)
@[simp] theorem State.setEngine_drive (s : State) (x : Engine) : (s.setEngine x).drive = s.drive := (rfl)
@[simp] theorem State.setEngine_acq (s : State) (x : Engine) : (s.setEngine x).acq = s.acq := (rfl)
@[simp] theorem State.setEngine_queue (s : State) (x : Engine) : (s.setEngine x).queue = s.queue := (rfl)
@[simp] theorem State.setEngine_interlockOpen (s : State) (x : Engine) : (s.setEngine x).interlockOpen = s.interlockOpen := (rfl)
@[simp] theorem State.setEngine_pending (s : State) (x : Engine) : (s.setEngine x).pending = s.pending := (rfl)
@[simp] theorem State.setEngine_setEngine (s : State) (x y : Engine) : (s.setEngine x).setEngine y = s.setEngine y := (rfl)
@[simp] theorem State.setEngine_self (s : State) : s.setEngine s.engine = s := (rfl)

@[simp] theorem State.setBay_port (s : State) (x : Bay) : (s.setBay x).port = s.port := (rfl)
@[simp] theorem State.setBay_store (s : State) (x : Bay) : (s.setBay x).store = s.store := (rfl)
@[simp] theorem State.setBay_engine (s : State) (x : Bay) : (s.setBay x).engine = s.engine := (rfl)
@[simp] theorem State.setBay_bay (s : State) (x : Bay) : (s.setBay x).bay = x := (rfl)
@[simp] theorem State.setBay_drive (s : State) (x : Bay) : (s.setBay x).drive = s.drive := (rfl)
@[simp] theorem State.setBay_acq (s : State) (x : Bay) : (s.setBay x).acq = s.acq := (rfl)
@[simp] theorem State.setBay_queue (s : State) (x : Bay) : (s.setBay x).queue = s.queue := (rfl)
@[simp] theorem State.setBay_interlockOpen (s : State) (x : Bay) : (s.setBay x).interlockOpen = s.interlockOpen := (rfl)
@[simp] theorem State.setBay_pending (s : State) (x : Bay) : (s.setBay x).pending = s.pending := (rfl)
@[simp] theorem State.setBay_setBay (s : State) (x y : Bay) : (s.setBay x).setBay y = s.setBay y := (rfl)
@[simp] theorem State.setBay_self (s : State) : s.setBay s.bay = s := (rfl)

@[simp] theorem State.setDrive_port (s : State) (x : Drive) : (s.setDrive x).port = s.port := (rfl)
@[simp] theorem State.setDrive_store (s : State) (x : Drive) : (s.setDrive x).store = s.store := (rfl)
@[simp] theorem State.setDrive_engine (s : State) (x : Drive) : (s.setDrive x).engine = s.engine := (rfl)
@[simp] theorem State.setDrive_bay (s : State) (x : Drive) : (s.setDrive x).bay = s.bay := (rfl)
@[simp] theorem State.setDrive_drive (s : State) (x : Drive) : (s.setDrive x).drive = x := (rfl)
@[simp] theorem State.setDrive_acq (s : State) (x : Drive) : (s.setDrive x).acq = s.acq := (rfl)
@[simp] theorem State.setDrive_queue (s : State) (x : Drive) : (s.setDrive x).queue = s.queue := (rfl)
@[simp] theorem State.setDrive_interlockOpen (s : State) (x : Drive) : (s.setDrive x).interlockOpen = s.interlockOpen := (rfl)
@[simp] theorem State.setDrive_pending (s : State) (x : Drive) : (s.setDrive x).pending = s.pending := (rfl)
@[simp] theorem State.setDrive_setDrive (s : State) (x y : Drive) : (s.setDrive x).setDrive y = s.setDrive y := (rfl)
@[simp] theorem State.setDrive_self (s : State) : s.setDrive s.drive = s := (rfl)

@[simp] theorem State.setAcq_port (s : State) (x : Acquisition) : (s.setAcq x).port = s.port := (rfl)
@[simp] theorem State.setAcq_store (s : State) (x : Acquisition) : (s.setAcq x).store = s.store := (rfl)
@[simp] theorem State.setAcq_engine (s : State) (x : Acquisition) : (s.setAcq x).engine = s.engine := (rfl)
@[simp] theorem State.setAcq_bay (s : State) (x : Acquisition) : (s.setAcq x).bay = s.bay := (rfl)
@[simp] theorem State.setAcq_drive (s : State) (x : Acquisition) : (s.setAcq x).drive = s.drive := (rfl)
@[simp] theorem State.setAcq_acq (s : State) (x : Acquisition) : (s.setAcq x).acq = x := (rfl)
@[simp] theorem State.setAcq_queue (s : State) (x : Acquisition) : (s.setAcq x).queue = s.queue := (rfl)
@[simp] theorem State.setAcq_interlockOpen (s : State) (x : Acquisition) : (s.setAcq x).interlockOpen = s.interlockOpen := (rfl)
@[simp] theorem State.setAcq_pending (s : State) (x : Acquisition) : (s.setAcq x).pending = s.pending := (rfl)
@[simp] theorem State.setAcq_setAcq (s : State) (x y : Acquisition) : (s.setAcq x).setAcq y = s.setAcq y := (rfl)
@[simp] theorem State.setAcq_self (s : State) : s.setAcq s.acq = s := (rfl)

@[simp] theorem State.setQueue_port (s : State) (x : List Record) : (s.setQueue x).port = s.port := (rfl)
@[simp] theorem State.setQueue_store (s : State) (x : List Record) : (s.setQueue x).store = s.store := (rfl)
@[simp] theorem State.setQueue_engine (s : State) (x : List Record) : (s.setQueue x).engine = s.engine := (rfl)
@[simp] theorem State.setQueue_bay (s : State) (x : List Record) : (s.setQueue x).bay = s.bay := (rfl)
@[simp] theorem State.setQueue_drive (s : State) (x : List Record) : (s.setQueue x).drive = s.drive := (rfl)
@[simp] theorem State.setQueue_acq (s : State) (x : List Record) : (s.setQueue x).acq = s.acq := (rfl)
@[simp] theorem State.setQueue_queue (s : State) (x : List Record) : (s.setQueue x).queue = x := (rfl)
@[simp] theorem State.setQueue_interlockOpen (s : State) (x : List Record) : (s.setQueue x).interlockOpen = s.interlockOpen := (rfl)
@[simp] theorem State.setQueue_pending (s : State) (x : List Record) : (s.setQueue x).pending = s.pending := (rfl)
@[simp] theorem State.setQueue_setQueue (s : State) (x y : List Record) : (s.setQueue x).setQueue y = s.setQueue y := (rfl)
@[simp] theorem State.setQueue_self (s : State) : s.setQueue s.queue = s := (rfl)

@[simp] theorem State.setInterlock_port (s : State) (x : Bool) : (s.setInterlock x).port = s.port := (rfl)
@[simp] theorem State.setInterlock_store (s : State) (x : Bool) : (s.setInterlock x).store = s.store := (rfl)
@[simp] theorem State.setInterlock_engine (s : State) (x : Bool) : (s.setInterlock x).engine = s.engine := (rfl)
@[simp] theorem State.setInterlock_bay (s : State) (x : Bool) : (s.setInterlock x).bay = s.bay := (rfl)
@[simp] theorem State.setInterlock_drive (s : State) (x : Bool) : (s.setInterlock x).drive = s.drive := (rfl)
@[simp] theorem State.setInterlock_acq (s : State) (x : Bool) : (s.setInterlock x).acq = s.acq := (rfl)
@[simp] theorem State.setInterlock_queue (s : State) (x : Bool) : (s.setInterlock x).queue = s.queue := (rfl)
@[simp] theorem State.setInterlock_interlockOpen (s : State) (x : Bool) : (s.setInterlock x).interlockOpen = x := (rfl)
@[simp] theorem State.setInterlock_pending (s : State) (x : Bool) : (s.setInterlock x).pending = s.pending := (rfl)
@[simp] theorem State.setInterlock_setInterlock (s : State) (x y : Bool) : (s.setInterlock x).setInterlock y = s.setInterlock y := (rfl)
@[simp] theorem State.setInterlock_self (s : State) : s.setInterlock s.interlockOpen = s := (rfl)

@[simp] theorem State.setPending_port (s : State) (x : List Instr) : (s.setPending x).port = s.port := (rfl)
@[simp] theorem State.setPending_store (s : State) (x : List Instr) : (s.setPending x).store = s.store := (rfl)
@[simp] theorem State.setPending_engine (s : State) (x : List Instr) : (s.setPending x).engine = s.engine := (rfl)
@[simp] theorem State.setPending_bay (s : State) (x : List Instr) : (s.setPending x).bay = s.bay := (rfl)
@[simp] theorem State.setPending_drive (s : State) (x : List Instr) : (s.setPending x).drive = s.drive := (rfl)
@[simp] theorem State.setPending_acq (s : State) (x : List Instr) : (s.setPending x).acq = s.acq := (rfl)
@[simp] theorem State.setPending_queue (s : State) (x : List Instr) : (s.setPending x).queue = s.queue := (rfl)
@[simp] theorem State.setPending_interlockOpen (s : State) (x : List Instr) : (s.setPending x).interlockOpen = s.interlockOpen := (rfl)
@[simp] theorem State.setPending_pending (s : State) (x : List Instr) : (s.setPending x).pending = x := (rfl)
@[simp] theorem State.setPending_setPending (s : State) (x y : List Instr) : (s.setPending x).setPending y = s.setPending y := (rfl)
@[simp] theorem State.setPending_self (s : State) : s.setPending s.pending = s := (rfl)

/-- A state is the sum of its blocks. -/
theorem State.ext_blocks {s t : State} (hp : s.port = t.port) (hs : s.store = t.store)
    (he : s.engine = t.engine) (hb : s.bay = t.bay) (hd : s.drive = t.drive) (ha : s.acq = t.acq)
    (hq : s.queue = t.queue) (hi : s.interlockOpen = t.interlockOpen) (hn : s.pending = t.pending) : s = t := by
  cases s; cases t; simp_all

end Sys2Proof.Machine
end

