-- ==== Sys2Proof/Laws/Outer.lean ====
section
/-! SUPPORT. What every shared operation of the walk leaves alone: `outer` (port, plan store, interlock
input, waiting commands) for all of them, and the result queue for those that offer nothing. -/

namespace Sys2Proof.Machine

@[simp] theorem State.setEngine_outer (s : State) (x : Engine) : (s.setEngine x).outer = s.outer := (rfl)
@[simp] theorem State.setBay_outer (s : State) (x : Bay) : (s.setBay x).outer = s.outer := (rfl)
@[simp] theorem State.setDrive_outer (s : State) (x : Drive) : (s.setDrive x).outer = s.outer := (rfl)
@[simp] theorem State.setAcq_outer (s : State) (x : Acquisition) : (s.setAcq x).outer = s.outer := (rfl)
@[simp] theorem State.setQueue_outer (s : State) (x : List Record) : (s.setQueue x).outer = s.outer := (rfl)

/-- Equal outer parts, block by block. -/
theorem State.outer_eq {s t : State} (h : t.outer = s.outer) :
    t.port = s.port ∧ t.store = s.store ∧ t.interlockOpen = s.interlockOpen ∧ t.pending = s.pending := by
  simpa [State.outer] using h

@[simp] theorem State.mapStep_outer (s : State) (f : StepContext → StepContext) : (s.mapStep f).outer = s.outer := by
  simp [State.mapStep]

@[simp] theorem State.mapStep_queue (s : State) (f : StepContext → StepContext) : (s.mapStep f).queue = s.queue := by
  simp [State.mapStep]

@[simp] theorem State.setPhase_outer (s : State) (p : Phase) : (s.setPhase p).outer = s.outer := by
  simp [State.setPhase]

@[simp] theorem State.setPhase_queue (s : State) (p : Phase) : (s.setPhase p).queue = s.queue := by
  simp [State.setPhase]

@[simp] theorem State.contribute_outer (s : State) (vs : List Verdict) : (s.contribute vs).outer = s.outer := by
  simp [State.contribute]

@[simp] theorem State.contribute_queue (s : State) (vs : List Verdict) : (s.contribute vs).queue = s.queue := by
  simp [State.contribute]

@[simp] theorem State.mapFigures_outer (s : State) (f : Figures → Figures) : (s.mapFigures f).outer = s.outer := by
  simp [State.mapFigures]

@[simp] theorem State.mapFigures_queue (s : State) (f : Figures → Figures) : (s.mapFigures f).queue = s.queue := by
  simp [State.mapFigures]

@[simp] theorem State.setStage_outer (s : State) (b : BodyStage) : (s.setStage b).outer = s.outer := by
  simp [State.setStage]

@[simp] theorem State.setStage_queue (s : State) (b : BodyStage) : (s.setStage b).queue = s.queue := by
  simp [State.setStage]

@[simp] theorem State.setCapture_outer (s : State) (c : Capture) : (s.setCapture c).outer = s.outer := by
  simp [State.setCapture]

@[simp] theorem State.setCapture_queue (s : State) (c : Capture) : (s.setCapture c).queue = s.queue := by
  simp [State.setCapture]

@[simp] theorem State.setLine_outer (s : State) (v : Nat) : (s.setLine v).outer = s.outer := by
  unfold State.setLine; split <;> simp

@[simp] theorem State.setLine_queue (s : State) (v : Nat) : (s.setLine v).queue = s.queue := by
  unfold State.setLine; split <;> simp

@[simp] theorem State.stageStep_outer (s : State) (g : GenSet) (r : Request) : (s.stageStep g r).outer = s.outer := by
  simp [State.stageStep]

@[simp] theorem State.stageStep_queue (s : State) (g : GenSet) (r : Request) : (s.stageStep g r).queue = s.queue := by
  simp [State.stageStep]

@[simp] theorem State.startCapture_outer (s : State) : (s.startCapture).outer = s.outer := by
  unfold State.startCapture; split <;> simp

@[simp] theorem State.startCapture_queue (s : State) : (s.startCapture).queue = s.queue := by
  unfold State.startCapture; split <;> simp

@[simp] theorem State.offer_outer (s : State) (r : StepLevel) : (s.offer r).outer = s.outer := by
  simp [State.offer]

@[simp] theorem State.offer_queue (s : State) (r : StepLevel) : (s.offer r).queue = s.queue := by
  simp [State.offer]

@[simp] theorem State.evaluateWindow_outer (s : State) : (s.evaluateWindow).outer = s.outer := by
  simp [State.evaluateWindow]

@[simp] theorem State.evaluateWindow_queue (s : State) : (s.evaluateWindow).queue = s.queue := by
  simp [State.evaluateWindow]

@[simp] theorem State.closeCounting_outer (s : State) : (s.closeCounting).outer = s.outer := by
  simp [State.closeCounting]

@[simp] theorem State.closeCounting_queue (s : State) : (s.closeCounting).queue = s.queue := by
  simp [State.closeCounting]

@[simp] theorem State.closeWindow_outer (s : State) : (s.closeWindow).outer = s.outer := by
  unfold State.closeWindow; split <;> simp

@[simp] theorem State.closeWindow_queue (s : State) : (s.closeWindow).queue = s.queue := by
  unfold State.closeWindow; split <;> simp

@[simp] theorem State.endUnit_outer (s : State) (c : EndCause) : (s.endUnit c).outer = s.outer := by
  unfold State.endUnit; dsimp only; split <;> simp

@[simp] theorem State.endUnit_queue (s : State) (c : EndCause) : (s.endUnit c).queue = s.queue := by
  unfold State.endUnit; dsimp only; split <;> simp

@[simp] theorem State.tripDrop_outer (s : State) : (s.tripDrop).outer = s.outer := by
  simp [State.tripDrop]

@[simp] theorem State.tripDrop_queue (s : State) : (s.tripDrop).queue = s.queue := by
  simp [State.tripDrop]

@[simp] theorem State.enterApply_outer (s : State) : (s.enterApply).outer = s.outer := by
  unfold State.enterApply; dsimp only; split <;> simp

@[simp] theorem State.enterApply_queue (s : State) : (s.enterApply).queue = s.queue := by
  unfold State.enterApply; dsimp only; split <;> simp

@[simp] theorem State.openWindow_outer (s : State) (m : WindowMode) (n : Nat) (cs : List CheckChannel) : (s.openWindow m n cs).outer = s.outer := by
  simp [State.openWindow]

@[simp] theorem State.openWindow_queue (s : State) (m : WindowMode) (n : Nat) (cs : List CheckChannel) : (s.openWindow m n cs).queue = s.queue := by
  simp [State.openWindow]

@[simp] theorem State.armDetectors_outer (s : State) : (s.armDetectors).outer = s.outer := by
  simp [State.armDetectors]

@[simp] theorem State.armDetectors_queue (s : State) : (s.armDetectors).queue = s.queue := by
  simp [State.armDetectors]

@[simp] theorem State.armTripDetectors_outer (s : State) (d : Detect) (n : Nat) : (s.armTripDetectors d n).outer = s.outer := by
  simp [State.armTripDetectors]

@[simp] theorem State.armTripDetectors_queue (s : State) (d : Detect) (n : Nat) : (s.armTripDetectors d n).queue = s.queue := by
  simp [State.armTripDetectors]

@[simp] theorem State.beginRegulationWait_outer (s : State) : (s.beginRegulationWait).outer = s.outer := by
  simp [State.beginRegulationWait]

@[simp] theorem State.beginRegulationWait_queue (s : State) : (s.beginRegulationWait).queue = s.queue := by
  simp [State.beginRegulationWait]

@[simp] theorem State.openDropoutWindow_outer (s : State) : (s.openDropoutWindow).outer = s.outer := by
  simp [State.openDropoutWindow]

@[simp] theorem State.openDropoutWindow_queue (s : State) : (s.openDropoutWindow).queue = s.queue := by
  simp [State.openDropoutWindow]

@[simp] theorem State.startBody_outer (s : State) : (s.startBody).outer = s.outer := by
  unfold State.startBody; dsimp only; (repeat' split) <;> simp

@[simp] theorem State.startBody_queue (s : State) : (s.startBody).queue = s.queue := by
  unfold State.startBody; dsimp only; (repeat' split) <;> simp

@[simp] theorem State.enterBody_outer (s : State) : (s.enterBody).outer = s.outer := by
  simp [State.enterBody]

@[simp] theorem State.enterBody_queue (s : State) : (s.enterBody).queue = s.queue := by
  simp [State.enterBody]

@[simp] theorem State.enterGate_outer (s : State) : (s.enterGate).outer = s.outer := by
  simp [State.enterGate]

@[simp] theorem State.enterGate_queue (s : State) : (s.enterGate).queue = s.queue := by
  simp [State.enterGate]

@[simp] theorem State.admitted_outer (s : State) : (s.admitted).outer = s.outer := by
  unfold State.admitted; dsimp only; split <;> simp

@[simp] theorem State.admitted_queue (s : State) : (s.admitted).queue = s.queue := by
  unfold State.admitted; dsimp only; split <;> simp

@[simp] theorem State.beginAttempt_outer (s : State) : (s.beginAttempt).outer = s.outer := by
  simp [State.beginAttempt]

@[simp] theorem State.beginAttempt_queue (s : State) : (s.beginAttempt).queue = s.queue := by
  simp [State.beginAttempt]

@[simp] theorem State.beginStep_outer (s : State) (n : Nat) : (s.beginStep n).outer = s.outer := by
  simp [State.beginStep]

@[simp] theorem State.beginStep_queue (s : State) (n : Nat) : (s.beginStep n).queue = s.queue := by
  simp [State.beginStep]

@[simp] theorem State.offerSummary_outer (s : State) : (s.offerSummary).outer = s.outer := by
  unfold State.offerSummary; split <;> simp

@[simp] theorem State.offerSummary_queue (s : State) : (s.offerSummary).queue = s.queue := by
  unfold State.offerSummary; split <;> simp

@[simp] theorem State.enterWinddown_outer (s : State) (r : Reason) : (s.enterWinddown r).outer = s.outer := by
  simp [State.enterWinddown]

@[simp] theorem State.enterWinddown_queue (s : State) (r : Reason) : (s.enterWinddown r).queue = s.queue := by
  simp [State.enterWinddown]

@[simp] theorem State.makeReleases_outer (s : State) : (s.makeReleases).outer = s.outer := by
  simp [State.makeReleases]

@[simp] theorem State.makeReleases_queue (s : State) : (s.makeReleases).queue = s.queue := by
  simp [State.makeReleases]

@[simp] theorem State.takePause_outer (s : State) (n : Nat) : (s.takePause n).outer = s.outer := by
  simp [State.takePause]

@[simp] theorem State.takePause_queue (s : State) (n : Nat) : (s.takePause n).queue = s.queue := by
  simp [State.takePause]

@[simp] theorem State.swapTo_outer (s : State) (p : Page) : (s.swapTo p).outer = s.outer := by
  simp [State.swapTo]

@[simp] theorem State.swapTo_queue (s : State) (p : Page) : (s.swapTo p).queue = s.queue := by
  simp [State.swapTo]

@[simp] theorem State.compareRest_outer (s : State) : (s.compareRest).outer = s.outer := by
  unfold State.compareRest; (repeat' split) <;> simp

@[simp] theorem State.compareRest_queue (s : State) : (s.compareRest).queue = s.queue := by
  unfold State.compareRest; (repeat' split) <;> simp

@[simp] theorem State.reachRest_outer (s : State) : (s.reachRest).outer = s.outer := by
  simp [State.reachRest]

@[simp] theorem State.reachRest_queue (s : State) : (s.reachRest).queue = s.queue := by
  simp [State.reachRest]

@[simp] theorem State.enterPageWait_outer (s : State) : (s.enterPageWait).outer = s.outer := by
  simp [State.enterPageWait]

@[simp] theorem State.enterPageWait_queue (s : State) : (s.enterPageWait).queue = s.queue := by
  simp [State.enterPageWait]

@[simp] theorem State.pageEnd_outer (s : State) : (s.pageEnd).outer = s.outer := by
  unfold State.pageEnd; split <;> simp

@[simp] theorem State.pageEnd_queue (s : State) : (s.pageEnd).queue = s.queue := by
  unfold State.pageEnd; split <;> simp

@[simp] theorem State.afterSummary_outer (s : State) (w : WalkSummary) : (s.afterSummary w).outer = s.outer := by
  simp [State.afterSummary]

@[simp] theorem State.afterSummary_queue (s : State) (w : WalkSummary) : (s.afterSummary w).queue = s.queue := by
  simp [State.afterSummary]

@[simp] theorem State.stageReturn_outer (s : State) : (s.stageReturn).outer = s.outer := by
  simp [State.stageReturn]

@[simp] theorem State.stageReturn_queue (s : State) : (s.stageReturn).queue = s.queue := by
  simp [State.stageReturn]

@[simp] theorem State.evaluateDropout_outer (s : State) : (s.evaluateDropout).outer = s.outer := by
  unfold State.evaluateDropout; split <;> simp

@[simp] theorem State.evaluateDropout_queue (s : State) : (s.evaluateDropout).queue = s.queue := by
  unfold State.evaluateDropout; split <;> simp

@[simp] theorem State.evaluateAtTrip_outer (s : State) : (s.evaluateAtTrip).outer = s.outer := by
  unfold State.evaluateAtTrip; split <;> simp

@[simp] theorem State.evaluateAtTrip_queue (s : State) : (s.evaluateAtTrip).queue = s.queue := by
  unfold State.evaluateAtTrip; split <;> simp

@[simp] theorem State.stopStep_outer (s : State) : (s.stopStep).outer = s.outer := by
  unfold State.stopStep; split <;> simp

@[simp] theorem State.stopStep_queue (s : State) : (s.stopStep).queue = s.queue := by
  unfold State.stopStep; split <;> simp

@[simp] theorem State.dropAll_outer (s : State) : (s.dropAll).outer = s.outer := by
  simp [State.dropAll]

@[simp] theorem State.dropAll_queue (s : State) : (s.dropAll).queue = s.queue := by
  simp [State.dropAll]

@[simp] theorem State.interlockInWinddown_outer (s : State) : (s.interlockInWinddown).outer = s.outer := by
  unfold State.interlockInWinddown; dsimp only; (repeat' split) <;> simp

@[simp] theorem State.interlockInWinddown_queue (s : State) : (s.interlockInWinddown).queue = s.queue := by
  unfold State.interlockInWinddown; dsimp only; (repeat' split) <;> simp

@[simp] theorem State.takeRegulation_outer (s : State) : (s.takeRegulation).outer = s.outer := by
  unfold State.takeRegulation; split <;> simp

@[simp] theorem State.takeRegulation_queue (s : State) : (s.takeRegulation).queue = s.queue := by
  unfold State.takeRegulation; split <;> simp

@[simp] theorem State.endWait_outer (s : State) : (s.endWait).outer = s.outer := by
  simp [State.endWait]

@[simp] theorem State.endWait_queue (s : State) : (s.endWait).queue = s.queue := by
  simp [State.endWait]

end Sys2Proof.Machine
end

