-- ==== Sys2Proof/Laws/Queue.lean ====
section
/-! SUPPORT. How the operations that offer records change the result queue: they only add at its tail, and
keep its bound (R179); and they leave `outer` alone. -/

namespace Sys2Proof.Machine

/-- From one queue to another, records were only added at the tail, and the bound was kept. -/
def QueueGrows (q r : List Record) : Prop := q <+: r ∧ (QueueOk q → QueueOk r)

theorem QueueGrows.refl (q : List Record) : QueueGrows q q := ⟨List.prefix_refl q, id⟩

theorem QueueGrows.trans {p q r : List Record} (h : QueueGrows p q) (k : QueueGrows q r) : QueueGrows p r :=
  ⟨h.1.trans k.1, fun x => k.2 (h.2 x)⟩

/-- A capture block joins a queue with at least 8 free entries. -/
theorem QueueGrows.block {q r : List Record} (h : QueueGrows q r) (b : CaptureBlock)
    (free : Config.captureReserve ≤ Config.queueDepth - r.length) : QueueGrows q (r ++ [.captureBlock b]) := by
  refine h.trans ⟨List.prefix_append _ _, fun ok => ?_⟩
  have count := List.countP_le_length (p := Record.isBlock) (l := r)
  simp only [Config.captureReserve, Config.queueDepth] at free
  simp only [QueueOk, List.length_append, List.countP_append, List.length_singleton,
    List.countP_singleton, Record.isBlock] at ok ⊢
  simp only [if_true]
  omega

/-- A step-level record joins a queue that has a free entry. -/
theorem QueueGrows.record {q r : List Record} (h : QueueGrows q r) (x : StepLevel)
    (free : r.length < Config.queueDepth) : QueueGrows q (r ++ [.stepLevel x]) := by
  refine h.trans ⟨List.prefix_append _ _, fun ok => ?_⟩
  simp only [Config.queueDepth] at free
  simp only [QueueOk, List.length_append, List.countP_append, List.length_singleton,
    List.countP_singleton, Record.isBlock] at ok ⊢
  simp only [Bool.false_eq_true, if_false]
  omega

@[simp] theorem State.offerBlock_outer (s : State) : s.offerBlock.outer = s.outer := by
  unfold State.offerBlock; dsimp only; split <;> simp

theorem State.offerBlock_grows {q : List Record} {s : State} (h : QueueGrows q s.queue) :
    QueueGrows q s.offerBlock.queue := by
  unfold State.offerBlock
  dsimp only
  split
  · simpa using h.block s.blockInFill (by assumption)
  · simpa using h

@[simp] theorem State.offerPairs_outer (l : List RawSample) (s : State) :
    (State.offerPairs l s).outer = s.outer := by
  induction l generalizing s with
  | nil => rfl
  | cons p l ih => simp only [State.offerPairs, ih]; split <;> simp

theorem State.offerPairs_grows {q : List Record} (l : List RawSample) {s : State} (h : QueueGrows q s.queue) :
    QueueGrows q (State.offerPairs l s).queue := by
  induction l generalizing s with
  | nil => exact h
  | cons p l ih =>
    simp only [State.offerPairs]
    apply ih
    split
    · exact State.offerBlock_grows (by simpa using h)
    · simpa using h

@[simp] theorem State.finishCapture_outer (s : State) : (s.finishCapture).outer = s.outer := by
  unfold State.finishCapture; (repeat' split) <;> simp

@[simp] theorem State.startTripCapture_outer (s : State) : (s.startTripCapture).outer = s.outer := by
  unfold State.startTripCapture; split <;> simp

@[simp] theorem State.endStep_outer (s : State) (c : EndCause) (vs : List Verdict) : (s.endStep c vs).outer = s.outer := by
  unfold State.endStep; dsimp only; (repeat' split) <;> simp

@[simp] theorem State.endBody_outer (s : State) : (s.endBody).outer = s.outer := by
  unfold State.endBody; split <;> simp

@[simp] theorem State.enterAdmit_outer (s : State) (n : Nat) : (s.enterAdmit n).outer = s.outer := by
  unfold State.enterAdmit; dsimp only; (repeat' split) <;> simp

@[simp] theorem State.boundary_outer (s : State) (n : Nat) : (s.boundary n).outer = s.outer := by
  unfold State.boundary; split <;> simp

@[simp] theorem State.branch_outer (s : State) (v : Verdict) (r : StepRecord) : (s.branch v r).outer = s.outer := by
  unfold State.branch; dsimp only; (repeat' split) <;> simp

@[simp] theorem State.afterStepResult_outer (s : State) (r : StepResult) : (s.afterStepResult r).outer = s.outer := by
  unfold State.afterStepResult; dsimp only; split <;> simp

@[simp] theorem State.afterPageSwap_outer (s : State) : (s.afterPageSwap).outer = s.outer := by
  unfold State.afterPageSwap; dsimp only; (repeat' split) <;> simp

@[simp] theorem State.afterPlaced_outer (s : State) (r : StepLevel) : (s.afterPlaced r).outer = s.outer := by
  unfold State.afterPlaced; split <;> simp

@[simp] theorem State.placeRecords_outer (n : Nat) (s : State) : (State.placeRecords n s).outer = s.outer := by
  induction n generalizing s with
  | zero => rfl
  | succ n ih =>
    unfold State.placeRecords
    split
    · split
      · simp [ih]
      · rfl
    · rfl

@[simp] theorem State.goOn_outer (s : State) : (s.goOn).outer = s.outer := by
  simp [State.goOn]

@[simp] theorem State.derateFigures_outer (s : State) (a : Nat) (b : Option Nat) (i j k l m n : Nat) : (s.derateFigures a b i j k l m n).outer = s.outer := by
  unfold State.derateFigures; split <;> simp

@[simp] theorem State.endKneeRamp_outer (s : State) (vs : List Verdict) : (s.endKneeRamp vs).outer = s.outer := by
  simp [State.endKneeRamp]

@[simp] theorem State.knee_outer (s : State) : (s.knee).outer = s.outer := by
  unfold State.knee; split <;> simp

@[simp] theorem State.windowDone_outer (s : State) : (s.windowDone).outer = s.outer := by
  unfold State.windowDone; dsimp only; split <;> simp

@[simp] theorem State.endSpanStep_outer (s : State) : (s.endSpanStep).outer = s.outer := by
  simp [State.endSpanStep]

@[simp] theorem State.judgeDropout_outer (s : State) (n : Nat) : (s.judgeDropout n).outer = s.outer := by
  simp [State.judgeDropout]

@[simp] theorem State.tripExit_outer (s : State) : (s.tripExit).outer = s.outer := by
  unfold State.tripExit; dsimp only; split <;> simp

@[simp] theorem State.takeOwnTrip_outer (s : State) (t : Trip) (c : StepContext) : (s.takeOwnTrip t c).outer = s.outer := by
  simp [State.takeOwnTrip]

@[simp] theorem State.takeLateTrip_outer (s : State) (t : Trip) : (s.takeLateTrip t).outer = s.outer := by
  simp [State.takeLateTrip]

@[simp] theorem State.takeDropoutTrip_outer (s : State) (t : Trip) (o : Option TripSpan) : (s.takeDropoutTrip t o).outer = s.outer := by
  simp [State.takeDropoutTrip]

@[simp] theorem State.takeUnexpectedTrip_outer (s : State) (t : Trip) (b : Bool) :
    (s.takeUnexpectedTrip t b).outer = s.outer := by
  unfold State.takeUnexpectedTrip; dsimp only; split <;> simp

@[simp] theorem State.deliverTrip_outer (s : State) : (s.deliverTrip).outer = s.outer := by
  unfold State.deliverTrip; dsimp only; (repeat' split) <;> simp

@[simp] theorem State.deliverFound_outer (s : State) : (s.deliverFound).outer = s.outer := by
  unfold State.deliverFound; split <;> simp

@[simp] theorem State.checkSettle_outer (s : State) : (s.checkSettle).outer = s.outer := by
  unfold State.checkSettle; (repeat' split) <;> simp

@[simp] theorem State.completeApply_outer (s : State) : (s.completeApply).outer = s.outer := by
  simp [State.completeApply]

@[simp] theorem State.setEndInBody_outer (s : State) : (s.setEndInBody).outer = s.outer := by
  unfold State.setEndInBody; (repeat' split) <;> simp

@[simp] theorem State.setEndInExit_outer (s : State) : (s.setEndInExit).outer = s.outer := by
  unfold State.setEndInExit; (repeat' split) <;> simp

@[simp] theorem State.takeSetEnd_outer (s : State) : (s.takeSetEnd).outer = s.outer := by
  unfold State.takeSetEnd; (repeat' split) <;> simp

@[simp] theorem State.reportSetEnd_outer (s : State) : (s.reportSetEnd).outer = s.outer := by
  simp [State.reportSetEnd]

@[simp] theorem State.expireStep_outer (s : State) : (s.expireStep).outer = s.outer := by
  simp [State.expireStep]

@[simp] theorem State.abortStep_outer (s : State) : (s.abortStep).outer = s.outer := by
  simp [State.abortStep]

@[simp] theorem State.interlockWalk_outer (s : State) : (s.interlockWalk).outer = s.outer := by
  unfold State.interlockWalk; dsimp only; (repeat' split) <;> simp

@[simp] theorem State.takeBlockOffer_outer (s : State) : (s.takeBlockOffer).outer = s.outer := by
  unfold State.takeBlockOffer; dsimp only; (repeat' split) <;> simp

@[simp] theorem State.decideAdmission_outer (s : State) : (s.decideAdmission).outer = s.outer := by
  unfold State.decideAdmission; (repeat' split) <;> simp

@[simp] theorem State.decideGate_outer (s : State) : (s.decideGate).outer = s.outer := by
  unfold State.decideGate; dsimp only; (repeat' split) <;> simp

@[simp] theorem State.takeCycleEnd_outer (s : State) : (s.takeCycleEnd).outer = s.outer := by
  unfold State.takeCycleEnd; split <;> simp

@[simp] theorem State.takeRelayExpiry_outer (s : State) : (s.takeRelayExpiry).outer = s.outer := by
  unfold State.takeRelayExpiry; dsimp only; split <;> simp

@[simp] theorem State.takeCouplingEnd_outer (s : State) : (s.takeCouplingEnd).outer = s.outer := by
  unfold State.takeCouplingEnd; dsimp only; (repeat' split) <;> simp

@[simp] theorem State.startWalk_outer (s : State) (w : WalkHeader) : (s.startWalk w).outer = s.outer := by
  simp [State.startWalk]

@[simp] theorem State.abortRunning_outer (s : State) : (s.abortRunning).outer = s.outer := by
  unfold State.abortRunning; split <;> simp

@[simp] theorem State.armInPageWait_outer (s : State) : (s.armInPageWait).outer = s.outer := by
  simp [State.armInPageWait]

theorem State.placeRecords_grows {q : List Record} (n : Nat) {s : State} (h : QueueGrows q s.queue)
    (after : ∀ (u : State) (r : StepLevel), QueueGrows q u.queue → QueueGrows q (u.afterPlaced r).queue) :
    QueueGrows q (State.placeRecords n s).queue := by
  induction n generalizing s with
  | zero => exact h
  | succ n ih =>
    unfold State.placeRecords
    split
    · split
      · apply ih
        apply after
        simpa using h.record _ (by assumption)
      · exact h
    · exact h

theorem State.finishCapture_grows {q : List Record} {s : State} (h : QueueGrows q s.queue) :
    QueueGrows q (s.finishCapture).queue := by
  unfold State.finishCapture; dsimp only
  (repeat' split) <;> (repeat' first | (with_reducible first | exact h | apply State.offerBlock_grows) | (simp; done) | (simp; with_reducible first | apply State.offerBlock_grows))
  simpa using h

theorem State.startTripCapture_grows {q : List Record} {s : State} (h : QueueGrows q s.queue) :
    QueueGrows q (s.startTripCapture).queue := by
  unfold State.startTripCapture; split <;> (repeat' with_reducible first | exact h | apply State.offerPairs_grows)
  simpa using h

theorem State.endStep_grows {q : List Record} {s : State} (c : EndCause) (vs : List Verdict) (h : QueueGrows q s.queue) :
    QueueGrows q (s.endStep c vs).queue := by
  unfold State.endStep; dsimp only
  (repeat' split) <;> (repeat' first | (with_reducible first | exact h | apply State.finishCapture_grows) | (simp; done) | (simp; with_reducible first | apply State.finishCapture_grows))

theorem State.endBody_grows {q : List Record} {s : State} (h : QueueGrows q s.queue) :
    QueueGrows q (s.endBody).queue := by
  rw [State.endBody, State.setPhase_queue]
  split
  · exact State.finishCapture_grows h
  · exact h

theorem State.enterAdmit_grows {q : List Record} {s : State} (n : Nat) (h : QueueGrows q s.queue) :
    QueueGrows q (s.enterAdmit n).queue := by
  have k : QueueGrows q (s.beginStep n).queue := by rw [State.beginStep_queue]; exact h
  rw [State.enterAdmit]
  revert k
  generalize s.beginStep n = u
  intro k
  split
  · rw [State.admitted_queue]; exact k
  · split
    · exact State.endStep_grows _ _ k
    · rw [State.beginAttempt_queue]; exact k

theorem State.boundary_grows {q : List Record} {s : State} (n : Nat) (h : QueueGrows q s.queue) :
    QueueGrows q (s.boundary n).queue := by
  unfold State.boundary; split <;> (repeat' with_reducible first | exact h | apply State.enterAdmit_grows)
  simpa using h

theorem State.branch_grows {q : List Record} {s : State} (v : Verdict) (r : StepRecord) (h : QueueGrows q s.queue) :
    QueueGrows q (s.branch v r).queue := by
  unfold State.branch; dsimp only; (repeat' split) <;> (repeat' with_reducible first | exact h | apply State.boundary_grows) <;> simpa using h

theorem State.afterStepResult_grows {q : List Record} {s : State} (r : StepResult) (h : QueueGrows q s.queue) :
    QueueGrows q (s.afterStepResult r).queue := by
  unfold State.afterStepResult; dsimp only; (repeat' split) <;> (repeat' with_reducible first | exact h | apply State.branch_grows) <;> simpa using h

theorem State.afterPageSwap_grows {q : List Record} {s : State} (h : QueueGrows q s.queue) :
    QueueGrows q (s.afterPageSwap).queue := by
  unfold State.afterPageSwap; dsimp only; (repeat' split) <;> (repeat' with_reducible first | exact h | apply State.boundary_grows) <;> simpa using h

theorem State.afterPlaced_grows {q : List Record} {s : State} (r : StepLevel) (h : QueueGrows q s.queue) :
    QueueGrows q (s.afterPlaced r).queue := by
  unfold State.afterPlaced; split <;> (repeat' with_reducible first | exact h | apply State.afterStepResult_grows | apply State.afterPageSwap_grows)
  simpa using h

theorem State.goOn_grows {q : List Record} {s : State} (h : QueueGrows q s.queue) :
    QueueGrows q s.goOn.queue := 
  State.placeRecords_grows _ h (fun _ r k => State.afterPlaced_grows r k)

theorem State.derateFigures_grows {q : List Record} {s : State} (a : Nat) (b : Option Nat) (i j k l m n : Nat) (h : QueueGrows q s.queue) :
    QueueGrows q (s.derateFigures a b i j k l m n).queue := by
  unfold State.derateFigures; split <;> (repeat' with_reducible first | exact h | apply State.endStep_grows | apply State.endBody_grows) <;> simpa using h

theorem State.endKneeRamp_grows {q : List Record} {s : State} (vs : List Verdict) (h : QueueGrows q s.queue) :
    QueueGrows q (s.endKneeRamp vs).queue := by
  unfold State.endKneeRamp; dsimp only
  (repeat' first | (with_reducible first | exact h | apply State.endBody_grows) | (simp; done) | (simp; with_reducible first | apply State.endBody_grows))
  simpa using h

theorem State.knee_grows {q : List Record} {s : State} (h : QueueGrows q s.queue) :
    QueueGrows q (s.knee).queue := by
  unfold State.knee; split <;> (repeat' with_reducible first | exact h | apply State.endKneeRamp_grows)
  simpa using h

theorem State.windowDone_grows {q : List Record} {s : State} (h : QueueGrows q s.queue) :
    QueueGrows q (s.windowDone).queue := by
  unfold State.windowDone; dsimp only; (repeat' split) <;> (repeat' with_reducible first | exact h | apply State.endStep_grows | apply State.endBody_grows | apply State.derateFigures_grows) <;> simpa using h

theorem State.endSpanStep_grows {q : List Record} {s : State} (h : QueueGrows q s.queue) :
    QueueGrows q (s.endSpanStep).queue := by
  unfold State.endSpanStep; (repeat' with_reducible first | exact h | apply State.endStep_grows | apply State.endBody_grows)
  simpa using h

theorem State.judgeDropout_grows {q : List Record} {s : State} (n : Nat) (h : QueueGrows q s.queue) :
    QueueGrows q (s.judgeDropout n).queue := by
  unfold State.judgeDropout; (repeat' with_reducible first | exact h | apply State.endStep_grows | apply State.endBody_grows)
  simpa using h

theorem State.setEndInBody_grows {q : List Record} {s : State} (h : QueueGrows q s.queue) :
    QueueGrows q (s.setEndInBody).queue := by
  unfold State.setEndInBody; (repeat' split) <;> (repeat' with_reducible first | exact h | apply State.endKneeRamp_grows | apply State.endSpanStep_grows) <;> simpa using h

theorem State.setEndInExit_grows {q : List Record} {s : State} (h : QueueGrows q s.queue) :
    QueueGrows q (s.setEndInExit).queue := by
  unfold State.setEndInExit; (repeat' split) <;> (repeat' with_reducible first | exact h | apply State.endStep_grows)
  simpa using h

theorem State.tripExit_grows {q : List Record} {s : State} (h : QueueGrows q s.queue) :
    QueueGrows q (s.tripExit).queue := by
  unfold State.tripExit; dsimp only; (repeat' split) <;> (repeat' with_reducible first | exact h | apply State.startTripCapture_grows | apply State.endStep_grows)

theorem State.takeOwnTrip_grows {q : List Record} {s : State} (t : Trip) (c : StepContext) (h : QueueGrows q s.queue) :
    QueueGrows q (s.takeOwnTrip t c).queue := by
  unfold State.takeOwnTrip; (repeat' with_reducible first | exact h | apply State.tripExit_grows)
  simpa using h

theorem State.takeLateTrip_grows {q : List Record} {s : State} (t : Trip) (h : QueueGrows q s.queue) :
    QueueGrows q (s.takeLateTrip t).queue := by
  unfold State.takeLateTrip; (repeat' with_reducible first | exact h | apply State.tripExit_grows)
  simpa using h

theorem State.takeDropoutTrip_grows {q : List Record} {s : State} (t : Trip) (o : Option TripSpan) (h : QueueGrows q s.queue) :
    QueueGrows q (s.takeDropoutTrip t o).queue := by
  unfold State.takeDropoutTrip; (repeat' with_reducible first | exact h | apply State.endStep_grows | apply State.endBody_grows)
  simpa using h

theorem State.takeUnexpectedTrip_grows {q : List Record} {s : State} (t : Trip) (b : Bool)
    (h : QueueGrows q s.queue) : QueueGrows q (s.takeUnexpectedTrip t b).queue := by
  unfold State.takeUnexpectedTrip; dsimp only
  apply State.endStep_grows
  split <;> simpa using h

theorem State.deliverTrip_grows {q : List Record} {s : State} (h : QueueGrows q s.queue) :
    QueueGrows q (s.deliverTrip).queue := by
  unfold State.deliverTrip; dsimp only; (repeat' split) <;> (repeat' with_reducible first | exact h | apply State.takeOwnTrip_grows | apply State.takeLateTrip_grows | apply State.takeDropoutTrip_grows | apply State.takeUnexpectedTrip_grows) <;> simpa using h

theorem State.deliverFound_grows {q : List Record} {s : State} (h : QueueGrows q s.queue) :
    QueueGrows q (s.deliverFound).queue := by
  unfold State.deliverFound; split
  · exact State.goOn_grows (State.deliverTrip_grows h)
  · exact h

theorem State.checkSettle_grows {q : List Record} {s : State} (h : QueueGrows q s.queue) :
    QueueGrows q (s.checkSettle).queue := by
  unfold State.checkSettle; (repeat' split) <;> (repeat' with_reducible first | exact h | apply State.deliverFound_grows)
  simpa using h

theorem State.completeApply_grows {q : List Record} {s : State} (h : QueueGrows q s.queue) :
    QueueGrows q (s.completeApply).queue := by
  unfold State.completeApply; dsimp only
  apply State.checkSettle_grows
  simpa using h

theorem State.takeSetEnd_grows {q : List Record} {s : State} (h : QueueGrows q s.queue) :
    QueueGrows q (s.takeSetEnd).queue := by
  unfold State.takeSetEnd; (repeat' split) <;> (repeat' with_reducible first | exact h | apply State.setEndInBody_grows | apply State.setEndInExit_grows | apply State.completeApply_grows) <;> simpa using h

theorem State.reportSetEnd_grows {q : List Record} {s : State} (h : QueueGrows q s.queue) :
    QueueGrows q (s.reportSetEnd).queue := by
  unfold State.reportSetEnd; dsimp only
  (repeat' first | (with_reducible first | exact h | apply State.takeSetEnd_grows) | (simp; done) | (simp; with_reducible first | apply State.takeSetEnd_grows))
  simpa using h

theorem State.expireStep_grows {q : List Record} {s : State} (h : QueueGrows q s.queue) :
    QueueGrows q (s.expireStep).queue := by
  unfold State.expireStep; (repeat' with_reducible first | exact h | apply State.endStep_grows)
  simpa using h

theorem State.abortStep_grows {q : List Record} {s : State} (h : QueueGrows q s.queue) :
    QueueGrows q (s.abortStep).queue := by
  unfold State.abortStep; (repeat' with_reducible first | exact h | apply State.endStep_grows)
  simpa using h

theorem State.interlockWalk_grows {q : List Record} {s : State} (h : QueueGrows q s.queue) :
    QueueGrows q (s.interlockWalk).queue := by
  unfold State.interlockWalk; dsimp only
  (repeat' split) <;> (repeat' first | (with_reducible first | exact h | apply State.endStep_grows | apply State.goOn_grows) | (simp; done) | (simp; with_reducible first | apply State.endStep_grows | apply State.goOn_grows)) <;> simpa using h

theorem State.takeBlockOffer_grows {q : List Record} {s : State} (h : QueueGrows q s.queue) :
    QueueGrows q (s.takeBlockOffer).queue := by
  unfold State.takeBlockOffer; dsimp only
  (repeat' split) <;> (repeat' first | (with_reducible first | exact h | apply State.endStep_grows | apply State.offerBlock_grows) | (simp; done) | (simp; with_reducible first | apply State.endStep_grows | apply State.offerBlock_grows))

theorem State.decideAdmission_grows {q : List Record} {s : State} (h : QueueGrows q s.queue) :
    QueueGrows q (s.decideAdmission).queue := by
  unfold State.decideAdmission; (repeat' split) <;> (repeat' with_reducible first | exact h | apply State.endStep_grows) <;> simpa using h

theorem State.decideGate_grows {q : List Record} {s : State} (h : QueueGrows q s.queue) :
    QueueGrows q (s.decideGate).queue := by
  unfold State.decideGate; dsimp only; (repeat' split) <;> (repeat' with_reducible first | exact h | apply State.endStep_grows) <;> simpa using h

theorem State.takeCycleEnd_grows {q : List Record} {s : State} (h : QueueGrows q s.queue) :
    QueueGrows q (s.takeCycleEnd).queue := by
  unfold State.takeCycleEnd; dsimp only
  (repeat' split) <;> (repeat' first | (with_reducible first | exact h | apply State.takeSetEnd_grows) | (simp; done) | (simp; with_reducible first | apply State.takeSetEnd_grows)) <;> simpa using h

theorem State.takeRelayExpiry_grows {q : List Record} {s : State} (h : QueueGrows q s.queue) :
    QueueGrows q (s.takeRelayExpiry).queue := by
  unfold State.takeRelayExpiry; dsimp only; (repeat' split) <;> simpa using h

theorem State.takeCouplingEnd_grows {q : List Record} {s : State} (h : QueueGrows q s.queue) :
    QueueGrows q (s.takeCouplingEnd).queue := by
  unfold State.takeCouplingEnd; dsimp only; (repeat' split) <;> (repeat' with_reducible first | exact h | apply State.judgeDropout_grows) <;> simpa using h

theorem State.startWalk_grows {q : List Record} {s : State} (w : WalkHeader) (h : QueueGrows q s.queue) :
    QueueGrows q (s.startWalk w).queue := by
  unfold State.startWalk; (repeat' with_reducible first | exact h | apply State.enterAdmit_grows | apply State.goOn_grows)
  simpa using h

theorem State.abortRunning_grows {q : List Record} {s : State} (h : QueueGrows q s.queue) :
    QueueGrows q (s.abortRunning).queue := by
  unfold State.abortRunning; split <;> (repeat' with_reducible first | exact h | apply State.goOn_grows | apply State.abortStep_grows)
  simpa using h

theorem State.armInPageWait_grows {q : List Record} {s : State} (h : QueueGrows q s.queue) :
    QueueGrows q (s.armInPageWait).queue := by
  unfold State.armInPageWait; (repeat' with_reducible first | exact h | apply State.goOn_grows)
  simpa using h

end Sys2Proof.Machine
end

