-- ==== Sys2Proof/Laws/Blocks.lean ====
section
/-! SUPPORT. What the shared operations of the drive unit, the bay interface, Check Arithmetic and the walk
engine do, each said once, for proofs to cite in place of unfolding them. -/

namespace Sys2Proof.Machine

/-! ## Check Arithmetic -/

/-- A ceiling quotient is at most `k` exactly when the numerator is at most `k` divisors. -/
theorem ceilDiv_le_iff (a b k : Nat) (hb : 0 < b) : ceilDiv a b ≤ k ↔ a ≤ k * b := by
  unfold ceilDiv
  rw [← Nat.lt_succ_iff, Nat.div_lt_iff_lt_mul hb, Nat.succ_mul]
  omega

/-- A rising ramp update. -/
theorem rampUpdate_rising (level stop slope : Nat) (h : level ≤ stop) :
    rampUpdate level stop slope = min (level + slope) stop := by
  unfold rampUpdate; rw [if_pos h]; split <;> omega

/-- A falling ramp update. -/
theorem rampUpdate_falling (level stop slope : Nat) (h : stop ≤ level) :
    rampUpdate level stop slope = max (level - slope) stop := by
  unfold rampUpdate
  by_cases e : level = stop
  · subst e; simp
  · rw [if_neg (by omega)]; split <;> omega

/-- A step with no contribution passes, and one contribution is the verdict (R29). -/
theorem verdictOf_nil : verdictOf [] = .pass := rfl

theorem verdictOf_singleton (v : Verdict) : verdictOf [v] = v := by cases v <;> rfl

/-! ## The drive unit -/

@[simp] theorem Drive.holdLevel_level (d : Drive) : d.holdLevel.level = d.level := (rfl)
@[simp] theorem Drive.holdLevel_active (d : Drive) : d.holdLevel.active = .level d.level := (rfl)
@[simp] theorem Drive.holdLevel_status (d : Drive) : d.holdLevel.status = .rest := (rfl)
@[simp] theorem Drive.holdLevel_staged (d : Drive) : d.holdLevel.staged = d.staged := (rfl)
@[simp] theorem Drive.holdLevel_range (d : Drive) : d.holdLevel.range = d.range := (rfl)
@[simp] theorem Drive.holdLevel_rangeChange (d : Drive) : d.holdLevel.rangeChange = d.rangeChange := (rfl)
@[simp] theorem Drive.holdLevel_coupling (d : Drive) : d.holdLevel.coupling = d.coupling := (rfl)
@[simp] theorem Drive.holdLevel_completed (d : Drive) : d.holdLevel.completed = d.completed := (rfl)

/-- A set that takes force leaves the level where it is, and is the set in force with nothing waiting (R73). -/
theorem Drive.takeForce_spec (d : Drive) (g : GenSet) :
    (d.takeForce g).level = d.level ∧ (d.takeForce g).active = g.settled d.level
      ∧ (d.takeForce g).status = .acting ∧ (d.takeForce g).staged = none ∧ (d.takeForce g).range = d.range
      ∧ (d.takeForce g).rangeChange = d.rangeChange ∧ (d.takeForce g).coupling = d.coupling
      ∧ (d.takeForce g).dropHold = d.dropHold ∧ (d.takeForce g).lineSetpoint = d.lineSetpoint
      ∧ (d.takeForce g).loadEnable = d.loadEnable := ⟨rfl, rfl, rfl, rfl, rfl, rfl, rfl, rfl, rfl, rfl⟩

/-- A plain request with nothing of R73 in its way takes force. -/
theorem Drive.stage_plain_of_free (d : Drive) (g : GenSet) (hold : d.dropHold = false) (free : d.busy = false) :
    d.stage g .plain = d.takeForce g := by
  unfold Drive.stage; simp [hold, free, Drive.proceed]

/-- The winddown ramp with nothing of R73 in its way takes force. -/
theorem Drive.stage_winddown_of_free (d : Drive) (g : GenSet) (free : d.busy = false) :
    d.stage g .winddown = d.takeForce g := by
  unfold Drive.stage; simp [free, Drive.proceed]

/-- A plain request is discarded while drop hold is set (R79). -/
theorem Drive.stage_plain_of_dropHold (d : Drive) (g : GenSet) (hold : d.dropHold = true) : d.stage g .plain = d := by
  unfold Drive.stage; simp [hold]

/-- No request moves the level when it is staged (R71). -/
theorem Drive.stage_level (d : Drive) (g : GenSet) (req : Request) : (d.stage g req).level = d.level := by
  unfold Drive.stage Drive.proceed Drive.takeForce Drive.beginRangeChange
  cases req <;> dsimp only <;> repeat' split
  all_goals rfl

/-- A trip drop leaves the level at 0 at rest, with drop hold set (R79). -/
theorem Drive.tripDrop_spec (d : Drive) :
    d.tripDrop.level = 0 ∧ d.tripDrop.status = .rest ∧ d.tripDrop.dropHold = true ∧ d.tripDrop.staged = none
      ∧ d.tripDrop.coupling = .none ∧ d.tripDrop.range = d.range ∧ d.tripDrop.loadEnable = d.loadEnable
      ∧ d.tripDrop.shelfEnable = d.shelfEnable ∧ d.tripDrop.rangeChange = d.rangeChange := by
  unfold Drive.tripDrop Drive.endCoupling Drive.holdLevel
  split <;> simp_all

/-- An immediate drop leaves level and enables at 0 and nothing in flight (R80). -/
theorem Drive.immediateDrop_spec (d : Drive) :
    d.immediateDrop.level = 0 ∧ d.immediateDrop.loadEnable = false ∧ d.immediateDrop.lineEnable = false
      ∧ d.immediateDrop.shelfEnable = false ∧ d.immediateDrop.busy = false ∧ d.immediateDrop.range = d.range
      ∧ d.immediateDrop.relayCount = d.relayCount ∧ d.immediateDrop.lineSetpoint = d.lineSetpoint :=
  ⟨rfl, rfl, rfl, rfl, rfl, rfl, rfl, rfl⟩

/-! ## The bay interface -/

/-- Once released, the unit is RELEASED, and nothing else but its span changed (R46, R58). -/
theorem Bay.releaseUnit_spec (b : Bay) (settle : Nat) :
    (b.releaseUnit settle).ownUnit = .released ∧ (b.releaseUnit settle).drivenClaim = b.drivenClaim
      ∧ (b.releaseUnit settle).protocol = b.protocol
      ∧ (b.releaseUnit settle).admissionAttempts = b.admissionAttempts
      ∧ (b.releaseUnit settle).gateAttempts = b.gateAttempts := by
  unfold Bay.releaseUnit
  split
  · exact ⟨rfl, rfl, rfl, rfl, rfl⟩
  · refine ⟨?_, rfl, rfl, rfl, rfl⟩
    rename_i h
    revert h; cases b.ownUnit <;> simp [OwnUnit.asserted]

/-- The WINDDOWN releases and the interlock opening leave the lines at rest (R49, R66). -/
theorem Bay.releaseAll_atRest (b : Bay) (settle : Nat) : (b.releaseAll settle).AtRest := by
  have h := Bay.releaseUnit_spec { b with drivenClaim := 0 } settle
  exact ⟨h.2.1, h.1⟩

/-- After a change at most the value before it fades, for the given span (R45). -/
theorem Contribution.mem_move {c : Contribution} {value settle v left : Nat}
    (h : (v, left) ∈ (c.move value settle).fading) :
    (v, left) ∈ c.fading ∨ (v = c.current ∧ v ≠ value ∧ left = settle) := by
  unfold Contribution.move at h
  split at h
  · exact .inl h
  · rename_i ne
    rcases List.mem_cons.1 h with e | h
    · exact .inr ⟨congrArg Prod.fst e, fun k => ne (k.symm.trans (congrArg Prod.fst e)), congrArg Prod.snd e⟩
    · exact .inl h

@[simp] theorem Contribution.move_current (c : Contribution) (value settle : Nat) :
    (c.move value settle).current = value := by
  unfold Contribution.move; split <;> simp_all

/-- A value that still fades after a sample had one sample more before it (R45). -/
theorem Contribution.mem_tick {c : Contribution} {v left : Nat} (h : (v, left) ∈ c.tick.fading) :
    1 ≤ left ∧ (v, left + 1) ∈ c.fading := by
  simp only [Contribution.tick, List.mem_filter, List.mem_map, bne_iff_ne, ne_eq] at h
  obtain ⟨⟨⟨w, n⟩, mem, e⟩, pos⟩ := h
  have hv : w = v := congrArg Prod.fst e
  have hn : n - 1 = left := congrArg Prod.snd e
  subst hv
  have : n = left + 1 := by omega
  exact ⟨Nat.one_le_iff_ne_zero.2 pos, this ▸ mem⟩

@[simp] theorem Contribution.tick_current (c : Contribution) : c.tick.current = c.current := (rfl)

/-- A reading shows the newest contribution or one that fades; with lag 0 the newest (R45). -/
theorem Contribution.shown_cases (c : Contribution) (lag : Nat) :
    c.shown lag = c.current ∨ ∃ left, (c.shown lag, left) ∈ c.fading := by
  cases lag with
  | zero => exact .inl rfl
  | succ n =>
    cases h : c.fading[n]? with
    | none => exact .inl (by simp [Contribution.shown, h])
    | some p =>
      exact .inr ⟨p.2, by
        have := List.mem_of_getElem? h
        simpa [Contribution.shown, h] using this⟩

/-- The fields a sample of the bay interface leaves as they stood (R44, R47). -/
theorem Bay.sample_spec (b : Bay) (i : SampleInput) (settle : Nat) :
    (b.sample i settle).drivenClaim = b.drivenClaim ∧ (b.sample i settle).priorClaim = b.priorClaim
      ∧ (b.sample i settle).ownUnit = b.ownUnit ∧ (b.sample i settle).protocol = b.protocol
      ∧ (b.sample i settle).admissionAttempts = b.admissionAttempts
      ∧ (b.sample i settle).gateAttempts = b.gateAttempts ∧ (b.sample i settle).address = b.address
      ∧ (b.sample i settle).releaseSpan = b.releaseSpan.map (· - 1) := by
  unfold Bay.sample Bay.tickProtocol
  dsimp only
  split <;> exact ⟨rfl, rfl, rfl, rfl, rfl, rfl, rfl, rfl⟩

/-! ## The walk engine -/

/-- With no record waiting the engine has nothing to go on with. -/
theorem State.goOn_of_none (s : State) (h : s.engine.waiting = none) : s.goOn = s := by
  unfold State.goOn State.placeRecords; rw [h]

/-- With a full queue a record that waits goes on waiting (R30). -/
theorem State.goOn_of_full (s : State) (h : 32 ≤ s.queue.length) : s.goOn = s := by
  unfold State.goOn State.placeRecords
  split
  · rw [if_neg (by simp only [Config.queueDepth]; omega)]
  · rfl

/-- A record that waits is placed when an entry is free (R180, R182). -/
theorem State.goOn_of_waiting (s : State) (r : StepLevel) (h : s.engine.waiting = some r) (free : s.queue.length < 32) :
    s.goOn = State.placeRecords 32
      (((s.setQueue (s.queue ++ [.stepLevel r])).setEngine { s.engine with waiting := none }).afterPlaced r) := by
  unfold State.goOn
  rw [State.placeRecords, h]
  exact if_pos (by simpa only [Config.queueDepth] using free)

/-! ## Events that are due -/

/-- With nothing due there is no first event. -/
theorem firstDue_of_none (s : State) : ∀ events : List (State → Option State),
    (∀ event ∈ events, event s = none) → firstDue s events = none
  | [], _ => rfl
  | event :: rest, h => by
    have first := h event List.mem_cons_self
    have tail := firstDue_of_none s rest (fun e he => h e (List.mem_cons_of_mem _ he))
    simp [firstDue, first, tail]

/-- A settled state has nothing to take. -/
theorem State.settleDue_of_settled (s : State) (h : s.Settled) : s.settleDue = s := by
  unfold State.settleDue
  rw [show dueRounds = 63 + 1 from rfl, State.takeDue, firstDue_of_none s dueEvents h]

/-- SAMPLE of a settled state. -/
theorem exec_sample_of_settled (i : SampleInput) (s : State) (h : s.Settled) :
    exec (.sample i) s = .next ((s.takeSample i).deliverEarly i) := by
  show execSample i s = _
  unfold execSample
  rw [State.settleDue_of_settled s h]

/-- A sample whose operands put its alarm detection and its knee after the other events delivers neither. -/
theorem State.deliverEarly_of_late (s : State) (i : SampleInput) (alarm : i.alarmLate = true) (knee : i.kneeLate = true) :
    s.deliverEarly i = s := by
  unfold State.deliverEarly; rw [if_pos alarm, if_pos knee]

end Sys2Proof.Machine
end

