-- ==== Sys2Proof/Tests/Slice0.lean ====
section
/-! SUPPORT. The model's own tests: ill-formed commands that the check refuses, figures and single steps
taken from the spec's worked examples, and for each statement with hypotheses a state that meets them. -/

namespace Sys2Proof.Tests

/-! The theorems of this namespace are elaborated one after another: evaluated side by side, they start more threads
than the memory limit of the check holds stacks for. -/

set_option Elab.async false

open Sys2Proof.Machine

/-! ## Small states -/

/-- The profile of the worked examples. -/
def ratings : Ratings := ⟨33000, 54000, 50000, 40000, 9000, 2300⟩

/-- The bay of "three stations raise together" (The Bay Lines). -/
def bayConfig : BayConfig := ⟨170, 2, 8, 4, 5, .activeHigh⟩

/-- A step record with next_pass 1 and next_fail 33. -/
def record (body : StepBody) : StepRecord := ⟨7, 1, 33, 100, 0, 2, 0, [], body⟩

/-- A plan store with the given body in slot A0 and a HOLD in slot A1. -/
def storeOf (body : StepBody) : PlanStore :=
  { PlanStore.reset with
    config := some bayConfig
    pageA := (PlanStore.reset.pageA.setIfInBounds 0 (record body)).setIfInBounds 1 (record (.hold 1000))
    profiles := PlanStore.reset.profiles.setIfInBounds 0 ⟨true, ratings⟩ }

/-- The step context of slot A0 at its ADMIT entry. -/
def context (body : StepBody) : StepContext := StepContext.fresh .a 0 (record body) 0 0

/-- A walk on page A in the given state, with no step. -/
def inWalk (w : WalkState) (body : StepBody) : State :=
  { State.reset with
    store := storeOf body
    engine := { Engine.reset with
      walk := w, header := some ⟨.a, 0, 0, 1000, 20, 5, false, false⟩, profile := some ratings, page := some .a } }

/-- A walk in which the step of slot A0 stands in the given phase and context. -/
def inStepWith (p : Phase) (c : StepContext) : State :=
  let s := inWalk .running c.record.body
  s.setEngine { s.engine with phase := p, step := some c, lastIndex := some 0 }

/-- As `inStepWith`, with the context of ADMIT entry. -/
def inStep (p : Phase) (body : StepBody) : State := inStepWith p (context body)

/-- The state a command leads to. -/
def after (c : Instr) (s : State) : State :=
  match exec c s with
  | .next t => t
  | .fault _ => s
  | .refused _ => s

/-- A sample with the given codes of V_OUT and I_OUT. -/
def codes (v i : BitVec 16) : SampleInput := ⟨v, i, 2300, 20000, 883, false, 0, 0, 0, 0, false, false⟩

/-- The same sample with its alarm detection and knee taken after its other events. -/
def codesLate (v i : BitVec 16) : SampleInput := { codes v i with alarmLate := true, kneeLate := true }

/-- The sample record of a first sample. -/
def sampleOf (i : SampleInput) : SampleRecord :=
  Acquisition.reset.nextRecord ChannelProfile.resetTable (some bayConfig) i 0 .low 0

/-- The first answer of a state's answer slot. -/
def answerOf (s : State) : Option Answer := s.port.answer.map (·.answer)

def hold : StepBody := .hold 3000
def search : StepBody := .tripSearch 6000 2000 9000 .collapse 30000 7800 8400
def timed : StepBody := .tripTime 4000 8000 .either 30000 10 500
def derating : StepBody := .derate 1 (some 2) 1000 2000 5200 1500 30 50
def dropping : StepBody := .dropout 3000 50 200 1000 38000
def pulsing : StepBody := .pulse 2000 4000 20 5 3

/-! ## Ill-formed commands -/

theorem test_short_complete_transaction_is_ill_formed :
    (Instr.transactionComplete (List.replicate 63 0) 0).wellFormed = false := by decide

theorem test_long_incomplete_transaction_is_ill_formed :
    (Instr.transactionIncomplete 64).wellFormed = false := by decide

theorem test_bad_command_with_a_command_code_is_ill_formed :
    (Instr.badCommand 0x10).wellFormed = false := by decide

theorem test_curve_with_eleven_points_is_ill_formed :
    (Instr.writeCurve ⟨0, 0, 2, List.replicate 11 (0, 0)⟩).wellFormed = false := by decide

theorem test_boundary_commands_are_well_formed :
    (Instr.transactionComplete (List.replicate 64 0) 0).wellFormed = true
      ∧ (Instr.transactionIncomplete 63).wellFormed = true
      ∧ (Instr.badCommand 0x3E).wellFormed = true := by decide

/-! ## Figures of Check Arithmetic -/

/-- The claims of R119's table. -/
theorem test_claims : [claimOf 5200 54000, claimOf 5000 50000, claimOf 1 40000, claimOf 12000 60000, claimOf 0 54000]
    = [57, 50, 1, 144, 0] := by decide +kernel

/-- The voltage and temperature curves of R115's table. -/
theorem test_curves :
    [1900, 2000, 1750, 3050].map (curveValue [(1800, 500), (2000, 800), (2200, 1000), (3050, 1000)])
        = [650, 800, 500, 1000]
      ∧ [483, 560, 700, 0].map (curveValue [(-400, 1000), (450, 1000), (550, 750), (650, 500)])
        = [917, 725, 500, 1000] := by decide +kernel

/-- Two rows of R112's table: the floor of a product, and a clamp from below. -/
theorem test_scaling :
    channelValue .iOut ⟨65000, 0, 4, 20, 200, .restart⟩ 8100 = 8033
      ∧ channelValue .tInlet ⟨65536, -1650, 64, 0, 0, .mark⟩ 100 = -400
      ∧ channelOver .tInlet ⟨65536, -1650, 64, 0, 0, .mark⟩ 100 = true
      ∧ channelOver .vOut ⟨65536, 0, 4, 20, 200, .restart⟩ 65535 = true := by decide +kernel

/-- The rows of R114's table. -/
theorem test_efficiency :
    [efficiency 21424 22810, efficiency 30000 30000, efficiency 30050 30000, efficiency 1200 0]
        = [939, 1000, 1000, 0]
      ∧ efficiencySaturated 30000 30000 = false ∧ efficiencySaturated 30050 30000 = true := by decide +kernel

/-- The derating case of Check Arithmetic: P_exp, P_lo, P_hi and P_knee. -/
theorem test_derating_figures :
    [expectedPower 33000 650 917, powerLow 21450 30, powerHigh 21450 50, outputPower 52498 4081]
      = [21450, 20806, 22523, 21424] := by decide +kernel

/-- Two updates of R120's table at 1500 A/s, and update 143 at 7 A/s. -/
theorem test_ramp_updates :
    rampUpdate 2001500 9000000 1500 = 2003000 ∧ dacValue 2003000 = 2003
      ∧ dacValue ((fun l => rampUpdate l 9000000 7)^[143] 0) = 1 := by decide +kernel

/-- A mean of a sum of −7 over two samples is −4 (R125). -/
theorem test_mean_rounds_down : averageOf [-3, -4] = -4 := by decide

/-- The backoffs of "three stations raise together": 7 slots, 16 slots, 3 slots. -/
theorem test_backoff_slots : [backoffSlots 7 1, backoffSlots 12 1, backoffSlots 12 2] = [7, 16, 3] := by decide

/-- Line readings round halfway upward and saturate (R44). -/
theorem test_line_readings :
    [lineReading 3869 20 2047, lineReading 3870 20 2047, lineReading 50000 20 2047, lineReading 124 250 16,
      lineReading 125 250 16] = [193, 194, 2047, 0, 1] := by decide

/-- Of several contributions the highest-ranking one is the verdict (R29). -/
theorem test_verdict_ranks : [verdictOf [.limit, .unexpectedTrip], verdictOf [.holdup, .limit], verdictOf []]
    = [.unexpectedTrip, .holdup, .pass] := by decide

/-! ## Frames -/

/-- The STEP_RESULT of "one STEP_RESULT frame", bytes 7 to 23 and 45 to 51. -/
def exampleResult : StepResult :=
  { (default : StepResult) with
    page := .a, index := 4, tag := 9, kind := .tripSearch, verdict := .pass, endPhase := .exiting
    duration := 2160, admissionAttempts := 1, gateAttempts := 1, censusHeld := true, posted := 8
    windowCount := 1003
    figures := { (default : Figures) with trip := some ⟨.collapse, 2110, 8013, false⟩ } }

theorem test_step_result_frame :
    (stepResultBytes exampleResult).take 20
        = [0x00, 0x04, 9, 0x04, 0x00, 0x08, 0x00, 0x08, 0x70, 0, 0, 0x01, 0x01, 0x0A, 0x00, 0x08, 0x00, 0, 0x03, 0xEB]
      ∧ ((stepResultBytes exampleResult).drop 38).take 7 = [0x01, 0, 0, 0x08, 0x3E, 0x1F, 0x4D] := by decide +kernel

/-- A START_WALK frame written out from the table of R187. -/
theorem test_start_walk_frame :
    frameCommand ([0x20, 0x01, 0x1F, 0x03, 0x03, 0xE8, 0x07, 0xD0, 0x00, 0x1E, 0x01, 0x00] ++ List.replicate 52 0) 0
      = .startWalk ⟨1, 31, 3, 1000, 2000, 30, 1, 0⟩ := by decide +kernel

/-- A WRITE_CHANNEL frame with an offset of −400 (R13, R187). -/
theorem test_write_channel_frame :
    frameCommand ([0x13, 4, 0, 1, 0, 0, 0xFF, 0xFF, 0xFE, 0x70, 64, 0, 0, 0, 0, 1] ++ List.replicate 48 0) 0
        = .writeChannel ⟨4, 65536, 0xFFFFFE70, 64, 0, 0, 1⟩
      ∧ (0xFFFFFE70 : BitVec 32).toInt = -400 := by decide +kernel

/-- The frame after a pin reset is an IDLE frame: IDLE, no page, no index, NONE, count 0, flags clear (R184). -/
theorem test_frame_after_reset :
    ((after .transactionBegin State.reset).port.outgoing.map (fun o => o.2.take 7))
      = some [0x80, 0x00, 0xFF, 0xFF, 0x00, 0x00, 0x00] := by decide +kernel

/-! ## The plan store's commands -/

/-- The DERATE record of "examining a DERATE record". -/
def derateWrite (curveV : BitVec 16) (tolHi : BitVec 16) : StepFields :=
  ⟨0, 6, 7, 0, 1, 33, 100, 1900, 200, 0, 1, ⟨5, 2, 0, 40000⟩, default, default,
    curveV, 5, 1000, 500, 5200, 1500, 30, tolHi⟩

/-- A store with curve 1 on the VOLTAGE axis, curve 2 on the TEMPERATURE axis, and curve 5 empty. -/
def curveStore : State :=
  State.reset.setStore { PlanStore.reset with
    curves := (PlanStore.reset.curves.setIfInBounds 1 ⟨some .voltage, [(1800, 500), (2000, 800)]⟩).setIfInBounds 2
      ⟨some .temperature, [(-400, 1000), (450, 1000)]⟩ }

theorem test_derate_write_refusals :
    answerOf (after (.writeStep (derateWrite 2 600)) curveStore) = some (.badField 24)
      ∧ answerOf (after (.writeStep (derateWrite 1 600)) curveStore) = some (.badField 31) := by decide +kernel

theorem test_derate_write_stores :
    (after (.writeStep (derateWrite 1 50)) curveStore).store.slot .a 6
      = ⟨0, 1, 33, 100, 1900, 200, 0, [⟨.pOut, .maximum, 0, 40000⟩],
          .derate 1 (some 5) 1000 500 5200 1500 30 50⟩ := by decide +kernel

/-- "Guards across a chained walk": page A is the current page, and B carries the mark after ARM_CHAIN. -/
theorem test_guards_of_a_chained_walk :
    answerOf (after (.writeStep (derateWrite 1 50)) (inWalk .running hold)) = some .inUse
      ∧ answerOf (after (.writeStep { derateWrite 1 50 with page := 1 }) (after .armChain (inWalk .running hold)))
        = some .chainArmed := by decide +kernel

theorem test_write_curve_order : answerOf (after (.writeCurve ⟨1, 0, 2, [(2000, 800), (2000, 900)]⟩) State.reset)
    = some (.badField 6) := by decide +kernel

theorem test_write_profile : ((after (.writeProfile ⟨2, 33000, 54000, 50000, 40000, 9000, 2300⟩) State.reset).store.profile 2)
    = ⟨true, ratings⟩ := by decide +kernel

theorem test_write_channel_averaging : answerOf (after (.writeChannel ⟨0, 65536, 0, 3, 20, 200, 0⟩) State.reset)
    = some (.badField 4) := by decide +kernel

theorem test_configure_once :
    (after (.configure ⟨170, 2, 8, 4, 5, 0⟩) State.reset).store.config = some bayConfig
      ∧ answerOf (after (.configure ⟨170, 2, 8, 4, 5, 0⟩) (inWalk .idle hold)) = some .alreadySet := by
  decide +kernel

/-! ## The walk -/

/-- "A three-step walk": START_WALK raises the claim of A0 to 33 on attempt 1. -/
theorem test_start_walk :
    (after (.startWalk ⟨0, 0, 0, 1000, 200, 30, 0, 0⟩) (inWalk .idle hold)).bay.drivenClaim = 33
      ∧ (after (.startWalk ⟨0, 0, 0, 1000, 200, 30, 0, 0⟩) (inWalk .idle hold)).engine.phase = .admitting := by
  decide +kernel

theorem test_pause_of_a_gated_step :
    answerOf (after .pause (let s := inStep .body timed; s.setBay { s.bay with ownUnit := .gate })) = some .gated := by
  decide +kernel

theorem test_release_leaves_held : (after .release (inWalk .held hold)).engine.walk = .idle := by decide +kernel

/-- "Three stations raise together": at T = 194 above L = 170 station 7 withdraws to 40 and waits 560 samples. -/
theorem test_admission_fails :
    let s := inStep .admitting timed
    let t := after .admissionDecision (s.setBay { s.bay with
      address := 7, drivenClaim := 87, priorClaim := 40, protocol := .raising, admissionAttempts := 1, bayTotal := 194 })
    (t.bay.drivenClaim, t.bay.protocolCount, t.engine.phase) = (40, 560, .backoff) := by decide +kernel

/-- The same station at T = 164: admitted, and in GATE with its quiet wait. -/
theorem test_admission_passes :
    let s := inStep .admitting timed
    let t := after .admissionDecision (s.setBay { s.bay with
      address := 7, drivenClaim := 87, priorClaim := 40, protocol := .raising, admissionAttempts := 2, bayTotal := 164 })
    (t.bay.drivenClaim, t.bay.protocol, t.engine.phase) = (87, .quiet, .gate) := by decide +kernel

/-- "A gate meets an unexpected trip": station 3 reads a peer at its decision, and waits 3 slots, 240 samples. -/
theorem test_gate_fails :
    let s := inStep .gate dropping
    let t := after .gateDecision (s.setBay { s.bay with
      address := 3, ownUnit := .attempt, protocol := .asserting, gateAttempts := 1, censusOthers := 1 })
    (t.bay.ownUnit, t.bay.protocolCount, t.engine.phase) = (.released, 240, .gateBackoff) := by decide +kernel

/-- R59 with gate_quiet 0: the quiet wait ends at its entry although the reading shows a peer, and attempt 1 asserts the
unit for line_settle, 20 samples. -/
theorem test_quiet_wait_of_zero_tests_no_reading :
    let s := inStep .gate dropping
    let s := s.setStore { s.store with config := some { bayConfig with gateQuiet := 0 } }
    let t := after .quietWaitEnd (s.setBay { s.bay.enterQuiet with censusOthers := 1 })
    (t.bay.ownUnit, t.bay.gateAttempts, t.bay.protocol, t.bay.protocolCount) = (.attempt, 1, .asserting, 20) := by
  decide +kernel

/-! ## The drive unit and acquisition -/

/-- "An APPLY with a range change": the end of DOWN moves the relay to HIGH with a count of 200. -/
theorem test_range_down_end :
    let s := inStep .applying pulsing
    let t := after .rangeDownEnd (s.setDrive { s.drive with loadEnable := true, rangeChange := .down .high true })
    (t.drive.loadEnable, t.drive.range, t.drive.relayCount) = (false, .high, 200) := by decide +kernel

/-- "Then a pulse": at b + 6 the level falls to 2000 dA, and at b + 20 the cycle ends. -/
theorem test_pulse_samples :
    let s := inStep .body pulsing
    let p (n : Nat) := after (.sample (codes 54000 4000)) (s.setDrive { s.drive with
      active := .pulse 2000 4000 20 5 3, status := .acting, pulse := some ⟨1, n⟩ })
    ((p 4).drive.level, (p 5).drive.level, (p 19).drive.cycleEnded) = (4000000, 2000000, true) := by decide +kernel

/-- "A dropout span": LEAD leads to OFF, and RESTORE counts one sample less, its last sample being its end. -/
theorem test_coupling_spans :
    let s := inStep .body dropping
    (after .couplingSpanEnd (s.setDrive { s.drive with lineEnable := true, coupling := .lead 0 200 1000 })).drive.lineEnable
        = false
      ∧ (after .couplingSpanEnd (s.setDrive { s.drive with coupling := .off 0 1000 })).drive.coupling
        = .restore 999 := by decide +kernel

/-- An interlock opening in BODY drops level and unit, and the claim (R42). -/
theorem test_interlock_open :
    let s := inStep .body hold
    let t := after .interlockOpen ((s.setDrive { s.drive with level := 3000000, loadEnable := true }).setBay
      { s.bay with drivenClaim := 33 })
    (t.drive.level, t.drive.loadEnable, t.bay.drivenClaim, t.engine.reason) = (0, false, 0, some .interlock) := by
  decide +kernel

/-- "Reading under capture pressure": a block is placed with 8 entries free and dropped with 7. -/
theorem test_capture_pressure :
    let s := inStep .exiting search
    let full := { Capture.reset with mode := .trip, state := .collecting, fill := List.replicate 12 default, left := 36 }
    let q (n : Nat) := after .captureBlockOffer
      ((s.setAcq { s.acq with capture := full }).setQueue (List.replicate n (.stepLevel (.pageSwap .a))))
    ((q 24).queue.length, (q 24).acq.capture.posted, (q 25).queue.length, (q 25).acq.capture.dropped)
      = (25, 1, 25, 1) := by decide +kernel

/-- A first sample: raw V_OUT 65535 is clamped to 65000 and flagged, and it is sample 0 (R90, R112). -/
theorem test_first_sample :
    (after (.sample (codes 65535 8100)) State.reset).acq.latest.map (fun r => (r.seq, r.raw.vOut, r.overRange.vOut))
      = some (0, 65000, true) := by decide +kernel

/-- The third sample below the threshold completes a collapse run, dated two samples back (R101). -/
theorem test_collapse_run :
    let s := inStep .body hold
    let t := after (.sample (codes 3100 0))
      (s.setAcq { s.acq with detectors := { s.acq.detectors with collapse := some ⟨40000, 2⟩ }, nextSeq := 102 })
    let u := after .collapseDetect t
    (t.engine.phase, u.bay.ownUnit, u.queue.length, t.tripEvent.date) = (.body, .trip, 1, 100) := by decide +kernel

/-- A claim raised from 0 to 33 with a line_settle of 2 samples: the reading of the first sample may still show 0, and
that of the second, line_settle after the change, shows 33, whatever the operands ask for (R45). -/
theorem test_own_claim_on_the_line :
    let i : SampleInput := { codes 0 0 with claimLag := 1 }
    let b := ({ Bay.reset 7 with drivenClaim := 33 }).sample i 2
    (b.bayTotal, (b.sample i 2).bayTotal, (b.sample { i with peersClaim := 2730 } 2).bayTotal) = (0, 33, 170) := by
  decide +kernel

/-- A blank that an APPLY which did not complete left WAITING counts its settle at a change of the line setpoint, and one
opened on the same sample stays WAITING (R94, R95). -/
theorem test_line_change_after_uncompleted_apply :
    Blank.reopened .waiting false 500 = .counting 500 ∧ Blank.reopened .waiting true 500 = .waiting
      ∧ Blank.reopened .closed false 500 = .counting 500 := by decide

/-- An alarm that has been active since the reset is detected at the first armed sample (R110), and one found active
there after it was inactive once is not (R102). -/
theorem test_alarm_since_reset :
    let high : SampleInput := { codes 54000 0 with alarmHigh := true }
    let take (a : Acquisition) (i : SampleInput) := a.sample ChannelProfile.resetTable (some bayConfig) i 0 .low 0
    let always := take (take (take Acquisition.reset high) high) high
    let later := take (take (take Acquisition.reset (codes 54000 0)) high) high
    (always.armAlarm.detectors.alarmHit, later.armAlarm.detectors.alarmHit) = (true, false) := by decide +kernel

/-- A trip taken first on the DONE sample of a HOLD window: the step ends UNEXPECTED_TRIP with its checks evaluated, and
one sample earlier with its checks not evaluated (R103, R136). -/
theorem test_trip_on_the_done_sample :
    let check : Check := ⟨.measured .vOut, .mean, 0, 60000⟩
    let c : StepContext := StepContext.fresh .a 0 { record hold with checks := [check] } 0 0
    let s (n : Nat) := (fun s => s.setAcq { s.acq with
        detectors := { s.acq.detectors with collapse := some ⟨40000, 3⟩ }
        window := ⟨.counted, .opened, .mark, 2, n, [⟨.measured .vOut, 70000, some (3000, 67000), false⟩], 0, 0⟩ })
      (inStepWith .body c)
    let r (n : Nat) := (after .collapseDetect (s n)).queue.map (fun
      | .stepLevel (.stepResult r) => (r.verdict, r.checks)
      | _ => (.pass, []))
    r 2 = [(.unexpectedTrip, [⟨true, true, false, 35000⟩])]
      ∧ r 1 = [(.unexpectedTrip, [⟨false, false, false, 0⟩])] := by decide +kernel

/-- Data out carries the outgoing frame and 00h after its 64th byte (R170), and 00h under a select that a pin reset made
void (R184). -/
theorem test_data_out :
    let t := after (.transactionComplete (0x01 :: List.replicate 63 0 ++ [0xAA, 0xBB]) 0) (after .transactionBegin State.reset)
    let v := after (.transactionIncomplete 3) (after (.pinReset 0) (after .transactionBegin State.reset))
    t.port.dataOut.take 4 = [0x80, 0x00, 0xFF, 0xFF] ∧ t.port.dataOut.drop 64 = [0x00, 0x00]
      ∧ v.port.dataOut = [0x00, 0x00, 0x00] := by decide +kernel

/-! ## Witnesses: for each statement with hypotheses, states and operands that meet them -/

/-- `s` with changes to its bay interface. -/
def bayed (s : State) (f : Bay → Bay) : State := s.setBay (f s.bay)

/-- `s` with changes to its drive unit. -/
def driven (s : State) (f : Drive → Drive) : State := s.setDrive (f s.drive)

/-- `s` with changes to its acquisition. -/
def measured (s : State) (f : Acquisition → Acquisition) : State := s.setAcq (f s.acq)

/-- `s` with a record of the walk engine's waiting for a queue entry. -/
def waitingFor (s : State) (r : StepLevel) : State := s.setEngine { s.engine with waiting := some r, phase := .outputStall }

/-- `s` with a queue of `n` records. -/
def queued (s : State) (n : Nat) : State := s.setQueue (List.replicate n (.stepLevel (.pageSwap .a)))

/-- A transaction in progress that sends a frame from the given source. -/
def sending (s : State) (source : FrameSource) (answer : Option AnswerRecord) : State :=
  s.setPort ⟨.active, [], some (source, List.replicate 64 0), answer, []⟩

/-- An OK answer to RELEASE. -/
def anAnswer : AnswerRecord := ⟨0x24, .ok, none⟩

/-- A frame of one code. -/
def frameOf (code : Byte) : List Byte := code :: List.replicate 63 0

/-- A STEP_RESULT with a verdict. -/
def resultOf (v : Verdict) : StepResult := { exampleResult with verdict := v }

theorem witness_StepTakesFront : (State.reset.setPending [.nop, .status]).pending = .nop :: [.status] := rfl

theorem witness_NothingDueChangesNothing :
    State.reset.pending = [] ∧ State.reset.Settled ∧ State.reset.engine.waiting = none
      ∧ Instr.windowDone.isEvent = true := by
  unfold State.Settled; decide +kernel

theorem witness_PortAndStoreAreKept :
    Instr.collapseDetect.isEvent = true
      ∧ exec .collapseDetect State.reset = .next (State.reset.collapseDetect.getD State.reset)
      ∧ Instr.nop.writesStore = false ∧ exec .nop State.reset = .next State.reset := ⟨rfl, rfl, rfl, rfl⟩

theorem witness_CurrentPageIsGuarded :
    (inWalk .paused hold).engine.walk.active = true ∧ (inWalk .paused hold).engine.page = some .a
      ∧ exec .nop (inWalk .paused hold) = .next (inWalk .paused hold) := ⟨rfl, rfl, rfl⟩

theorem witness_TransactionBeginChoosesFrame :
    (sending State.reset .idle (some anAnswer)).port.answer = some anAnswer
      ∧ (queued State.reset 1).port.answer = none ∧ (queued State.reset 1).queue = [.stepLevel (.pageSwap .a)]
      ∧ State.reset.port.answer = none ∧ State.reset.queue = [] := by decide +kernel

theorem witness_OutgoingFrameLayout :
    exec .transactionBegin State.reset = .next State.reset.beginTransaction
      ∧ (sending State.reset .idle (some anAnswer)).port.answer = some anAnswer := ⟨rfl, rfl⟩

theorem witness_CompletionConsumesThenTakes :
    (frameOf 0x02).length = 64 ∧ (sending State.reset .answer (some anAnswer)).port.select = .active
      ∧ List.replicate 64 (0 : Byte) = (List.replicate 64 0).take (frameOf 0x02).length
          ++ List.replicate ((frameOf 0x02).length - (List.replicate 64 (0 : Byte)).length) 0
      ∧ (sending State.reset .answer (some anAnswer)).port.outgoing = some (.answer, List.replicate 64 0)
      ∧ (sending (queued State.reset 1) .queue none).port.outgoing = some (.queue, List.replicate 64 0)
      ∧ (sending (queued State.reset 1) .queue none).engine.waiting = none
      ∧ (sending State.reset .idle none).port.outgoing = some (.idle, List.replicate 64 0) := by decide +kernel

/-- A record waits over a full queue whose head a NOP transaction has sent. -/
def full (s : State) (r : StepLevel) : State := waitingFor (sending (queued s 32) .queue none) r

/-- The completion of that transaction frees an entry, on the state with the head removed and the transaction ended; and
the row finds one free beside 31 records. -/
theorem witness_FreesEntry (s : State) (r : StepLevel) :
    (full s r).FreesEntry (((full s r).setQueue (full s r).queue.tail).setPort
        ⟨.inactive, frameOf 0x01, none, none, List.replicate 64 0⟩) (exec .nop)
        (exec (.transactionComplete (frameOf 0x01) 0) (full s r))
      ∧ (waitingFor (queued s 31) r).FreesEntry (waitingFor (queued s 31) r) .next
        (exec .stalledRecordPlaced (waitingFor (queued s 31) r)) := by
  refine ⟨.inr ⟨frameOf 0x01, List.replicate 64 0, 0, rfl, by decide, rfl, ?_, rfl, ?_, rfl⟩, .inl ⟨?_, rfl, rfl, rfl⟩⟩
  · exact Nat.le_of_eq List.length_replicate
  · exact congrArg exec (by decide +kernel : Instr.nop = frameCommand ((frameOf 0x01).take 64) 0)
  · exact Nat.lt_of_le_of_lt (Nat.le_of_eq List.length_replicate) (by decide : 31 < 32)

/-- Each record waiting, and in WINDDOWN before and after the releases; `witness_FreesEntry` for the entry. -/
theorem witness_StalledRecordIsPlaced :
    let w : WalkSummary := ⟨true, .pass, 3, 0, none⟩
    let released := (fun s => s.setEngine { s.engine with releasesDone := true }) (inWalk .winddown hold)
    (full (inWalk .winddown hold) (.walkSummary w)).engine.waiting = some (.walkSummary w)
      ∧ (full (inWalk .winddown hold) (.stepResult exampleResult)).engine.waiting = some (.stepResult exampleResult)
      ∧ (full (inWalk .winddown hold) (.stepResult exampleResult)).engine.walk = .winddown
      ∧ (full (inWalk .winddown hold) (.stepResult exampleResult)).engine.releasesDone = false
      ∧ (full released (.pageSwap .b)).engine.releasesDone = true := by decide +kernel

/-- A STEP_RESULT over a full queue and the cases of its branch: ABORT pending, stop_on_fail, next values 33 and 32 with and
without a mark, an empty slot 31, a pending pause with the unit released and held, and slot 1 with its claim to be raised,
driven already, and above an L of 10; at the page's end a level at rest_level, one above it and a range change; and a
PAGE_SWAP that waits, with slot 0 of the new page empty and not. `witness_FreesEntry` for the entry. -/
theorem witness_PlacedRecordBranches :
    let s (pass fail : Nat) (v : Verdict) :=
      full (inStepWith .exiting (StepContext.fresh .a 0 { record hold with nextPass := pass, nextFail := fail } 0 0))
        (.stepResult (resultOf v))
    let swap (p : Page) := full ((inWalk .running hold).setEngine { (inWalk .running hold).engine with page := some p })
      (.pageSwap p)
    let e := (s 33 32 .pass).engine
    let claim (s : State) := claimOf (s.currentSlot 1).body.peak s.engine.ratings.vNom
    let n := s 1 33 .pass
    let held := bayed n (fun b => { b with ownUnit := .trip, drivenClaim := 33 })
    let tight := n.setStore { n.store with config := some { bayConfig with limit := 10 } }
    let level (l : Nat) := driven (s 33 32 .limit) (fun d => { d with level := l, active := .level l })
    (e.walk = .running ∧ e.waiting = some (.stepResult (resultOf .pass)) ∧ e.step.isSome = true
        ∧ (s 33 32 .pass).queue.length = 32 ∧ e.abortPending = false ∧ e.stopOnFail = false
        ∧ (33 = if (resultOf .pass).verdict = .pass then (record hold).nextFail else 0))
      ∧ (((s 33 32 .pass).setEngine { e with abortPending := true }).engine.abortPending = true
        ∧ ((s 33 32 .limit).setEngine { e with header := some ⟨.a, 0, 0, 1000, 20, 5, true, false⟩ }).engine.stopOnFail = true
        ∧ (s 33 32 .limit).engine.chain = none
        ∧ ((s 33 32 .limit).setEngine { e with chain := some .b }).engine.chain = some .b
        ∧ ((s 31 33 .pass).currentSlot 31).kind = .none)
      ∧ ((n.currentSlot 1).kind ≠ .none ∧ n.bay.ownUnit = .released ∧ n.engine.pausePending = false
        ∧ (n.setEngine { n.engine with pausePending := true }).engine.pausePending = true
        ∧ n.bay.drivenClaim < claim n ∧ claim n ≤ n.bayLimit)
      ∧ (held.bay.ownUnit ≠ .released ∧ claim held ≤ held.bay.drivenClaim)
      ∧ (tight.bay.drivenClaim < claim tight ∧ tight.bayLimit < claim tight)
      ∧ ((swap .a).engine.waiting = some (.pageSwap .a) ∧ (swap .a).engine.page = some .a
        ∧ ((swap .a).store.slot .a 0).kind = .hold ∧ ((swap .b).store.slot .b 0).kind = .none)
      ∧ ((level 1000000).drive.level ≤ (level 1000000).engine.restLevel * 1000
        ∧ (level 1000001).engine.restLevel * 1000 < (level 1000001).drive.level
        ∧ (level 1000001).drive.dropHold = false ∧ (level 1000001).drive.busy = false
        ∧ (driven (level 0) (fun d => { d with rangeChange := .relayWait })).drive.rangeChange ≠ .none) := by
  decide +kernel

theorem witness_PortOnlyCommands :
    (sending State.reset .idle none).port.select = .active
      ∧ (sending State.reset .idle none).port.outgoing = some (.idle, List.replicate 64 0)
      ∧ (after (.pinReset 0) (sending State.reset .idle none)).port.select = .void := by decide +kernel

theorem witness_RefusedCommandOnlyAnswers :
    Instr.release.isAnswered = true ∧ exec .release State.reset = .next State.reset.takeRelease
      ∧ State.reset.takeRelease.port.answer = some ⟨0x24, .notHeld, none⟩ := ⟨rfl, rfl, rfl⟩

theorem witness_CommandFrameRoundTrip :
    (Instr.badCommand 0xFF).wellFormed = true ∧ (commandFrame (.badCommand 0xFF)).isSome = true
      ∧ (Instr.reset 15).wellFormed = true ∧ (commandFrame (.reset 15)).isSome = true := by decide

/-- The fields at the ends of their ranges, and an attempt_limit of 16, the first field that fails, before a gate_quiet
of 1001. -/
theorem witness_ConfigureStoresOrRefuses :
    (inWalk .idle hold).store.config.isSome = true ∧ State.reset.store.config = none
      ∧ Accepts (configAccepts ⟨2047, 50, 100, 15, 1000, 1⟩) ∧ Accepts (configAccepts ⟨1, 1, 1, 1, 0, 0⟩)
      ∧ ¬ Accepts (configAccepts ⟨170, 2, 8, 16, 1001, 0⟩)
      ∧ FirstFailing (configAccepts ⟨170, 2, 8, 16, 1001, 0⟩) 4 := by
  simp only [Accepts, FirstFailing, configAccepts]
  refine ⟨?_, ?_, ?_, ?_, ?_, ?_⟩ <;> decide +kernel

/-- The DERATE record of the example, accepted with tol_hi 50, and with 600 refused with field 31; a record whose
second check entry alone fails; and a NONE. -/
theorem witness_WriteStepStoresOrRefuses :
    Page.ofCode (derateWrite 1 50).page = some .a ∧ (derateWrite 1 50).index.toNat ≤ 31
      ∧ curveStore.engine.walk.active = false ∧ curveStore.engine.chain ≠ some .a
      ∧ Kind.ofCode (derateWrite 1 50).kind = some .derate
      ∧ Accepts (stepAccepts curveStore.store (derateWrite 1 50) .derate)
      ∧ FirstFailing (stepAccepts curveStore.store (derateWrite 1 600) .derate) 31
      ∧ FirstFailing (stepAccepts curveStore.store { derateWrite 1 50 with checkCount := 2, check2 := ⟨9, 0, 0, 0⟩ }
          .derate) 16
      ∧ Kind.ofCode ({ derateWrite 1 600 with kind := 0 } : StepFields).kind = some .none := by
  refine ⟨by decide, by decide, by decide, by decide, by decide, ?_, ?_, ?_, by decide⟩ <;>
    simp +decide [Accepts, FirstFailing, stepAccepts, kindAccepts, checkAccepts, CurveRefAcceptable]

theorem witness_WriteGuards :
    Page.ofCode 2 = none ∧ Page.ofCode 0 = some .a ∧ Page.ofCode 1 = some .b ∧ 31 < (32 : Byte).toNat
      ∧ (inWalk .running hold).engine.walk.active = true ∧ (inWalk .running hold).engine.page = some .a
      ∧ (after .armChain (inWalk .running hold)).engine.chain = some .b ∧ Kind.ofCode 9 = none := by decide +kernel

/-- Two points at the ends of the axis; two that do not rise, refused with field 6; and a bad axis before a bad
count. -/
theorem witness_WriteCurveStores :
    State.reset.engine.walk.active = false ∧ Accepts (curveAccepts ⟨7, 1, 2, [(0xFE70, 0), (1250, 1000)]⟩)
      ∧ Axis.ofCode 1 = some .temperature ∧ FirstFailing (curveAccepts ⟨7, 2, 1, []⟩) 2
      ∧ Accepts (pointAccepts .temperature 1 none [(0xFE70, 0), (1250, 1000)])
      ∧ FirstFailing (pointAccepts .temperature 1 none [(5, 0), (5, 0)]) 6 := by
  simp only [Accepts, FirstFailing, curveAccepts, pointAccepts, Option.some.injEq, forall_eq', reduceCtorEq,
    false_implies, implies_true, and_true]
  decide +kernel

/-- Ratings and a channel profile at the ends of their ranges, and V_nom and averaging out of theirs. -/
theorem witness_WriteProfileAndChannelStore :
    State.reset.engine.walk.active = false
      ∧ Accepts (profileAccepts ⟨3, 1000, 60000, 59999, 1, 12000, 3050⟩)
      ∧ FirstFailing (profileAccepts ⟨3, 1000, 60001, 59999, 1, 12000, 3050⟩) 3
      ∧ channelOfCode 4 = some .tInlet ∧ Policy.ofCode 1 = some .mark
      ∧ Accepts (channelAccepts ⟨4, 131071, 0xFFFFF98E, 64, 10000, 0, 1⟩)
      ∧ FirstFailing (channelAccepts ⟨4, 131071, 0xFFFFF98E, 3, 10001, 0, 1⟩) 4 := by
  have h : channelOfCode 4 = some .tInlet := by decide
  simp only [Accepts, FirstFailing, profileAccepts, channelAccepts, h, Option.some.injEq, forall_eq']
  refine ⟨?_, ?_, ?_, ?_, ?_, ?_, ?_⟩ <;> decide +kernel

theorem witness_StartWalkRefusalOrder :
    (inWalk .held hold).engine.walk = .held ∧ (inWalk .winddown hold).engine.walk.active = true
      ∧ State.reset.engine.walk = .idle ∧ State.reset.store.config = none
      ∧ (inWalk .idle hold).store.config.isSome = true
      ∧ FirstFailing (startAccepts (inWalk .idle hold).store ⟨0, 0, 0, 1000, 9, 601, 0, 0⟩) 5
      ∧ Accepts (startAccepts (inWalk .idle hold).store ⟨1, 31, 0, 12000, 10, 600, 1, 1⟩)
      ∧ ((inWalk .idle hold).setInterlock true).interlockOpen = true
      ∧ ((inWalk .idle hold).store.slot .b 31).kind = .none := by
  simp only [Accepts, FirstFailing, startAccepts]; decide +kernel

/-- `s` with another L in its bay configuration. -/
def limited (s : State) (limit : Nat) : State :=
  s.setStore { s.store with config := some { bayConfig with limit := limit } }

/-- A first step whose claim is L, with the claim below it driven; a gated and another kind whose claim is the one driven;
and a claim of L + 1, with an entry free, under stop_on_fail, and with none. -/
theorem witness_StartWalkBeginsFirstStep :
    let claimed (b : StepBody) (claim : Nat) := bayed (inWalk .idle b) (fun y => { y with drivenClaim := claim })
    (∀ s ∈ [limited (claimed hold 32) 33, claimed dropping 33, claimed hold 33, limited (claimed hold 31) 32,
        queued (limited (claimed hold 31) 32) 32],
      s.engine.walk = .idle ∧ s.store.config.isSome = true ∧ s.interlockOpen = false
        ∧ (s.store.slot .a 0).kind ≠ .none ∧ s.engine.waiting = none
        ∧ Accepts (startAccepts s.store ⟨0, 0, 0, 1000, 200, 30, 0, 0⟩)
        ∧ Accepts (startAccepts s.store ⟨0, 0, 0, 1000, 200, 30, 1, 1⟩)
        ∧ claimOf (s.store.slot .a 0).body.peak (s.store.profile 0).ratings.vNom = 33)
      ∧ ((limited (claimed hold 32) 33).bay.drivenClaim < 33 ∧ 33 ≤ (limited (claimed hold 32) 33).bayLimit)
      ∧ (33 ≤ (claimed hold 33).bay.drivenClaim ∧ dropping.kind.gated = true ∧ hold.kind.gated = false)
      ∧ ((limited (claimed hold 31) 32).bay.drivenClaim < 33 ∧ (limited (claimed hold 31) 32).bayLimit < 33
        ∧ (limited (claimed hold 31) 32).queue.length < 32
        ∧ 32 ≤ (queued (limited (claimed hold 31) 32) 32).queue.length) := by
  simp only [Accepts, startAccepts]; decide +kernel

/-- A first step above L under stop_on_fail fails the walk, and one admitted at once stands in APPLY with every blank
WAITING (R24, R31, R51, R94). -/
theorem test_first_step_over_bay_or_at_once :
    let above := after (.startWalk ⟨0, 0, 0, 1000, 200, 30, 1, 0⟩) (limited (inWalk .idle hold) 32)
    let once := after (.startWalk ⟨0, 0, 0, 1000, 200, 30, 0, 0⟩)
      (bayed (inWalk .idle hold) (fun b => { b with drivenClaim := 33 }))
    (above.engine.walk, above.engine.reason, above.queue.length, above.bay.drivenClaim) = (.winddown, some .fail, 1, 0)
      ∧ (once.engine.phase, once.bay.admissionAttempts, once.acq.blanks.vLine) = (.applying, 0, .waiting) := by
  decide +kernel

theorem witness_PauseAndResumeAnswers :
    (bayed (inWalk .pageWait hold) (fun b => { b with ownUnit := .trip })).bay.ownUnit ≠ .released
      ∧ (inWalk .running hold).bay.ownUnit = .released ∧ (inWalk .paused hold).engine.walk = .paused
      ∧ (inWalk .held hold).engine.walk = .held
      ∧ (after .pause (inWalk .running hold)).engine.pausePending = true
      ∧ (inWalk .running hold).engine.pausePending = false := by decide +kernel

/-- A claim of L to raise, the claim of a gated and of another kind driven, and a claim of L + 1. -/
theorem witness_ResumeEntersAdmit :
    let claimed (b : StepBody) (claim : Nat) := bayed (inWalk .paused b) (fun y => { y with drivenClaim := claim })
    (∀ s ∈ [limited (claimed hold 32) 33, claimed dropping 33, claimed hold 33, limited (claimed hold 31) 32],
      s.engine.walk = .paused ∧ s.engine.waiting = none ∧ s.engine.page = some .a
        ∧ claimOf (s.currentSlot s.engine.resumeIndex).body.peak s.engine.ratings.vNom = 33)
      ∧ ((limited (claimed hold 32) 33).bay.drivenClaim < 33 ∧ 33 ≤ (limited (claimed hold 32) 33).bayLimit)
      ∧ (33 ≤ (claimed hold 33).bay.drivenClaim
        ∧ ((claimed dropping 33).currentSlot (claimed dropping 33).engine.resumeIndex).kind.gated = true
        ∧ ((claimed hold 33).currentSlot (claimed hold 33).engine.resumeIndex).kind.gated = false)
      ∧ ((limited (claimed hold 31) 32).bay.drivenClaim < 33 ∧ (limited (claimed hold 31) 32).bayLimit < 33) := by
  decide +kernel

/-- A DROPOUT step in BODY with its line off. -/
def lineOff : State := driven (inStep .body dropping) (fun d =>
  { d with level := 3000000, active := .level 3000000, coupling := .off 5 1000, lineEnable := false })

/-- A RECOVER step in BODY in its shelf reset pulse. -/
def inResetPulse : State := driven (inStep .body (.recover 2000 5)) (fun d =>
  { d with resetPulse := some 20, shelfEnable := false })

/-- A raise in ADMIT, an ATTEMPT unit and a GATE unit in GATE, a pulse in force, a range change, a block in fill of a
capture that collects, a line that is off, a reset pulse, a trip on the same sample, and a full queue. -/
theorem witness_AbortEndsStep :
    let raising := bayed (inStep .admitting hold) (fun b => { b with protocol := .raising, drivenClaim := 33 })
    let gate (u : OwnUnit) := bayed (inStep .gate search) (fun b => { b with protocol := .asserting, ownUnit := u })
    let pulse := driven (inStep .body pulsing) (fun d =>
      { d with active := .pulse 2000 4000 20 5 3, status := .acting, pulse := some ⟨1, 3⟩ })
    let down := driven (inStep .applying hold) (fun d => { d with rangeChange := .relayWait })
    let filling := measured (inStep .body hold) (fun a =>
      { a with capture := { a.capture with mode := .terminal, state := .collecting, fill := [default] } })
    let tripped := measured (inStep .body hold) (fun a => { a with detectors := { a.detectors with collapse := some ⟨40000, 3⟩ } })
    (raising.StepIn .admitting (context hold) ∧ raising.claimStopped .admitting = 0)
      ∧ ((gate .attempt).StepIn .gate (context search) ∧ (gate .attempt).unitStopped .gate = .released)
      ∧ ((gate .gate).StepIn .gate (context search) ∧ (gate .gate).unitStopped .gate = .gate)
      ∧ (pulse.StepIn .body (context pulsing) ∧ Phase.drives .body = true ∧ pulse.drive.rangeChange = .none
        ∧ pulse.drive.status = .acting)
      ∧ (down.StepIn .applying (context hold) ∧ down.drive.rangeChange ≠ .none)
      ∧ (filling.StepIn .body (context hold) ∧ filling.lastBlock.length = 1)
      ∧ (lineOff.StepIn .body (context dropping) ∧ 32 ≤ (queued lineOff 32).queue.length)
      ∧ (inResetPulse.StepIn .body (context (.recover 2000 5)) ∧ inResetPulse.acq.detectors.tripDue = false)
      ∧ (tripped.StepIn .body (context hold) ∧ tripped.acq.detectors.tripDue = true)
      ∧ (∀ v ∈ (context hold).contributions, 3 < v.rank) ∧ (inStep .gate search).queue.length < 32 := by
  unfold State.StepIn State.claimStopped State.unitStopped State.lastBlock; decide +kernel

/-- ABORT and the time limit bring back a line that is off and a shelf in its reset pulse (R87, R88). -/
theorem test_halt_enables_line_and_shelf :
    let expired (s : State) := s.mapStep (fun c => { c with timeLeft := 0 })
    ([after .abort lineOff, after .stepTimeLimitExpiry (expired lineOff)].map (fun t =>
        (t.drive.lineEnable, t.drive.coupling, t.drive.level))) = [(true, .none, 3000000), (true, .none, 3000000)]
      ∧ ([after .abort inResetPulse, after .stepTimeLimitExpiry (expired inResetPulse)].map (fun t =>
        (t.drive.shelfEnable, t.drive.resetPulse))) = [(true, none), (true, none)] := by decide +kernel

/-- PAUSED; PAGE_WAIT at rest, in its rest ramp and in a range change; a record that waits, WINDDOWN and IDLE. -/
theorem witness_AbortWithoutStep :
    (inWalk .paused hold).engine.walk = .paused ∧ (inWalk .pageWait hold).engine.walk = .pageWait
      ∧ (driven (inWalk .pageWait hold) (fun d =>
          { d with level := 2000000, active := .ramp none 1000 20, status := .acting })).drive.busy = false
      ∧ (driven (inWalk .pageWait hold) (fun d => { d with rangeChange := .relayWait })).drive.busy = true
      ∧ (waitingFor (inWalk .running hold) (.pageSwap .a)).engine.waiting.isSome = true
      ∧ (inWalk .winddown hold).engine.walk = .winddown ∧ State.reset.engine.walk = .idle := by decide +kernel

/-- Between walks, with lines and drive at rest and no step or record left over, the lines rest. -/
theorem linesRest_between_walks {s : State} (walk : s.engine.walk = .idle ∨ s.engine.walk = .held)
    (bay : s.bay.AtRest) (drive : s.drive.AtRest) (step : s.engine.step = none) (waiting : s.engine.waiting = none)
    (undone : s.engine.releasesDone = false) : s.LinesRest := by
  have ⟨level, active, _, staged, _, _, _, pulse, _⟩ := drive
  refine ⟨fun _ => ⟨bay, drive⟩, fun h => ?_, fun h => ?_, fun h => ?_, ?_, fun w h => ?_, fun r h => ?_, fun _ => step,
    fun n h => ?_⟩
  · simp [h] at walk
  · simp [undone] at h
  · simp [h] at walk
  · exact ⟨by simp [level], by simp [active, GenSet.peak], by simp [staged]⟩
  · simp [waiting] at h
  · simp [waiting] at h
  · simp [pulse] at h

theorem witness_ReleaseLeavesHeld :
    (inWalk .held hold).LinesRest ∧ (inWalk .held hold).engine.walk = .held
      ∧ (inWalk .running hold).engine.walk ≠ .held
      ∧ exec .release (inWalk .held hold) = .next (inWalk .held hold).takeRelease
      ∧ (inWalk .held hold).takeRelease.engine.walk ≠ .held :=
  ⟨linesRest_between_walks (.inr rfl) (by unfold Bay.AtRest; decide +kernel) (by unfold Drive.AtRest; decide +kernel)
    rfl rfl rfl, rfl, by decide, rfl, by decide⟩

theorem witness_ChainCommandsMoveTheMark :
    (inWalk .held hold).engine.walk = .held
      ∧ (after .armChain (inWalk .running hold)).engine.chain.isSome = true
      ∧ (inWalk .winddown hold).engine.chain = none ∧ (inWalk .winddown hold).engine.page = some .a
      ∧ (inWalk .pageWait hold).engine.walk = .pageWait ∧ (inWalk .pageWait hold).engine.chain = none
      ∧ (inWalk .pageWait hold).engine.page = some .a ∧ (inWalk .pageWait hold).queue.length < 32
      ∧ 32 ≤ (queued (inWalk .pageWait hold) 32).queue.length := by decide +kernel

/-- The state of the witnesses of the SAMPLE statements: a step in BODY with nothing due. -/
def sampled : State := driven (inStep .body hold) (fun d => { d with active := .ramp none 3000 2000, status := .acting })

/-- The same step with every detector armed and a capture that collects. -/
def armed : State := measured sampled (fun a =>
  { a with
    detectors := ⟨some ⟨40000, 2⟩, true, false, some ⟨50000, 9⟩, some 52000, false⟩
    capture := { a.capture with mode := .terminal, state := .collecting, fill := [default] } })

/-- A span that has run out, its end still due; sample operands that deliver nothing of their own, or no detector armed; a
change of the claim since the last sample and an older value of it; an asserted unit, and spans that have two samples and
one to run. -/
theorem witness_SampleReadsBayLines :
    let due := bayed sampled (fun b => { b with releaseSpan := some 0 })
    let moved := bayed sampled (fun b => { b with drivenClaim := 33, claimOnLine := ⟨5, [(7, 3)]⟩ })
    firstDue due dueEvents = some sampled ∧ due.settleDue.Settled
      ∧ sampled.Settled ∧ sampled.acq.detectors.Quiet ∧ (codesLate 0 0).alarmLate = true ∧ (codesLate 0 0).kneeLate = true
      ∧ armed.Settled ∧ moved.Settled ∧ moved.bay.drivenClaim ≠ moved.bay.claimOnLine.current ∧ 1 < moved.lineSettle
      ∧ (bayed sampled (fun b => { b with releaseSpan := some 2 })).Settled
      ∧ (bayed sampled (fun b => { b with releaseSpan := some 1 })).Settled
      ∧ (bayed sampled (fun b => { b with ownUnit := .trip })).Settled := by
  unfold State.Settled Detectors.Quiet; decide +kernel

/-- A quiet state, and a step in BODY with every detector armed; windows that are open and waiting, and a capture that
collects. -/
theorem witness_SampleTakesCodes :
    let window (m : WindowMode) (st : WindowState) (n : Nat) := measured sampled (fun a =>
      { a with window := { a.window with mode := m, state := st, length := 2, count := n } })
    sampled.Settled ∧ sampled.acq.detectors.Quiet ∧ armed.Settled ∧ armed.acq.detectors.collapse = some ⟨40000, 2⟩
      ∧ armed.acq.detectors.regulation = some ⟨50000, 9⟩ ∧ armed.acq.detectors.alarmArmed = true
      ∧ armed.acq.detectors.knee = some 52000 ∧ armed.acq.capture.state = .collecting
      ∧ (window .counted .opened 1).Settled ∧ (window .span .opened 5).Settled ∧ (window .counted .waiting 0).Settled
      ∧ sampled.store.config = some bayConfig := by
  unfold State.Settled Detectors.Quiet; decide +kernel

/-- A ramp that rises, one that falls and one with a from; a LEVEL set; a pulse inside and at the end of its period, under
armed detectors too; and DOWN of a range change. -/
theorem witness_SampleMovesGenerator :
    let pulse (s : State) (n : Nat) := driven s (fun d =>
      { d with active := .pulse 2000 4000 20 5 3, status := .acting, pulse := some ⟨1, n⟩ })
    let level := driven (inStep .body hold) (fun d => { d with active := .level 5, status := .acting })
    let falling := driven (inStep .body hold) (fun d =>
      { d with active := .ramp none 0 2000, status := .acting, level := 3000 })
    let starting := driven (inStep .body hold) (fun d => { d with active := .ramp (some 1000) 3000 20, status := .acting })
    let down := driven (inStep .applying hold) (fun d =>
      { d with active := .ramp none 0 200, status := .acting, level := 3000, rangeChange := .down .high false })
    (sampled.Settled ∧ sampled.drive.status = .acting ∧ sampled.drive.rangeChange = .none
        ∧ sampled.drive.level ≤ 3000 * 1000 ∧ armed.Settled ∧ armed.drive.status = .acting)
      ∧ (falling.Settled ∧ 0 * 1000 ≤ falling.drive.level) ∧ level.Settled ∧ starting.Settled
      ∧ (pulse (inStep .body pulsing) 19).Settled ∧ (pulse (inStep .body pulsing) 20).Settled ∧ (pulse armed 19).Settled
      ∧ (pulse armed 19).drive.pulse = some ⟨1, 19⟩
      ∧ (down.Settled ∧ down.drive.rangeChange = .down .high false) := by
  unfold State.Settled; decide +kernel

theorem witness_SampleRunsCounts :
    let waiting (rest : RestStage) := (fun s => s.setEngine { s.engine with pageWaitLeft := 1, rest := rest })
      (inWalk .pageWait hold)
    let trip := { context search with wait := some 5 }
    sampled.Settled ∧ sampled.acq.detectors.Quiet ∧ sampled.StepIn .body (context hold) ∧ armed.Settled
      ∧ (bayed (inStep .admitting hold) (fun b => { b with protocol := .raising, protocolCount := 1 })).Settled
      ∧ (bayed (inStep .gate search) (fun b => { b with protocol := .quiet, protocolCount := 49 })).Settled
      ∧ (bayed sampled (fun b => { b with releaseSpan := some 1 })).Settled
      ∧ (measured sampled (fun a => { a with blanks := PerChannel.same (.counting 1) })).Settled
      ∧ (driven sampled (fun d => { d with coupling := .off 1 200, resetPulse := some 1 })).Settled
      ∧ ((inStepWith .body trip).Settled ∧ (inStepWith .body trip).StepIn .body trip)
      ∧ (waiting .atNextUpdate).Settled ∧ (waiting .reached).Settled ∧ (waiting .reached).engine.walk = .pageWait := by
  unfold State.Settled Detectors.Quiet State.StepIn; decide +kernel

/-- Operands of an active alarm input. -/
def alarmed : SampleInput := { codes 54000 0 with alarmHigh := true }

/-- A step with its alarm detector armed, and inactive alarm input so far. -/
def watched (b : StepBody) : State := measured (inStep .body b) (fun a =>
  { a with detectors := { a.detectors with alarmArmed := true }, latest := some (sampleOf (codes 54000 0)) })

/-- A step in SETTLE at its last blank, on a sample that finds the alarm input active. -/
def settling (b : StepBody) : State :=
  measured (inStepWith .settle { context b with settleSet := settleSetOf (record b) }) (fun a =>
    { a with blanks := (PerChannel.same Blank.closed).put .vOut (.counting 0), latest := some (sampleOf alarmed) })

/-- A step whose APPLY completes on such a sample with nothing to settle. -/
def applying (b : StepBody) : State :=
  measured (driven (inStepWith .applying { context b with settleSet := settleSetOf (record b) })
    (fun d => { d with status := .ended })) (fun a => { a with latest := some (sampleOf alarmed) })

/-- The context of the step in progress. -/
def stepOf (s : State) : StepContext := s.engine.step.getD (context hold)

/-- Each way in which a trip is delivered: a collapse by its row, an alarm by the SAMPLE that finds it, by its own event, and
at BODY start; dated two samples back and at its sample. -/
theorem witness_Delivers :
    let collapse := measured (inStep .body hold) (fun a =>
      { a with detectors := { a.detectors with collapse := some ⟨40000, 3⟩ } })
    let alarm := measured (inStep .body hold) (fun a =>
      { a with detectors := { a.detectors with alarmArmed := true, alarmHit := true } })
    collapse.Delivers collapse (exec .collapseDetect collapse) ∧ collapse.acq.detectors.tripBack = 2
      ∧ alarm.Delivers alarm (.next (alarm.alarmDetect.getD alarm)) ∧ alarm.acq.detectors.tripBack = 0
      ∧ (watched hold).Delivers ((watched hold).takeSample alarmed) (exec (.sample alarmed) (watched hold))
      ∧ (settling hold).Delivers ((settling hold).setAcq ((settling hold).acq.closeBlank .vOut)).enterBody
          (exec (.blankClose .vOut) (settling hold))
      ∧ (applying hold).Delivers (applying hold).applied.enterBody (exec .applyComplete (applying hold)) := by
  refine ⟨.inl ⟨rfl, ⟨_, rfl, by decide⟩, rfl⟩, by decide, .inr ⟨by decide, by decide, .inl ⟨rfl, rfl⟩⟩, by decide,
    .inr ⟨by decide +kernel, by decide +kernel, .inr (.inl ⟨alarmed, by decide +kernel, rfl, .inl (by decide +kernel), rfl, rfl⟩)⟩,
    .inr ⟨by decide +kernel, by decide +kernel, .inr (.inr (.inl
      ⟨.vOut, { context hold with settleSet := settleSetOf (record hold) }, by decide +kernel, ?_, ?_, rfl, rfl, rfl⟩))⟩,
    .inr ⟨by decide +kernel, by decide +kernel, .inr (.inr (.inr
      ⟨{ context hold with settleSet := settleSetOf (record hold) }, ?_, rfl, rfl, ?_, rfl, rfl, rfl⟩))⟩⟩
  · unfold State.StepIn; decide +kernel
  · intro d; cases d <;> decide +kernel
  · unfold State.StepIn; decide +kernel
  · intro d; cases d <;> decide +kernel

/-- An alarm that the BODY start sample finds ends the HOLD at once, or waits when its operand puts it after the other
events of the sample (R162, R168). -/
theorem test_alarm_at_body_start :
    let late := measured (settling hold) (fun a => { a with alarmLate := true })
    ((after (.blankClose .vOut) (settling hold)).bay.ownUnit, (after (.blankClose .vOut) (settling hold)).queue.length)
        = (.trip, 1)
      ∧ ((after (.blankClose .vOut) late).engine.phase, (after (.blankClose .vOut) late).acq.detectors.alarmHit)
        = (.body, true) := by decide +kernel

/-- A HOLD short of its window and one at it, a watch at its length, a RAMP at its end, a PULSE at its last cycle, and a
DERATE, which none completes; and, as `witness_Delivers` says how, each delivery of an alarm in a HOLD. -/
theorem witness_TripEndsStepUnexpectedly :
    let trip (s : State) := measured s (fun a => { a with detectors := { a.detectors with collapse := some ⟨40000, 3⟩ } })
    let complete (s : State) := measured s (fun a =>
      { a with window := { a.window with mode := .counted, state := .opened, length := 2, count := 2 } })
    let ramp := driven (inStep .body (.ramp 1000 2000 20)) (fun d => { d with status := .ended })
    let pulse := driven (inStep .body pulsing) (fun d =>
      { d with active := .pulse 2000 4000 20 5 3, status := .acting, completed := 2, cycleEnded := true })
    let s := trip (inStep .body hold)
    (s.StepIn .body (context hold) ∧ (∀ v ∈ (context hold).contributions, 4 < v.rank) ∧ (context hold).record.kind = .hold
        ∧ s.acq.detectors.collapse = some ⟨40000, 3⟩ ∧ s.acq.window.complete = false)
      ∧ (trip (complete (inStep .body hold))).Completes .body (context hold)
      ∧ (trip (complete (inStep .body (.recover 2000 0)))).Completes .body (context (.recover 2000 0))
      ∧ (trip ramp).Completes .body (context (.ramp 1000 2000 20))
      ∧ (trip pulse).Completes .body (context pulsing)
      ∧ ((trip (inStep .body derating)).StepIn .body (context derating) ∧ (context derating).record.kind = .derate)
      ∧ (∃ c, ((watched hold).takeSample alarmed).StepIn .body c ∧ c.contributions = [] ∧ c.record.kind = .hold)
      ∧ (∃ c, ((settling hold).setAcq ((settling hold).acq.closeBlank .vOut)).enterBody.StepIn .body c
        ∧ c.contributions = [] ∧ c.record.kind = .hold)
      ∧ ∃ c, (applying hold).applied.enterBody.StepIn .body c ∧ c.contributions = [] ∧ c.record.kind = .hold := by
  refine ⟨?_, .inl ?_, .inl ?_, .inr (.inl ?_), .inr (.inr ⟨?_, ?_, 2000, 4000, 20, 5, 3, ?_, .inr ?_⟩), ?_,
    ⟨stepOf ((watched hold).takeSample alarmed), ?_⟩,
    ⟨stepOf ((settling hold).setAcq ((settling hold).acq.closeBlank .vOut)).enterBody, ?_⟩,
    ⟨stepOf (applying hold).applied.enterBody, ?_⟩⟩ <;>
    (try unfold State.StepIn) <;> decide +kernel

/-- A trip in BODY with nothing to capture, and with a history of 30 samples to capture; a trip in the EXIT after NO_TRIP;
and a trip in OFF of a DROPOUT step; an alarm that the BODY start sample of a TRIP_TIME step finds. -/
theorem witness_TripIsOwnTripOfTripStep :
    let trip (s : State) := measured s (fun a => { a with detectors := { a.detectors with collapse := some ⟨30000, 3⟩ } })
    let s (b : StepBody) := trip (inStep .body b)
    let recorded := measured (s search) (fun a =>
      { a with history := List.replicate 30 default, capture := { a.capture with mode := .trip } })
    let c := { context timed with contributions := [.noTrip] }
    let late := trip (inStepWith .exiting c)
    let off := bayed (driven (s dropping) (fun d => { d with coupling := .off 5 1000 })) (fun b => { b with ownUnit := .gate })
    ((s search).StepIn .body (context search) ∧ (s search).acq.capture = Capture.reset
        ∧ (context search).record.body = search ∧ (context search).contributions = [])
      ∧ ((s timed).StepIn .body (context timed) ∧ (context timed).record.body = timed)
      ∧ (recorded.StepIn .body (context search) ∧ recorded.acq.capture.mode = .trip ∧ recorded.acq.capture.state = .idle
        ∧ recorded.acq.capture.fill = [] ∧ 2 = recorded.acq.history.length / 12 ∧ (queued recorded 23).queue.length + 2 ≤ 25)
      ∧ (late.StepIn .exiting c ∧ c.record.kind = .tripTime ∧ late.acq.capture = Capture.reset)
      ∧ (off.StepIn .body (context dropping) ∧ (context dropping).record.body = dropping ∧ off.bay.ownUnit = .gate
        ∧ off.drive.coupling = .off 5 1000 ∧ off.acq.window.state = .closed ∧ 32 ≤ (queued off 32).queueAtEnd.length)
      ∧ (∃ c, ((settling timed).setAcq ((settling timed).acq.closeBlank .vOut)).enterBody.StepIn .body c
        ∧ c.record.body = timed ∧ c.contributions = []) := by
  unfold State.StepIn State.queueAtEnd
  refine ⟨?_, ?_, ?_, ?_, ?_, stepOf ((settling timed).setAcq ((settling timed).acq.closeBlank .vOut)).enterBody, ?_⟩ <;>
    decide +kernel

/-- The tenth sample in regulation; the end of the ramp to I_rest; and the watch at its length with a MIN at V_reg_low and
one below it. -/
theorem witness_RegulationStartsRestRamp :
    let c := context (.recover 2000 0)
    let s := measured (inStepWith .body c) (fun a =>
      { a with detectors := { a.detectors with regulation := some ⟨50000, 10⟩ } })
    let ramp := driven (inStepWith .body { c with stage := .restRamp }) (fun d => { d with status := .ended })
    let watch (v : Int) := bayed (measured (inStepWith .body { c with stage := .watch }) (fun a =>
      { a with window := { a.window with
        mode := .counted, state := .opened, length := 100, count := 100
        channels := [⟨.measured .vOut, 100 * v, some (v, v), false⟩] } })) (fun b => { b with ownUnit := .trip })
    (s.StepIn .body c ∧ c.record.body = .recover 2000 0 ∧ s.acq.detectors.regulation = some ⟨50000, 10⟩
        ∧ s.drive.dropHold = false ∧ s.drive.busy = false)
      ∧ (ramp.StepIn .body { c with stage := .restRamp } ∧ ramp.drive.status = .ended)
      ∧ ((watch 50000).StepIn .body { c with stage := .watch } ∧ c.contributions = [] ∧ (watch 50000).acq.window.complete = true
        ∧ (watch 50000).drive.rangeChange = .none ∧ (watch 50000).bay.ownUnit = .trip
        ∧ (watch 50000).engine.ratings.vRegLow = 50000
        ∧ (watch 49999).acq.window.statistic (.measured .vOut) .minimum = some 49999) := by
  unfold State.StepIn; decide +kernel

/-- A step whose time has run out: at rest, in a pulse, in a range change, in RAISING, with a full queue, with its line off
and in a reset pulse. -/
theorem witness_TimeLimitEndsStep :
    let c (b : StepBody) := { context b with timeLeft := 0 }
    let s := inStepWith .body (c hold)
    let p := driven (inStepWith .body (c pulsing)) (fun d =>
      { d with active := .pulse 2000 4000 20 5 3, status := .acting, pulse := some ⟨1, 3⟩ })
    let r := driven (inStepWith .applying (c hold)) (fun d => { d with rangeChange := .relayWait })
    let a := bayed (inStepWith .admitting (c hold)) (fun b => { b with protocol := .raising, drivenClaim := 33 })
    (s.StepIn .body (c hold) ∧ (∀ v ∈ (c hold).contributions, 3 < v.rank) ∧ (c hold).timeLeft = 0
        ∧ s.drive.rangeChange = .none ∧ s.drive.pulsing = false)
      ∧ (p.StepIn .body (c pulsing) ∧ p.drive.status = .acting ∧ p.drive.rangeChange = .none)
      ∧ (r.StepIn .applying (c hold) ∧ r.drive.rangeChange ≠ .none)
      ∧ ((queued a 32).StepIn .admitting (c hold) ∧ 32 ≤ (queued a 32).queueAtEnd.length)
      ∧ (lineOff.mapStep (fun c => { c with timeLeft := 0 })).StepIn .body (c dropping)
      ∧ (inResetPulse.mapStep (fun c => { c with timeLeft := 0 })).StepIn .body (c (.recover 2000 5)) := by
  unfold State.StepIn State.queueAtEnd; decide +kernel

theorem witness_PageWaitExpiryStarves :
    (inWalk .pageWait hold).engine.walk = .pageWait ∧ (inWalk .pageWait hold).engine.pageWaitLeft = 0
      ∧ (inWalk .pageWait hold).drive.busy = false
      ∧ (driven (inWalk .pageWait hold) (fun d => { d with rangeChange := .relayWait })).drive.busy = true := by
  decide +kernel

/-- T equal to L and one above it; an attempt below the limit of 4 and the fourth. -/
theorem witness_AdmissionDecides :
    let s (b : StepBody) (total attempts : Nat) := bayed (inStep .admitting b) (fun y =>
      { y with protocol := .raising, bayTotal := total, admissionAttempts := attempts })
    ((s search 170 1).StepIn .admitting (context search) ∧ (s search 170 1).bay.bayTotal ≤ (s search 170 1).bayLimit
        ∧ (context search).record.kind.gated = true)
      ∧ ((s hold 170 1).StepIn .admitting (context hold) ∧ (context hold).record.kind.gated = false)
      ∧ (s hold 171 3).bayLimit < (s hold 171 3).bay.bayTotal
      ∧ (s hold 171 3).bay.admissionAttempts < (s hold 171 3).attemptLimit
      ∧ (s hold 171 4).attemptLimit ≤ (s hold 171 4).bay.admissionAttempts
      ∧ 32 ≤ (queued (s hold 171 4) 32).queueAtEnd.length := by
  unfold State.StepIn State.queueAtEnd; decide +kernel

theorem witness_ProtocolWaitsEnd :
    let b := bayed (inStep .backoff hold) (fun y => { y with protocol := .backoff })
    let q := bayed (inStep .gate search) (fun y => { y with protocol := .quiet, protocolCount := 50 })
    let g := bayed (inStep .gateBackoff search) (fun y => { y with protocol := .gateBackoff })
    (b.StepIn .backoff (context hold) ∧ b.bay.protocol = .backoff ∧ b.bay.protocolCount = 0)
      ∧ (q.StepIn .gate (context search) ∧ q.bay.protocol = .quiet ∧ q.quietSamples ≤ q.bay.protocolCount
        ∧ q.bay.ownUnit = .released)
      ∧ (g.StepIn .gateBackoff (context search) ∧ g.bay.protocol = .gateBackoff ∧ g.bay.protocolCount = 0)
      ∧ (bayed State.reset (fun y => { y with releaseSpan := some 0 })).bay.releaseSpan = some 0 := by
  unfold State.StepIn; decide +kernel

theorem witness_GateDecides :
    let s (others attempts : Nat) := bayed (inStep .gate search) (fun y =>
      { y with protocol := .asserting, ownUnit := .attempt, censusOthers := others, gateAttempts := attempts })
    (s 0 1).StepIn .gate (context search) ∧ (s 0 1).bay.protocol = .asserting ∧ (s 0 1).bay.protocolCount = 0
      ∧ (s 0 1).bay.ownUnit = .attempt ∧ (s 0 1).bay.censusOthers = 0
      ∧ 1 ≤ (s 1 3).bay.censusOthers ∧ (s 1 3).bay.gateAttempts < (s 1 3).attemptLimit
      ∧ (s 1 4).attemptLimit ≤ (s 1 4).bay.gateAttempts ∧ (context search).contributions = []
      ∧ 32 ≤ (queued (s 1 4) 32).queueAtEnd.length := by
  unfold State.StepIn State.queueAtEnd; decide +kernel

/-- The rest ramp of PAGE_WAIT at its end, with a claim above that of the level. -/
def restReached : State :=
  let s := inWalk .pageWait hold
  bayed (driven (s.setEngine { s.engine with rest := .ramping }) (fun d =>
    { d with level := 1000000, active := .ramp none 1000 20, status := .ended })) (fun b => { b with drivenClaim := 33 })

theorem witness_WalkRampsEnd :
    let s := driven (inWalk .winddown hold) (fun d => { d with status := .ended })
    (s.engine.walk = .winddown ∧ s.engine.releasesDone = false ∧ s.engine.waiting = none
      ∧ s.drive.status = .ended ∧ s.drive.staged = none ∧ (queued s 31).queue.length < 32
      ∧ 32 ≤ (queued s 32).queue.length)
    ∧ (restReached.engine.walk = .pageWait ∧ restReached.engine.rest = .ramping ∧ restReached.engine.waiting = none
      ∧ restReached.drive.status = .ended ∧ restReached.drive.staged = none) := by decide +kernel

/-- At 1000 dA and 54000 mV the claim is 11 units (R40, R48). -/
theorem test_rest_ramp_end_lowers_claim :
    ((after .generatorSetEnd restReached).bay.drivenClaim, (after .generatorSetEnd restReached).engine.rest)
      = (11, .reached) := by decide +kernel

/-- A cycle that is not the last, the last of three, a stop pending in EXIT, and a pulse with cycles 0 at its stop
request. -/
theorem witness_PulseCyclesEnd :
    let s (p : Phase) (done cycles : Nat) (stop : Bool) := driven (inStep p (.pulse 2000 4000 20 5 cycles)) (fun d =>
      { d with active := .pulse 2000 4000 20 5 cycles, status := .acting, pulse := some ⟨1, 20⟩, completed := done,
               cycleEnded := true, stopPending := stop })
    let c0 := { context (.pulse 2000 4000 20 5 0) with timeLeft := 21 }
    let z := measured (driven (inStepWith .body c0) (fun d => { d with active := .pulse 2000 4000 20 5 0, status := .acting }))
      (fun a => { a with capture := { a.capture with mode := .terminal, state := .collecting, fill := [default] } })
    ((s .body 1 3 false).drive.active = .pulse 2000 4000 20 5 3 ∧ (s .body 1 3 false).drive.cycleEnded = true
        ∧ (s .body 1 3 false).drive.staged = none ∧ (s .body 1 3 false).drive.stopPending = false
        ∧ (s .body 1 3 false).drive.completed + 1 < 3 ∧ (s .body 1 3 false).engine.waiting = none)
      ∧ ((s .body 2 3 false).StepIn .body (context pulsing) ∧ (context pulsing).record.kind = .pulse
        ∧ (context pulsing).contributions = [] ∧ (s .body 2 3 false).drive.rangeChange = .none
        ∧ 3 ≤ (s .body 2 3 false).drive.completed + 1)
      ∧ ((s .exiting 7 0 true).StepIn .exiting (context (.pulse 2000 4000 20 5 0))
        ∧ (s .exiting 7 0 true).drive.stopPending = true)
      ∧ (z.StepIn .body c0 ∧ c0.record.body = .pulse 2000 4000 20 5 0 ∧ c0.timeLeft ≤ 20 + 1
        ∧ z.drive.status = .acting ∧ z.acq.capture.mode = .terminal) := by
  unfold State.StepIn; decide +kernel

/-- The end of DOWN; the relay count's end with an APPLY set of its range and of the other, a winddown ramp and nothing
waiting; the same in PAGE_WAIT, at rest_level and above it; and a load enable that waits. -/
theorem witness_RangeChangeStages :
    let r (staged : Option Staged) := driven (inStep .applying pulsing) (fun d =>
      { d with rangeChange := .relayWait, relayCount := 0, range := .high, staged := staged })
    let p (level : Nat) := driven ((inWalk .pageWait hold).setEngine { (inWalk .pageWait hold).engine with rest := .deferred })
      (fun d => { d with rangeChange := .relayWait, relayCount := 0, level := level, active := .level level })
    let w := driven (inStep .body hold) (fun d => { d with relayCount := 0, loadRequest := true })
    (driven State.reset (fun d => { d with rangeChange := .down .high true })).drive.rangeChange = .down .high true
      ∧ (∀ staged ∈ [none, some ⟨.ramp none 2000 20, some .high⟩, some ⟨.ramp none 1000 20, some .low⟩,
          some ⟨.ramp none 0 20, none⟩],
        (r staged).drive.rangeChange = .relayWait ∧ (r staged).drive.relayCount = 0 ∧ (r staged).drive.range = .high
          ∧ (r staged).drive.staged = staged ∧ (r staged).drive.pulsing = false ∧ (r staged).drive.coupling = .none
          ∧ (r staged).engine.walk ≠ .pageWait)
      ∧ (∀ level ∈ [0, 1000000, 1000001], (p level).drive.rangeChange = .relayWait ∧ (p level).drive.relayCount = 0
          ∧ (p level).engine.walk = .pageWait ∧ (p level).engine.rest = .deferred ∧ (p level).drive.staged = none)
      ∧ (w.drive.rangeChange = .none ∧ w.drive.relayCount = 0 ∧ w.drive.loadRequest = true
        ∧ w.engine.walk ≠ .pageWait) := by decide +kernel

/-- An APPLY with V_OUT to settle and an I_peak that its level reaches; one with nothing left open for each kind, with a
TERMINAL capture and a sample that finds no alarm; one with its alarm put late; and the waiting blanks of channels whose
counts are 0. -/
theorem witness_ApplyCompletesIntoSettle :
    let c (b : StepBody) := { context b with settleSet := settleSetOf (record b) }
    let s := bayed (measured (driven (inStepWith .applying (c hold)) (fun d => { d with status := .ended, level := 3000000 }))
      Acquisition.openAllBlanks) (fun b => { b with drivenClaim := 87 })
    let unset := s.setStore { s.store with channels := PerChannel.same { s.store.channels.vOut with settle := 0 } }
    let ready (b : StepBody) := driven (inStepWith .applying (c b)) (fun d => { d with status := .ended })
    let terminal := measured (ready hold) (fun a =>
      { a with capture := { a.capture with mode := .terminal }, latest := some (sampleOf (codes 54000 0)) })
    (s.StepIn .applying (c hold) ∧ s.drive.status = .ended ∧ s.drive.staged = none ∧ (c hold).settleSet.get .vOut = true
        ∧ s.blankAfterApply .vOut ≠ .closed ∧ s.drive.level / 1000 ≤ (c hold).record.body.peak
        ∧ claimOf (s.drive.level / 1000) s.engine.ratings.vNom ≤ s.bay.drivenClaim)
      ∧ (unset.StepIn .applying (c hold) ∧ unset.drive.status = .ended ∧ unset.drive.staged = none
        ∧ unset.acq.blanks.vOut = .waiting
        ∧ ∀ ch ∈ [Channel.vOut, .iOut, .vLine, .pLine, .tInlet], unset.blankAfterApply ch = .closed)
      ∧ (∀ b ∈ [hold, .ramp 1000 2000 20, pulsing, search, timed, .recover 2000 0, .recover 2000 5, derating, dropping,
          .dropout 3000 0 200 1000 38000],
        (ready b).StepIn .applying (c b) ∧ (ready b).drive.status = .ended ∧ (ready b).drive.staged = none
          ∧ (ready b).acq.detectors.alarmArmed = false ∧ (ready b).acq.latest = none
          ∧ ∀ ch ∈ [Channel.vOut, .iOut, .vLine, .pLine, .tInlet], (ready b).blankAfterApply ch = .closed)
      ∧ (terminal.acq.capture.mode = .terminal ∧ terminal.acq.latest = some (sampleOf (codes 54000 0))
        ∧ (sampleOf (codes 54000 0)).alarm = false)
      ∧ (measured (ready hold) (fun a => { a with alarmLate := true })).acq.alarmLate = true
      ∧ (c (.recover 2000 0)).record.body.armsAlarm = false := by
  unfold State.StepIn State.blankAfterApply; decide +kernel

/-- A blank that closes outside SETTLE, with another of the settle set open, and as the last of it, for a step of every
kind and with a TERMINAL capture; an alarm input that reads inactive, an active one put after the other events, and a kind
that arms no alarm detector. -/
theorem witness_BlankCloses :
    let c (b : StepBody) := { context b with settleSet := settleSetOf (record b) }
    let one (a : Acquisition) := { a with blanks := (PerChannel.same Blank.closed).put .vOut (.counting 0) }
    let both (a : Acquisition) := { a with blanks := (PerChannel.same (Blank.counting 3)).put .vOut (.counting 0) }
    let terminal (a : Acquisition) :=
      { a with capture := { a.capture with mode := .terminal }, latest := some (sampleOf (codes 54000 0)) }
    ((measured State.reset one).acq.blanks.get .vOut = .counting 0 ∧ (measured State.reset one).engine.phase ≠ .settle)
      ∧ ((measured (inStepWith .settle (c search)) both).StepIn .settle (c search)
        ∧ (c search).settleSet.get .iOut = true
        ∧ (measured (inStepWith .settle (c search)) both).acq.blanks.get .iOut ≠ .closed)
      ∧ (∀ b ∈ [hold, .ramp 1000 2000 20, pulsing, search, timed, .recover 2000 0, .recover 2000 5, derating, dropping,
          .dropout 3000 0 200 1000 38000],
        (measured (inStepWith .settle (c b)) one).StepIn .settle (c b)
          ∧ ∀ d ∈ [Channel.vOut, .iOut, .vLine, .pLine, .tInlet], (c b).settleSet.get d = true → d ≠ .vOut →
            (measured (inStepWith .settle (c b)) one).acq.blanks.get d = .closed)
      ∧ (measured (measured (inStepWith .settle (c hold)) one) terminal).acq.capture.mode = .terminal
      ∧ (measured (measured (inStepWith .settle (c hold)) one) terminal).acq.latest.isSome = true
      ∧ ((measured (inStepWith .settle (c hold)) one).acq.NoAlarmFound
        ∧ (measured (measured (inStepWith .settle (c hold)) one) terminal).acq.NoAlarmFound
        ∧ (measured (inStepWith .settle (c hold)) one).acq.detectors.alarmArmed = false)
      ∧ (measured (settling hold) (fun a => { a with alarmLate := true })).acq.alarmLate = true
      ∧ (c (.recover 2000 0)).record.body.armsAlarm = false := by
  unfold State.StepIn Acquisition.NoAlarmFound
  refine ⟨?_, ?_, ?_, ?_, ?_, ⟨?_, ?_, ?_⟩, ?_, ?_⟩
  case refine_6 => intro x h; cases h
  case refine_7 =>
    intro x h
    have : x = sampleOf (codes 54000 0) := (Option.some.inj h).symm
    subst this
    exact .inl (by decide +kernel)
  all_goals decide +kernel

/-- The HOLD window at its length of 2, with and without a trip on the same sample, and a RAMP at its end; a window with
two samples of a channel, and one with none; contributions of two ranks. -/
theorem witness_SteadyStepsEnd :
    let s := measured (inStep .body hold) (fun a =>
      { a with window := { a.window with mode := .counted, state := .opened, length := 2, count := 2 } })
    let trip := measured s (fun a => { a with detectors := { a.detectors with collapse := some ⟨40000, 3⟩ } })
    let r := driven (inStep .body (.ramp 1000 2000 20)) (fun d => { d with status := .ended })
    (s.StepIn .body (context hold) ∧ (context hold).contributions = [] ∧ s.drive.rangeChange = .none
        ∧ s.acq.window.mode = .counted ∧ s.acq.window.state = .opened ∧ s.acq.window.length ≤ s.acq.window.count
        ∧ s.acq.detectors.tripDue = false ∧ trip.acq.detectors.tripDue = true)
      ∧ (r.StepIn .body (context (.ramp 1000 2000 20)) ∧ r.drive.status = .ended)
      ∧ ([(⟨.measured .tInlet, -7, some (-4, -3), false⟩ : Accumulator)].find? (fun a => a.channel == .measured .tInlet)
        = some ⟨.measured .tInlet, -7, some (-4, -3), false⟩)
      ∧ Verdict.limit ∈ [Verdict.limit, .unexpectedTrip] := by
  unfold State.StepIn; decide +kernel

/-- A MEAN of −7 over two samples is −4 (R125), and a check passes at both ends of its range (R100). -/
theorem test_check_ends :
    let w : Window := ⟨.span, .opened, .mark, 0, 2, [⟨.measured .tInlet, -7, some (-4, -3), true⟩], 0, 0⟩
    w.evaluate ⟨.measured .tInlet, .mean, -4, 0⟩ = ⟨true, true, true, -4⟩
      ∧ w.evaluate ⟨.measured .tInlet, .maximum, -9, -3⟩ = ⟨true, true, true, -3⟩
      ∧ w.evaluate ⟨.measured .tInlet, .minimum, -3, 0⟩ = ⟨true, false, true, -4⟩
      ∧ { w with count := 0 }.evaluate ⟨.measured .tInlet, .mean, 0, 0⟩ = ⟨true, false, true, 0⟩ := by decide +kernel

/-- I_trip of a collapse leaves out the two samples after the dated one, and takes 16 (R121). -/
theorem test_trip_current_samples :
    let sample (i : Int) (mark : Bool) : RawSample := ⟨0, 0, i, false, mark, false, .low⟩
    let later := [sample 9000 true, sample 9000 true]
    tripCurrent (later ++ List.replicate 15 (sample 100 false) ++ [sample 800 true, sample 900 false]) 2 = (800, true)
      ∧ tripCurrent (later ++ List.replicate 16 (sample 100 false) ++ [sample 900 true]) 2 = (100, false) := by
  decide +kernel

/-- The curves of Check Arithmetic under ids 1 and 2, a reference window of two samples, and the same with no curves; a
knee armed in BODY; the end of the ramp to the ceiling; and the end of the return. -/
theorem witness_DerateFormsFigures :
    let s := measured (inStep .body derating) (fun a =>
      { a with
        window := { a.window with
          mode := .counted, state := .opened, length := 2, count := 2
          channels := [⟨.measured .vOut, 108025, some (54012, 54013), false⟩] }
        latest := some (sampleOf (codes 54012 1000)) })
    let voltage : Curve := ⟨some .voltage, [(1800, 500), (2000, 800)]⟩
    let temperature : Curve := ⟨some .temperature, [(450, 1000), (550, 750)]⟩
    let u := s.setStore { s.store with curves := (s.store.curves.setIfInBounds 1 voltage).setIfInBounds 2 temperature }
    let ramp := { context derating with stage := .kneeRamp }
    let knee := measured (inStepWith .body ramp) (fun a => { a with detectors := { a.detectors with knee := some 52512 } })
    let ceiling := driven (inStepWith .body ramp) (fun d => { d with status := .ended })
    let back := { context derating with contributions := [.noKnee] }
    let exit := driven (inStepWith .exiting back) (fun d => { d with status := .ended })
    (s.StepIn .body (context derating) ∧ (context derating).record.body = derating ∧ (context derating).contributions = []
        ∧ s.acq.window.mode = .counted ∧ s.acq.window.state = .opened ∧ s.acq.window.length ≤ s.acq.window.count
        ∧ s.acq.window.statistic (.measured .vOut) .mean = some 54012 ∧ s.acq.latest.isSome = true
        ∧ curveMissing s.store 1 .voltage = true)
      ∧ (u.StepIn .body (context derating) ∧ curveMissing u.store 1 .voltage = false
        ∧ curveMissing u.store 2 .temperature = false ∧ u.drive.dropHold = false ∧ u.drive.busy = false
        ∧ u.acq.window.statistic (.measured .vOut) .mean = some 54012)
      ∧ (knee.Settled ∧ knee.StepIn .body ramp ∧ knee.acq.detectors.knee = some 52512
        ∧ knee.acq.detectors.alarmArmed = false ∧ (codes 0 0).kneeLate = false)
      ∧ (ceiling.StepIn .body ramp ∧ ramp.stage = .kneeRamp ∧ ceiling.drive.staged = none ∧ ceiling.drive.dropHold = false
        ∧ ceiling.drive.rangeChange = .none ∧ ceiling.drive.coupling = .none)
      ∧ (exit.StepIn .exiting back ∧ (∀ v ∈ back.contributions, 3 < v.rank)) := by
  unfold State.StepIn State.Settled; decide +kernel

theorem witness_TripWaitsEnd :
    let c (b : StepBody) := { context b with wait := some 0 }
    let ceiling := driven (inStep .body search) (fun d => { d with status := .ended })
    let back := { context timed with contributions := [.noTrip] }
    let exit := driven (inStepWith .exiting back) (fun d => { d with status := .ended })
    ((inStepWith .body (c search)).StepIn .body (c search) ∧ (c search).record.body = search
        ∧ (inStepWith .body (c search)).drive.dropHold = false ∧ (inStepWith .body (c search)).drive.busy = false)
      ∧ ((inStepWith .body (c timed)).StepIn .body (c timed) ∧ (c timed).record.body = timed)
      ∧ (ceiling.StepIn .body (context search) ∧ (context search).record.kind = .tripSearch
        ∧ ceiling.drive.status = .ended)
      ∧ (exit.StepIn .exiting back ∧ back.record.kind = .tripTime ∧ back.figures.trip = none
        ∧ exit.drive.rangeChange = .none) := by
  unfold State.StepIn; decide +kernel

/-- The ends of LEAD, OFF and RESTORE; a window with V_OUT minima on both sides of v_min. -/
theorem witness_CouplingSpansEnd :
    let s (v : Int) := bayed (measured (driven (inStep .body dropping) (fun d => { d with coupling := .restore 0 }))
      (fun a => { a with window := { a.window with
        mode := .span, state := .opened, count := 1, channels := [⟨.measured .vOut, v, some (v, v), false⟩] } }))
      (fun b => { b with ownUnit := .gate })
    (driven State.reset (fun d => { d with coupling := .lead 0 200 1000 })).drive.coupling = .lead 0 200 1000
      ∧ (driven State.reset (fun d => { d with coupling := .off 0 1000 })).drive.coupling = .off 0 1000
      ∧ (s 38000).StepIn .body (context dropping) ∧ (context dropping).record.body = dropping
      ∧ (s 38000).drive.coupling = .restore 0 ∧ (s 38000).acq.capture.state ≠ .collecting
      ∧ (s 38000).acq.detectors.tripDue = false ∧ (s 38000).drive.rangeChange = .none
      ∧ (s 38000).drive.staged = none ∧ (s 38000).acq.window.state = .opened ∧ (s 38000).bay.ownUnit = .gate
      ∧ (s 38000).acq.window.statistic (.measured .vOut) .minimum = some 38000
      ∧ (s 37999).acq.window.statistic (.measured .vOut) .minimum = some 37999 := by
  unfold State.StepIn; decide +kernel

theorem witness_ResetPulseEndBeginsRegulationWait :
    let c := { context (.recover 2000 50) with stage := .resetPulse }
    let s := measured (driven (inStepWith .body c) (fun d => { d with resetPulse := some 0 }))
      (fun a => { a with latest := some (sampleOf (codes 50000 0)) })
    s.StepIn .body c ∧ c.stage = .resetPulse ∧ s.drive.resetPulse = some 0
      ∧ s.acq.latest = some (sampleOf (codes 50000 0)) := by
  refine ⟨⟨rfl, rfl, rfl, rfl⟩, rfl, rfl, rfl⟩

/-- A full block of a TERMINAL and of a trip capture, with 8 entries free and with 7; and the last block of a trip capture
that a TRIP_SEARCH step waits for in EXIT. -/
theorem witness_CaptureBlockIsPlacedOrDropped :
    let s (m : CaptureMode) (left : Nat) := measured (inStep .body hold) (fun a => { a with capture :=
      { a.capture with mode := m, state := .collecting, fill := List.replicate 12 default, left := left } })
    let last := bayed (measured (inStep .exiting search) (fun a => { a with capture :=
      { a.capture with mode := .trip, state := .collecting, fill := [default] } })) (fun b => { b with ownUnit := .trip })
    ((s .terminal 0).acq.capture.state = .collecting ∧ (s .terminal 0).acq.capture.mode = .terminal
        ∧ (s .trip 36).acq.capture.mode = .trip ∧ 0 < (s .trip 36).acq.capture.left
        ∧ (s .terminal 0).acq.capture.fill.length = 12 ∧ (s .terminal 0).engine.waiting = none
        ∧ (queued (s .terminal 0) 24).queue.length ≤ 24 ∧ 24 < (queued (s .terminal 0) 25).queue.length)
      ∧ (last.StepIn .exiting (context search) ∧ (context search).record.kind = .tripSearch
        ∧ last.acq.capture.state = .collecting ∧ last.acq.capture.fill ≠ [] ∧ last.acq.capture.left = 0
        ∧ last.drive.level = 0 ∧ (∀ v ∈ (context search).contributions, 4 < v.rank)) := by
  unfold State.StepIn; decide +kernel

theorem witness_InterlockDrops :
    let w (done : Bool) := (fun s => s.setEngine { s.engine with releasesDone := done, reason := some .aborted })
      (inWalk .winddown hold)
    let held (s : State) (r : StepLevel) := queued (waitingFor s r) 32
    (State.reset.engine.walk.active = false ∧ (inWalk .paused hold).engine.walk = .paused
        ∧ (inWalk .pageWait hold).engine.walk = .pageWait ∧ (inWalk .paused hold).engine.waiting = none)
      ∧ ((inStep .settle hold).StepIn .settle (context hold) ∧ (∀ v ∈ (context hold).contributions, 3 < v.rank))
      ∧ ((held (inWalk .running hold) (.pageSwap .b)).engine.waiting = some (.pageSwap .b)
        ∧ 32 ≤ (held (inWalk .running hold) (.pageSwap .b)).queue.length)
      ∧ ((w false).engine.walk = .winddown ∧ (w false).engine.releasesDone = false ∧ (w false).engine.waiting = none
        ∧ (w false).queue.length < 32)
      ∧ ((held (w true) (.walkSummary (w true).engine.summary)).engine.releasesDone = true
        ∧ 32 ≤ (held (w true) (.walkSummary (w true).engine.summary)).queue.length)
      ∧ (held (w false) (.stepResult exampleResult)).engine.waiting = some (.stepResult exampleResult) := by
  unfold State.StepIn; decide +kernel

/-- At the first point, at the last, and in a segment. -/
theorem witness_CurveValueInterpolates :
    let points : List (Int × Nat) := [(1800, 500), (2000, 800)]
    points.Pairwise (fun p q => p.1 < q.1) ∧ points.head? = some (1800, 500) ∧ points.getLast? = some (2000, 800)
      ∧ points[0]? = some (1800, 500) ∧ points[0 + 1]? = some (2000, 800) ∧ (1800 : Int) ≤ 1800 ∧ (1999 : Int) < 2000 := by
  decide

theorem witness_ClaimRoundsUp : (0 : Nat) < 54000 ∧ claimOf 5277 54000 = 57 ∧ 57 * 5000000 / 54000 = 5277 := by
  decide +kernel

theorem witness_BackoffSlotsPartStations :
    (15 < 16 ∧ backoffSlots 15 1 = backoffSlots 15 17) ∧ backoffSlots 15 1 ≠ backoffSlots 14 1 := by decide

theorem witness_RampReachesItsEnd :
    (0 : Nat) < 7 ∧ (0 : Nat) ≤ 1000 ∧ (1000 : Nat) ≤ 2000 ∧ Drive.reset.Within 0 ∧ (GenSet.ramp (some 3000) 1000 20).peak ≤ 3000
      ∧ (GenSet.level 3000000).peak ≤ 3000 ∧ claimOf 3000 54000 ≤ 33 ∧ ¬ (sampled.drive.Within 2999) := by
  refine ⟨by decide, by decide, by decide, ⟨by decide, by decide, fun st h => ?_⟩, by decide, by decide, by decide +kernel,
    fun h => absurd h.2.1 (by decide)⟩
  simp [Drive.reset] at h

theorem witness_QueueKeepsOrderAndBound :
    QueueOk (queued State.reset 32).queue ∧ step (queued State.reset 32) = .next (queued State.reset 32)
      ∧ exec .transactionBegin State.reset = .next State.reset.beginTransaction
      ∧ exec .status State.reset = .next State.reset.takeStatus
      ∧ (Instr.reset 3).resets ∧ (Instr.transactionComplete (frameOf 0x3F) 3).resets ∧ ¬ Instr.nop.resets := by
  unfold QueueOk Instr.resets
  exact ⟨by decide +kernel, rfl, rfl, rfl, trivial, by decide +kernel, id⟩

theorem witness_LinesRestKept : State.reset.LinesRest ∧ step State.reset = .next State.reset :=
  ⟨linesRest_between_walks (.inl rfl) (by unfold Bay.AtRest; decide +kernel) (by unfold Drive.AtRest; decide +kernel)
    rfl rfl rfl, rfl⟩

/-- A step of kind HOLD in BODY at 3000 dA, in range HIGH, with its claim of 33 driven. -/
def held : State :=
  bayed (driven (inStep .body hold) (fun d => { d with level := 3000000, active := .level 3000000, range := .high }))
    (fun b => { b with drivenClaim := 33 })

/-- Its plan store's records start at or below their peaks. -/
theorem held_slots (page : Page) (index : Nat) :
    (held.store.slot page index).body.start ≤ (held.store.slot page index).body.peak := by
  by_cases h : index < 32
  · have : ∀ page : Page, ∀ i : Fin 32,
        (held.store.slot page i).body.start ≤ (held.store.slot page i).body.peak := by
      intro p; cases p <;> decide +kernel
    exact this page ⟨index, h⟩
  · have empty : held.store.slot page index = StepRecord.empty := by
      unfold PlanStore.slot
      rw [Vector.getElem?_eq_none (by omega)]
      rfl
    rw [empty]
    decide

/-- In the BODY of a HOLD. -/
theorem witness_ClaimCoversLoad : held.LinesRest ∧ held.LoadCovered ∧ step held = .next held := by
  have engine : held.engine.walk = .running ∧ held.engine.phase = .body ∧ held.engine.waiting = none
      ∧ held.engine.releasesDone = false := by decide +kernel
  have drive : held.drive.staged = none ∧ held.drive.rangeChange = .none ∧ held.drive.resetPulse = none
      ∧ held.drive.coupling = .none := by decide +kernel
  have idle : held.bay.protocol = .idle ∧ held.acq.window.state = .closed ∧ held.acq.detectors.Quiet
      ∧ held.acq.capture.state = .idle := by
    unfold Detectors.Quiet; decide +kernel
  obtain ⟨running, body, free, undone⟩ := engine
  obtain ⟨unstaged, steady, enabled, line⟩ := drive
  obtain ⟨quiet, closed, ⟨unarmed, unalarmed, unwatched, unmet⟩, captured⟩ := idle
  refine ⟨⟨?_, ?_, ?_, ?_, ?_, ?_, ?_, ?_, ?_⟩, ⟨?_, ?_, ?_, held_slots, ?_, ?_, ?_, ?_, ?_, ?_, ?_, ?_, ?_⟩, rfl⟩
  · simp [running]
  · simp [running]
  · simp [undone]
  · simp [running]
  · exact ⟨by decide +kernel, by decide +kernel, by simp [unstaged]⟩
  · simp [free]
  · simp [free]
  · simp [running]
  · simp [enabled]
  · exact ⟨by unfold Covers; decide +kernel, by unfold Covers; decide +kernel, by simp [unstaged]⟩
  · exact ⟨by decide +kernel, by decide +kernel, by simp [unstaged]⟩
  · simp [Drive.ChangesDown, steady]
  · intro p c h
    have hp : p = .body := h.2.2.2.symm.trans body
    have hc : c = context hold := (Option.some.inj (h.2.1.symm.trans (by decide +kernel)))
    subst hp hc
    refine ⟨by decide, ?_, fun _ => by unfold Covers; decide +kernel, by decide,
      fun h => absurd h (by decide)⟩
    show held.drive.Still
    unfold Drive.Still; decide +kernel
  · simp [quiet]
  · simp [line]
  · simp [closed]
  · simp [unarmed, unalarmed]
  · simp [unwatched]
  · simp [unmet]
  · simp [running, free]
  · simp [running]

end Sys2Proof.Tests
end

/-! ## HELD is kept but by RELEASE and the resets (R37)

In HELD no step stands and no record waits. What an event could do to the walk asks for one of the two, so every
event finds the engine as it was and leaves it so, and of the commands only RELEASE and RESET change the walk
state. -/

namespace Sys2Proof.Machine

/-! ### The engine in HELD -/

/-- The engine stands in HELD, with no step and no record that waits. -/
structure Engine.AtHold (e : Engine) : Prop where
  held : e.walk = .held
  noStep : e.step = none
  noRecord : e.waiting = none

theorem Engine.AtHold.not_stepping {e : Engine} (h : e.AtHold) : e.stepping = false := by
  simp [Engine.stepping, h.held]

theorem State.LinesRest.atHold {s : State} (rest : s.LinesRest) (held : s.engine.walk = .held) :
    s.engine.AtHold := by
  obtain ⟨_, _, _, _, _, _, waits, stands, _⟩ := rest
  refine ⟨held, stands (by simp [held]), ?_⟩
  cases waiting : s.engine.waiting with
  | none => rfl
  | some r => simpa [held] using (waits r waiting).1

/-! ### Operations that find nothing to do -/

theorem State.mapStep_of_noStep (s : State) (f : StepContext → StepContext) (h : s.engine.step = none) :
    s.mapStep f = s := by
  have same : { s.engine with step := s.engine.step.map f } = s.engine := by rw [h, Option.map_none, ← h]
  rw [State.mapStep, same, State.setEngine_self]

theorem State.checkSettle_of_noStep (s : State) (h : s.engine.step = none) : s.checkSettle = s := by
  simp [State.checkSettle, h]

theorem State.takeSetEnd_of_held (s : State) (h : s.engine.walk = .held) : s.takeSetEnd = s := by
  simp [State.takeSetEnd, h]

theorem State.goOn_engine_of_atHold {s u : State} (h : s.engine.AtHold) (same : u.engine = s.engine) :
    u.goOn.engine = s.engine := by
  rw [State.goOn_of_none u (same ▸ h.noRecord), same]

/-! ### Operations that leave the engine alone -/

@[simp] theorem State.setCapture_engine (s : State) (c : Capture) : (s.setCapture c).engine = s.engine := (rfl)

@[simp] theorem State.offerBlock_engine (s : State) : s.offerBlock.engine = s.engine := by
  unfold State.offerBlock; dsimp only; split <;> simp

@[simp] theorem State.openDropoutWindow_engine (s : State) : s.openDropoutWindow.engine = s.engine := (rfl)

@[simp] theorem State.reply_engine (s : State) (code : Byte) (a : Answer) : (s.reply code a).engine = s.engine := (rfl)

@[simp] theorem State.dropTransaction_engine (s : State) (n : Nat) : (s.dropTransaction n).engine = s.engine := (rfl)

theorem State.takeBlockOffer_engine_of_atHold {s : State} (h : s.engine.AtHold) :
    s.takeBlockOffer.engine = s.engine := by
  unfold State.takeBlockOffer
  dsimp only
  split
  · split <;> simp
  · split <;> simp [h.not_stepping]
  · simp

theorem State.reportSetEnd_engine_of_held {s : State} (h : s.engine.walk = .held) :
    s.reportSetEnd.engine = s.engine := by
  unfold State.reportSetEnd
  simp [State.takeSetEnd_of_held _ (show (s.setDrive s.drive.holdLevel).engine.walk = .held from h)]

theorem State.takeCycleEnd_engine_of_held {s : State} (h : s.engine.walk = .held) :
    s.takeCycleEnd.engine = s.engine := by
  unfold State.takeCycleEnd
  simp [State.takeSetEnd_of_held _ (show (s.setDrive s.drive.endCycle).engine.walk = .held from h),
    apply_ite State.engine]

theorem State.takeRelayExpiry_engine_of_held {s : State} (h : s.engine.walk = .held) :
    s.takeRelayExpiry.engine = s.engine := by
  simp [State.takeRelayExpiry, h]

theorem State.takeCouplingEnd_engine_of_atHold {s : State} (h : s.engine.AtHold) :
    s.takeCouplingEnd.engine = s.engine := by
  unfold State.takeCouplingEnd
  dsimp only
  split <;> simp [h.not_stepping]

theorem State.tickEngine_of_atHold {s : State} (h : s.engine.AtHold) : s.tickEngine = s := by
  simp [State.tickEngine, h.not_stepping, h.held]

/-! ### Events -/

/-- An event that finds the engine in HELD leaves it as it is. -/
def KeepsAtHold (event : State → Option State) : Prop :=
  ∀ s t, s.engine.AtHold → event s = some t → t.engine = s.engine

theorem KeepsAtHold.getD_engine {event : State → Option State} (keeps : KeepsAtHold event) {s : State}
    (h : s.engine.AtHold) : ((event s).getD s).engine = s.engine := by
  cases due : event s with
  | none => rfl
  | some t => exact keeps s t h due

/-- The events that ask for a step in progress. -/
def stepEvents : List (State → Option State) :=
  [ State.collapseDetect, State.alarmDetect, State.kneeEvent, State.regulationEvent, State.windowEvent,
    State.stepTimeLimitExpiry, State.ceilingHoldEnd, State.tripWaitEnd, State.pulseStopRequest,
    State.admissionDecision, State.backoffEnd, State.quietWaitEnd, State.gateDecision, State.gateBackoffEnd,
    State.applyComplete ]

theorem stepEvents_not_due {s : State} (h : s.engine.stepping = false) : ∀ event ∈ stepEvents, event s = none := by
  have noWait : s.waitOver = false := by simp [State.waitOver, h]
  have noStop : s.stopDue = false := by
    unfold State.stopDue
    (repeat' split) <;> simp [h]
  simp [stepEvents, h, noWait, noStop, State.collapseDetect, State.alarmDetect, State.kneeEvent,
    State.regulationEvent, State.windowEvent, State.stepTimeLimitExpiry, State.ceilingHoldEnd, State.tripWaitEnd,
    State.pulseStopRequest, State.admissionDecision, State.backoffEnd, State.quietWaitEnd, State.gateDecision,
    State.gateBackoffEnd, State.applyComplete]

theorem stepEvents_keep : ∀ event ∈ stepEvents, KeepsAtHold event := by
  intro event mem s t h due
  rw [stepEvents_not_due h.not_stepping event mem] at due
  cases due

/-- An event under a guard keeps the engine in HELD when what it does keeps it. -/
theorem KeepsAtHold.guarded (due : State → Prop) [DecidablePred due] (taken : State → State)
    (keeps : ∀ s : State, s.engine.AtHold → (taken s).engine = s.engine) :
    KeepsAtHold (fun s => if due s then some (taken s) else none) := by
  intro s t h some_eq
  obtain ⟨-, rfl⟩ : due s ∧ taken s = t := by simpa using some_eq
  exact keeps s h

theorem captureBlockOffer_keeps : KeepsAtHold State.captureBlockOffer :=
  .guarded _ _ fun _ h => State.goOn_engine_of_atHold h (State.takeBlockOffer_engine_of_atHold h)

theorem blankClose_keeps (channel : Channel) : KeepsAtHold (State.blankClose channel) :=
  .guarded _ _ fun s h => by
    rw [State.checkSettle_of_noStep (s.setAcq (s.acq.closeBlank channel)) h.noStep, State.setAcq_engine]

theorem pulseCycleEnd_keeps : KeepsAtHold State.pulseCycleEnd :=
  .guarded _ _ fun _ h => State.goOn_engine_of_atHold h (State.takeCycleEnd_engine_of_held h.held)

theorem generatorSetEnd_keeps : KeepsAtHold State.generatorSetEnd :=
  .guarded _ _ fun _ h => State.goOn_engine_of_atHold h (State.reportSetEnd_engine_of_held h.held)

theorem relayCountExpiry_keeps : KeepsAtHold State.relayCountExpiry :=
  .guarded _ _ fun _ h => State.takeRelayExpiry_engine_of_held h.held

theorem releaseSpanEnd_keeps : KeepsAtHold State.releaseSpanEnd := .guarded _ _ fun _ _ => rfl

theorem resetPulseEnd_keeps : KeepsAtHold State.resetPulseEnd :=
  .guarded _ _ fun s h => by simp [h.not_stepping]

theorem pageWaitExpiry_keeps : KeepsAtHold State.pageWaitExpiry := by
  intro s t h due
  simp [State.pageWaitExpiry, h.held] at due

theorem stalledRecordPlaced_keeps : KeepsAtHold State.stalledRecordPlaced :=
  .guarded _ _ fun _ h => State.goOn_engine_of_atHold h rfl

theorem rangeDownEnd_keeps : KeepsAtHold State.rangeDownEnd := by
  intro s t _ due
  unfold State.rangeDownEnd at due
  split at due
  · cases due; rfl
  · cases due

theorem couplingSpanEnd_keeps : KeepsAtHold State.couplingSpanEnd := by
  intro s t h due
  unfold State.couplingSpanEnd at due
  split at due
  · cases due; rfl
  · cases due; rfl
  · cases due
    exact State.goOn_engine_of_atHold h (State.takeCouplingEnd_engine_of_atHold h)
  · cases due

/-! ### Event rows -/

/-- The events that an event row of the table takes or a SAMPLE settles. -/
def rowEvents : List (State → Option State) := State.applyComplete :: State.stalledRecordPlaced :: dueEvents

theorem rowEvents_keep : ∀ event ∈ rowEvents, KeepsAtHold event := by
  have ofStep := stepEvents_keep
  simp only [stepEvents, List.forall_mem_cons] at ofStep
  simp [rowEvents, dueEvents, captureBlockOffer_keeps, blankClose_keeps, pulseCycleEnd_keeps,
    generatorSetEnd_keeps, relayCountExpiry_keeps, releaseSpanEnd_keeps, resetPulseEnd_keeps, pageWaitExpiry_keeps,
    stalledRecordPlaced_keeps, rangeDownEnd_keeps, couplingSpanEnd_keeps, ofStep]

/-- An event row takes one of these events where it is due, and changes nothing otherwise. -/
theorem exec_eventRow {c : Instr} (row : c.isEvent = true) (noSample : ∀ i, c ≠ .sample i)
    (noOpen : c ≠ .interlockOpen) (noClose : c ≠ .interlockClose) (s : State) :
    ∃ event ∈ rowEvents, exec c s = .next ((event s).getD s) := by
  cases c with
  | sample i => exact absurd rfl (noSample i)
  | interlockOpen => exact absurd rfl noOpen
  | interlockClose => exact absurd rfl noClose
  | blankClose channel => exact ⟨State.blankClose channel, by cases channel <;> simp [rowEvents, dueEvents], rfl⟩
  | collapseDetect | regulationEvent | stepTimeLimitExpiry | pageWaitExpiry | admissionDecision | backoffEnd
  | quietWaitEnd | gateDecision | gateBackoffEnd | releaseSpanEnd | generatorSetEnd | pulseCycleEnd
  | pulseStopRequest | rangeDownEnd | relayCountExpiry | applyComplete | windowDone | ceilingHoldEnd | tripWaitEnd
  | couplingSpanEnd | resetPulseEnd | captureBlockOffer | stalledRecordPlaced =>
    refine ⟨_, ?_, rfl⟩
    simp [rowEvents, dueEvents]
  | _ => simp [Instr.isEvent] at row

/-! ### SAMPLE -/

theorem firstDue_engine_of_atHold {events : List (State → Option State)}
    (keeps : ∀ event ∈ events, KeepsAtHold event) {s t : State} (h : s.engine.AtHold) (due : firstDue s events = some t) : t.engine = s.engine := by
  induction events with
  | nil => cases due
  | cons event rest ih =>
    cases now : event s with
    | none => exact ih (fun e mem => keeps e (List.mem_cons_of_mem _ mem)) (by simpa [firstDue, now] using due)
    | some u => exact keeps event List.mem_cons_self s t h (by simpa [firstDue, now] using due)

theorem State.takeDue_engine_of_atHold (rounds : Nat) {s : State} (h : s.engine.AtHold) :
    (State.takeDue rounds s).engine = s.engine := by
  induction rounds generalizing s with
  | zero => rfl
  | succ rounds ih =>
    rw [State.takeDue]
    split
    · rename_i t due
      have same : t.engine = s.engine :=
        firstDue_engine_of_atHold (fun event mem => rowEvents_keep event (by simp [rowEvents, mem])) h due
      rw [ih (same ▸ h), same]
    · rfl

theorem State.takeSample_engine_of_atHold {s : State} (i : SampleInput) (h : s.engine.AtHold) :
    (s.takeSample i).engine = s.engine := by
  unfold State.takeSample
  dsimp only
  rw [State.tickEngine_of_atHold] <;> simp [h]

theorem State.deliverEarly_of_atHold {s : State} (i : SampleInput) (h : s.engine.AtHold) : s.deliverEarly i = s := by
  have none_due := stepEvents_not_due h.not_stepping
  simp [State.deliverEarly, none_due State.alarmDetect (by simp [stepEvents]),
    none_due State.kneeEvent (by simp [stepEvents])]

theorem exec_sample_of_atHold {s : State} (i : SampleInput) (h : s.engine.AtHold) :
    ∃ t, exec (.sample i) s = .next t ∧ t.engine = s.engine := by
  have settled : s.settleDue.engine = s.engine := State.takeDue_engine_of_atHold dueRounds h
  have sampled : (s.settleDue.takeSample i).engine = s.engine :=
    (State.takeSample_engine_of_atHold i (settled ▸ h)).trans settled
  refine ⟨_, rfl, ?_⟩
  rw [State.deliverEarly_of_atHold i (sampled ▸ h), sampled]

/-! ### Commands and transactions -/

/-- A frame that carries RESET carries it with the straps read at the completion (R47). -/
theorem frameCommand_eq_reset {frame : List Byte} {straps x : BitVec 4} (h : frameCommand frame straps = .reset x) :
    x = straps := by
  unfold frameCommand at h
  split at h <;> simp_all

/-- START_WALK is refused in HELD, by its first check (R21). -/
theorem State.takeStartWalk_of_held {s : State} (f : StartFields) (h : s.engine.walk = .held) :
    s.takeStartWalk f = s.reply 0x20 .held := by
  simp [State.takeStartWalk, startRefusal, h]

theorem State.takeCommand_keeps_held {s : State} {c : Instr} (h : s.engine.walk = .held) (noRelease : c ≠ .release)
    (noReset : ∀ straps, c ≠ .reset straps) : (s.takeCommand c).engine.walk = .held := by
  cases c with
  | release => exact absurd rfl noRelease
  | reset straps => exact absurd rfl (noReset straps)
  | configure f => unfold State.takeCommand State.takeConfigure; dsimp only; split <;> simp [h]
  | writeStep f => unfold State.takeCommand State.takeWriteStep; dsimp only; split <;> simp [h]
  | writeCurve f => unfold State.takeCommand State.takeWriteCurve; dsimp only; split <;> simp [h]
  | writeProfile f => unfold State.takeCommand State.takeWriteProfile; dsimp only; split <;> simp [h]
  | writeChannel f => unfold State.takeCommand State.takeWriteChannel; dsimp only; split <;> simp [h]
  | startWalk f => simp [State.takeCommand, State.takeStartWalk_of_held f h, h]
  | pause => simp [State.takeCommand, State.takePauseCommand, h]
  | resume => simp [State.takeCommand, State.takeResume, h]
  | abort => simp [State.takeCommand, State.takeAbort, h]
  | armChain => simp [State.takeCommand, State.takeArmChain, h]
  | disarmChain => simp [State.takeCommand, State.takeDisarmChain, h]
  | _ => exact h

theorem State.consume_engine_of_atHold {s : State} (h : s.engine.AtHold) : s.consume.engine = s.engine := by
  unfold State.consume
  split
  · rfl
  · exact State.goOn_engine_of_atHold h rfl
  · rfl
  · rfl

theorem State.completeTransaction_keeps_held {s : State} (bytes : List Byte) (straps : BitVec 4)
    (h : s.engine.AtHold) (noRelease : frameCommand (bytes.take 64) straps ≠ .release)
    (noReset : frameCommand (bytes.take 64) straps ≠ .reset straps) :
    (s.completeTransaction bytes straps).engine.walk = .held := by
  refine State.takeCommand_keeps_held ?_ noRelease ?_
  · simp [State.consume_engine_of_atHold h, h.held]
  · intro x reset
    exact noReset (frameCommand_eq_reset reset ▸ reset)

theorem State.endTransaction_keeps_held {s ended : State} (n : Nat) (h : s.engine.walk = .held)
    (kept : ended.engine.walk = .held) : (s.endTransaction n ended).engine.walk = .held := by
  unfold State.endTransaction
  split
  · exact kept
  · exact h
  · exact h

/-- A command that is answered does as a row what it does when a transaction carries it. -/
theorem exec_of_isAnswered {c : Instr} (answered : c.isAnswered = true) (s : State) :
    exec c s = .next (s.takeCommand c) := by
  cases c with
  | badCommand | status | configure | writeStep | writeCurve | writeProfile | writeChannel | startWalk | pause | resume
  | abort | release | armChain | disarmChain | reset => rfl
  | _ => simp [Instr.isAnswered] at answered

/-! ### RELEASE and the way out of HELD -/

theorem exec_release_of_held {s : State} (h : s.engine.walk = .held) :
    exec .release s = .next ((s.setEngine { s.engine with walk := .idle }).reply 0x24 .ok) := by
  rw [exec_of_isAnswered rfl]
  simp [State.takeCommand, State.takeRelease, h]

theorem exec_release_of_not_held {s : State} (h : s.engine.walk ≠ .held) :
    exec .release s = .next (s.reply 0x24 .notHeld) := by
  rw [exec_of_isAnswered rfl, State.takeCommand, State.takeRelease]
  cases walk : s.engine.walk with
  | held => exact absurd walk h
  | _ => rfl

/-- No sample, event of the part or change of the interlock input leaves HELD. -/
theorem exec_event_keeps_held {c : Instr} {s t : State} (h : s.engine.AtHold) (row : c.isEvent = true)
    (run : exec c s = .next t) : t.engine.walk = .held := by
  by_cases sample : ∃ i, c = .sample i
  · obtain ⟨i, rfl⟩ := sample
    obtain ⟨u, ran, same⟩ := exec_sample_of_atHold i h
    cases ran.symm.trans run
    rw [same, h.held]
  by_cases opens : c = .interlockOpen
  · subst opens
    cases run
    simp [h.held, WalkState.active]
  by_cases closes : c = .interlockClose
  · subst closes
    cases run
    exact h.held
  obtain ⟨event, mem, ran⟩ := exec_eventRow row (fun i e => sample ⟨i, e⟩) opens closes s
  cases ran.symm.trans run
  rw [(rowEvents_keep event mem).getD_engine h, h.held]

/-- No command but RELEASE and the resets leaves HELD, and no completed transaction that carries another one. -/
theorem exec_keeps_held {c : Instr} {s t : State} (h : s.engine.AtHold) (run : exec c s = .next t)
    (noRelease : c ≠ .release) (noReset : ∀ straps, c ≠ .reset straps) (noPin : ∀ straps, c ≠ .pinReset straps)
    (noFrame : ∀ bytes straps, c = .transactionComplete bytes straps →
      frameCommand (bytes.take 64) straps ≠ .release ∧ frameCommand (bytes.take 64) straps ≠ .reset straps) :
    t.engine.walk = .held := by
  by_cases row : c.isEvent = true
  · exact exec_event_keeps_held h row run
  by_cases answered : c.isAnswered = true
  · cases (exec_of_isAnswered answered s).symm.trans run
    exact State.takeCommand_keeps_held h.held noRelease noReset
  cases c with
  | transactionBegin =>
    cases run
    exact h.held
  | transactionComplete bytes straps =>
    obtain ⟨release, reset⟩ := noFrame bytes straps rfl
    cases run
    refine State.endTransaction_keeps_held _ h.held ?_
    split
    · exact h.held
    · exact State.completeTransaction_keeps_held bytes straps h release reset
  | transactionIncomplete n =>
    cases run
    exact State.endTransaction_keeps_held n h.held h.held
  | nop =>
    cases run
    exact h.held
  | pinReset straps => exact absurd rfl (noPin straps)
  | _ => simp [Instr.isEvent, Instr.isAnswered] at row answered

/-- Settles O25: in HELD no step and no record stand, so nothing but RELEASE and the resets moves the walk. -/
theorem releaseLeavesHeld : Obligations.ReleaseLeavesHeld := by
  refine ⟨fun s => ⟨exec_release_of_held, exec_release_of_not_held⟩, fun c s t rest held run left => ?_⟩
  by_contra stays
  simp only [not_or, not_exists, not_and] at stays
  obtain ⟨noRelease, noReset, noFrame⟩ := stays
  exact left (exec_keeps_held (rest.atHold held) run noRelease (fun straps => (noReset straps).1)
    (fun straps => (noReset straps).2) noFrame)

end Sys2Proof.Machine

/-! ## The value of a curve (R115)

Every breakpoint at or below x is passed over until the last of them, so the value is read on the rest of the curve
that begins there. -/

namespace Sys2Proof.Machine

theorem curveSegment_cons_of_le {x xj : Int} (xi : Int) (yi yj : Nat) (rest : List (Int × Nat)) (h : xj ≤ x) :
    curveSegment x xi yi ((xj, yj) :: rest) = curveSegment x xj yj rest := by
  rw [curveSegment, if_neg (by omega)]

/-- Inside a segment the floor stays at or above 0, so the value is the formula of R115 itself. -/
theorem curveSegment_cons_of_lt {x xi xj : Int} (yi yj : Nat) (rest : List (Int × Nat)) (low : xi ≤ x)
    (high : x < xj) :
    (curveSegment x xi yi ((xj, yj) :: rest) : Int) = yi + ((yj : Int) - yi) * (x - xi) / (xj - xi) := by
  have drop : -(yi : Int) ≤ ((yj : Int) - yi) * (x - xi) / (xj - xi) := by
    apply Int.le_ediv_of_mul_le (by omega)
    calc -(yi : Int) * (xj - xi) ≤ -(yi : Int) * (x - xi) :=
          mul_le_mul_of_nonpos_left (by omega) (by omega)
      _ ≤ ((yj : Int) - yi) * (x - xi) := mul_le_mul_of_nonneg_right (by omega) (by omega)
  rw [curveSegment, if_pos high]
  omega

theorem curveSegment_append_cons {x : Int} {p : Int × Nat} (rest : List (Int × Nat)) (at_or_below : p.1 ≤ x)
    (passed : List (Int × Nat)) (below : ∀ q ∈ passed, q.1 ≤ x) (xi : Int) (yi : Nat) :
    curveSegment x xi yi (passed ++ p :: rest) = curveSegment x p.1 p.2 rest := by
  induction passed generalizing xi yi with
  | nil => exact curveSegment_cons_of_le xi yi p.2 rest at_or_below
  | cons q passed ih =>
    obtain ⟨qBelow, below⟩ := List.forall_mem_cons.1 below
    exact (curveSegment_cons_of_le xi yi q.2 _ qBelow).trans (ih below q.1 q.2)

/-- From its first breakpoint on, the value of a curve is read on its segments; at the breakpoint itself both
formulas give y₀. -/
theorem curveValue_cons_of_le {x : Int} {p : Int × Nat} {rest : List (Int × Nat)}
    (sorted : (p :: rest).Pairwise fun p q => p.1 < q.1) (h : p.1 ≤ x) :
    curveValue (p :: rest) x = curveSegment x p.1 p.2 rest := by
  rw [curveValue]
  split
  next low =>
    obtain rfl : x = p.1 := by omega
    cases rest with
    | nil => rfl
    | cons q rest =>
      have above : p.1 < q.1 := List.rel_of_pairwise_cons sorted List.mem_cons_self
      simp [curveSegment, above]
  next => rfl

/-- A breakpoint at or below x takes the value over from all before it. -/
theorem curveValue_append_cons {x : Int} {p : Int × Nat} {passed rest : List (Int × Nat)}
    (sorted : (passed ++ p :: rest).Pairwise fun p q => p.1 < q.1) (h : p.1 ≤ x) :
    curveValue (passed ++ p :: rest) x = curveSegment x p.1 p.2 rest := by
  obtain ⟨-, tailSorted, before⟩ := List.pairwise_append.1 sorted
  have below : ∀ q ∈ passed, q.1 ≤ x := fun q mem => (before q mem p List.mem_cons_self).le.trans h
  cases passed with
  | nil => exact curveValue_cons_of_le tailSorted h
  | cons q passed =>
    obtain ⟨qBelow, below⟩ := List.forall_mem_cons.1 below
    exact (curveValue_cons_of_le sorted qBelow).trans (curveSegment_append_cons rest h passed below q.1 q.2)

theorem curveValue_of_le_head {points : List (Int × Nat)} {x : Int} {p : Int × Nat} (head : points.head? = some p)
    (h : x ≤ p.1) : curveValue points x = p.2 := by
  obtain ⟨rest, rfl⟩ := List.head?_eq_some_iff.1 head
  rw [curveValue, if_pos h]

theorem curveValue_of_getLast_le {points : List (Int × Nat)} {x : Int} {p : Int × Nat}
    (sorted : points.Pairwise fun p q => p.1 < q.1) (last : points.getLast? = some p) (h : p.1 ≤ x) :
    curveValue points x = p.2 := by
  obtain ⟨passed, rfl⟩ := List.getLast?_eq_some_iff.1 last
  exact curveValue_append_cons sorted h

theorem curveValue_of_between {points : List (Int × Nat)} {x : Int} {p q : Int × Nat} {i : Nat}
    (sorted : points.Pairwise fun p q => p.1 < q.1) (hp : points[i]? = some p) (hq : points[i + 1]? = some q)
    (low : p.1 ≤ x) (high : x < q.1) :
    (curveValue points x : Int) = p.2 + ((q.2 : Int) - p.2) * (x - p.1) / (q.1 - p.1) := by
  have cut : points = points.take i ++ p :: q :: points.drop (i + 2) := by
    obtain ⟨pIn, rfl⟩ := List.getElem?_eq_some_iff.1 hp
    obtain ⟨qIn, rfl⟩ := List.getElem?_eq_some_iff.1 hq
    rw [← List.drop_eq_getElem_cons qIn, ← List.drop_eq_getElem_cons pIn, List.take_append_drop]
  rw [cut] at sorted ⊢
  rw [curveValue_append_cons sorted low]
  exact curveSegment_cons_of_lt p.2 q.2 _ low high

/-- Settles O53: the breakpoints at or below x are passed over, and the last of them carries the value. -/
theorem curveValueInterpolates : Obligations.CurveValueInterpolates := fun _ _ sorted =>
  ⟨fun _ => curveValue_of_le_head, fun _ => curveValue_of_getLast_le sorted,
    fun _ _ _ => curveValue_of_between sorted⟩

/-! ## Claims (R119)

A claim is the least number of units that covers its current, and the rest follows from that. -/

/-- A number of units covers a current when its power at V_nom is at most theirs. -/
theorem claimOf_le_iff (current vNom c : Nat) : claimOf current vNom ≤ c ↔ current * vNom ≤ c * 5000000 :=
  ceilDiv_le_iff (current * vNom) Config.claimDivisor c (by decide)

theorem le_claimOf_mul (current vNom : Nat) : current * vNom ≤ 5000000 * claimOf current vNom := by
  have covered := (claimOf_le_iff current vNom (claimOf current vNom)).1 le_rfl
  omega

/-- One unit less than the claim does not cover the current. -/
theorem claimOf_mul_lt (current vNom : Nat) : 5000000 * claimOf current vNom < current * vNom + 5000000 := by
  have least := claimOf_le_iff current vNom (claimOf current vNom - 1)
  omega

theorem claimOf_eq_zero_iff {vNom : Nat} (current : Nat) (powered : 0 < vNom) :
    claimOf current vNom = 0 ↔ current = 0 := by
  rw [← Nat.le_zero, claimOf_le_iff, Nat.zero_mul, Nat.le_zero, Nat.mul_eq_zero, or_iff_left powered.ne']

theorem claimOf_le_iff_le_div {vNom : Nat} (current c : Nat) (powered : 0 < vNom) :
    claimOf current vNom ≤ c ↔ current ≤ c * 5000000 / vNom := by
  rw [claimOf_le_iff, Nat.le_div_iff_mul_le powered]

theorem claimOf_mono {current larger : Nat} (vNom : Nat) (h : current ≤ larger) :
    claimOf current vNom ≤ claimOf larger vNom :=
  (claimOf_le_iff _ _ _).2 <| (Nat.mul_le_mul_right vNom h).trans <|
    (claimOf_le_iff larger vNom _).1 le_rfl

theorem State.reachRest_drivenClaim (s : State) :
    s.reachRest.bay.drivenClaim = min s.bay.drivenClaim (claimOf (s.drive.level / 1000) s.engine.ratings.vNom) := (rfl)

/-- Settles O54: the claim is the least number of units that covers the current. -/
theorem claimRoundsUp : Obligations.ClaimRoundsUp :=
  ⟨fun current vNom => ⟨claimOf_mul_lt current vNom, le_claimOf_mul current vNom⟩,
    fun current _ => claimOf_eq_zero_iff current,
    fun current _ c => claimOf_le_iff_le_div current c,
    fun current limit vNom => claimOf_mono vNom (min_le_left current limit),
    fun _ => rfl,
    State.reachRest_drivenClaim⟩

/-! ## Backoff slots (R124)

5 and 3 have inverses modulo 16. So the slots part the addresses and 16 consecutive attempts, and these attempts take
every slot count from 1 to 16 once. -/

theorem backoffSlots_bounds (address attempt : Nat) :
    1 ≤ backoffSlots address attempt ∧ backoffSlots address attempt ≤ 16 := by
  unfold backoffSlots; omega

theorem backoffSlots_address_inj {a b n : Nat} (ha : a < 16) (hb : b < 16)
    (same : backoffSlots a n = backoffSlots b n) : a = b := by
  unfold backoffSlots at same; omega

theorem backoffSlots_attempt_inj {a m n : Nat} (hm : m < n + 16) (hn : n < m + 16)
    (same : backoffSlots a m = backoffSlots a n) : m = n := by
  unfold backoffSlots at same; omega

/-- The wait of a failed attempt, for a backoff_unit of 1 to 100. -/
theorem backoffWait_bounds (a n : Nat) {unit : Nat} (low : 1 ≤ unit) (high : unit ≤ 100) :
    10 ≤ backoffSlots a n * (unit * 10) ∧ backoffSlots a n * (unit * 10) ≤ 16000 := by
  obtain ⟨one_le, le_sixteen⟩ := backoffSlots_bounds a n
  exact ⟨Nat.mul_le_mul one_le (by omega : 10 ≤ unit * 10),
    Nat.mul_le_mul le_sixteen (by omega : unit * 10 ≤ 1000)⟩

theorem injOn_backoffSlots (a : Nat) : Set.InjOn (fun k => backoffSlots a (k + 1)) (Finset.range 16) := by
  intro m hm n hn same
  simp only [Finset.coe_range, Set.mem_Iio] at hm hn
  exact Nat.succ_injective (backoffSlots_attempt_inj (by omega) (by omega) same)

theorem image_backoffSlots (a : Nat) :
    (Finset.range 16).image (fun k => backoffSlots a (k + 1)) = Finset.Icc 1 16 := by
  refine Finset.eq_of_subset_of_card_le ?_ ?_
  · exact Finset.image_subset_iff.2 fun k _ => Finset.mem_Icc.2 (backoffSlots_bounds a (k + 1))
  · rw [Finset.card_image_of_injOn (injOn_backoffSlots a), Nat.card_Icc, Finset.card_range]

/-- 16 consecutive attempts take every slot count once, and 1 + 2 + … + 16 = 136. -/
theorem sum_backoffSlots_sixteen (a : Nat) : ((List.range 16).map fun k => backoffSlots a (k + 1)).sum = 136 := by
  calc ((List.range 16).map fun k => backoffSlots a (k + 1)).sum
      = ∑ k ∈ Finset.range 16, backoffSlots a (k + 1) := by
        rw [← List.sum_toFinset _ List.nodup_range, List.toFinset_range]
    _ = ∑ slots ∈ Finset.Icc 1 16, slots := by
        rw [← image_backoffSlots a, Finset.sum_image (injOn_backoffSlots a)]
    _ = 136 := by decide

theorem sum_backoffSlots_fourteen (a : Nat) :
    ((List.range 14).map fun k => backoffSlots a (k + 1)).sum = 136 - backoffSlots a 15 - backoffSlots a 16 := by
  have all := sum_backoffSlots_sixteen a
  rw [List.sum_range_succ, List.sum_range_succ, Nat.add_assoc] at all
  rw [Nat.sub_sub]
  exact Nat.eq_sub_of_add_eq all

/-- Each attempt waits 3 slots more than the one before, or 13 fewer. -/
theorem backoffSlots_succ (a n : Nat) :
    backoffSlots a (n + 1) = backoffSlots a n + 3 ∨ backoffSlots a (n + 1) + 13 = backoffSlots a n := by
  unfold backoffSlots; omega

theorem backoffSlots_last_two (a : Nat) :
    5 ≤ backoffSlots a 15 + backoffSlots a 16 ∧ backoffSlots a 15 + backoffSlots a 16 ≤ 29 := by
  have advance : backoffSlots a 16 = backoffSlots a 15 + 3 ∨ backoffSlots a 16 + 13 = backoffSlots a 15 :=
    backoffSlots_succ a 15
  have first := backoffSlots_bounds a 15
  have second := backoffSlots_bounds a 16
  omega

theorem sum_backoffSlots_bounds (a : Nat) :
    107 ≤ ((List.range 14).map fun k => backoffSlots a (k + 1)).sum
      ∧ ((List.range 14).map fun k => backoffSlots a (k + 1)).sum ≤ 131 := by
  have last := backoffSlots_last_two a
  rw [sum_backoffSlots_fourteen]
  omega

/-- Settles O55: 5 and 3 have inverses modulo 16, and 16 attempts take every slot count once. -/
theorem backoffSlotsPartStations : Obligations.BackoffSlotsPartStations :=
  ⟨fun _ _ => ⟨rfl, rfl⟩, backoffSlots_bounds, fun _ _ _ => backoffSlots_address_inj,
    fun _ _ _ => backoffSlots_attempt_inj, fun a n _ => backoffWait_bounds a n,
    fun a _ => sum_backoffSlots_fourteen a, fun a _ => sum_backoffSlots_bounds a,
    by rw [sum_backoffSlots_fourteen]; decide, by rw [sum_backoffSlots_fourteen]; decide⟩

end Sys2Proof.Machine

/-! ## The result queue (R179)

An operation of the walk only adds records at the tail, within the bound. So does every event, every command but a
reset, and a completed transaction once it has removed the head that it sent. -/

namespace Sys2Proof.Machine

theorem QueueGrows.of_eq {q r : List Record} (h : r = q) : QueueGrows q r := h ▸ .refl q

theorem QueueOk.drop {q : List Record} (h : QueueOk q) (n : Nat) : QueueOk (q.drop n) :=
  ⟨((List.drop_sublist n q).length_le).trans h.1, ((List.drop_sublist n q).countP_le).trans h.2⟩

/-! ### Events -/

/-- An event that only adds records at the tail of the result queue, within the bound. -/
def EventGrows (event : State → Option State) : Prop :=
  ∀ s t, event s = some t → QueueGrows s.queue t.queue

theorem EventGrows.getD {event : State → Option State} (grows : EventGrows event) (s : State) :
    QueueGrows s.queue ((event s).getD s).queue := by
  cases due : event s with
  | none => exact .refl _
  | some t => exact grows s t due

/-- An event under a guard grows the queue when what it does grows it. -/
theorem EventGrows.guarded (due : State → Prop) [DecidablePred due] {taken : State → State}
    (grows : ∀ s : State, QueueGrows s.queue (taken s).queue) :
    EventGrows (fun s => if due s then some (taken s) else none) := by
  intro s t some_eq
  obtain ⟨-, rfl⟩ : due s ∧ taken s = t := by simpa using some_eq
  exact grows s

/-- The trip of a detector is delivered, and the walk goes on. -/
theorem State.deliverTrip_goOn_grows (s : State) : QueueGrows s.queue s.deliverTrip.goOn.queue :=
  State.goOn_grows (State.deliverTrip_grows (.refl _))

theorem collapseDetect_grows : EventGrows State.collapseDetect := .guarded _ State.deliverTrip_goOn_grows

theorem alarmDetect_grows : EventGrows State.alarmDetect := .guarded _ State.deliverTrip_goOn_grows

theorem kneeEvent_grows : EventGrows State.kneeEvent := .guarded _ fun _ => State.knee_grows (.refl _)

theorem regulationEvent_grows : EventGrows State.regulationEvent :=
  .guarded _ fun s => .of_eq s.takeRegulation_queue

theorem blankClose_grows (channel : Channel) : EventGrows (State.blankClose channel) :=
  .guarded _ fun _ => State.checkSettle_grows (.refl _)

theorem windowEvent_grows : EventGrows State.windowEvent :=
  .guarded _ fun _ => State.goOn_grows (State.windowDone_grows (.refl _))

theorem captureBlockOffer_grows : EventGrows State.captureBlockOffer :=
  .guarded _ fun _ => State.goOn_grows (State.takeBlockOffer_grows (.refl _))

theorem stepTimeLimitExpiry_grows : EventGrows State.stepTimeLimitExpiry :=
  .guarded _ fun _ => State.goOn_grows (State.expireStep_grows (.refl _))

theorem pageWaitExpiry_grows : EventGrows State.pageWaitExpiry :=
  .guarded _ fun s => .of_eq (s.enterWinddown_queue .starved)

theorem ceilingHoldEnd_grows : EventGrows State.ceilingHoldEnd := .guarded _ fun _ => .of_eq (by simp)

theorem tripWaitEnd_grows : EventGrows State.tripWaitEnd := .guarded _ fun _ => .of_eq (by simp)

theorem pulseStopRequest_grows : EventGrows State.pulseStopRequest :=
  .guarded _ fun s => State.endBody_grows (s := s) (.refl _)

theorem stalledRecordPlaced_grows : EventGrows State.stalledRecordPlaced :=
  .guarded _ fun _ => State.goOn_grows (.refl _)

theorem admissionDecision_grows : EventGrows State.admissionDecision :=
  .guarded _ fun _ => State.goOn_grows (State.decideAdmission_grows (.refl _))

theorem backoffEnd_grows : EventGrows State.backoffEnd := .guarded _ fun s => .of_eq s.beginAttempt_queue

theorem quietWaitEnd_grows : EventGrows State.quietWaitEnd := .guarded _ fun _ => .refl _

theorem gateDecision_grows : EventGrows State.gateDecision :=
  .guarded _ fun _ => State.goOn_grows (State.decideGate_grows (.refl _))

theorem gateBackoffEnd_grows : EventGrows State.gateBackoffEnd := .guarded _ fun s => .of_eq s.enterGate_queue

theorem releaseSpanEnd_grows : EventGrows State.releaseSpanEnd := .guarded _ fun _ => .refl _

theorem generatorSetEnd_grows : EventGrows State.generatorSetEnd :=
  .guarded _ fun _ => State.goOn_grows (State.reportSetEnd_grows (.refl _))

theorem applyComplete_grows : EventGrows State.applyComplete :=
  .guarded _ fun _ => State.reportSetEnd_grows (.refl _)

theorem pulseCycleEnd_grows : EventGrows State.pulseCycleEnd :=
  .guarded _ fun _ => State.goOn_grows (State.takeCycleEnd_grows (.refl _))

theorem relayCountExpiry_grows : EventGrows State.relayCountExpiry :=
  .guarded _ fun _ => State.takeRelayExpiry_grows (.refl _)

theorem resetPulseEnd_grows : EventGrows State.resetPulseEnd :=
  .guarded _ fun _ => .of_eq (by split <;> simp)

theorem rangeDownEnd_grows : EventGrows State.rangeDownEnd := by
  intro s t due
  unfold State.rangeDownEnd at due
  split at due
  · cases due
    exact .refl _
  · cases due

/-- The ends of LEAD and OFF leave the queue alone, and with the end of RESTORE the step is judged (R86). -/
theorem couplingSpanEnd_grows : EventGrows State.couplingSpanEnd := by
  intro s t due
  unfold State.couplingSpanEnd at due
  split at due
  · cases due
    exact .of_eq (by simp)
  · cases due
    exact .refl _
  · cases due
    exact State.goOn_grows (State.takeCouplingEnd_grows (.refl _))
  · cases due

theorem rowEvents_grow : ∀ event ∈ rowEvents, EventGrows event := by
  simp [rowEvents, dueEvents, collapseDetect_grows, alarmDetect_grows, kneeEvent_grows, regulationEvent_grows,
    blankClose_grows, windowEvent_grows, captureBlockOffer_grows, stepTimeLimitExpiry_grows, pageWaitExpiry_grows,
    ceilingHoldEnd_grows, tripWaitEnd_grows, pulseStopRequest_grows, stalledRecordPlaced_grows,
    admissionDecision_grows, backoffEnd_grows, quietWaitEnd_grows, gateDecision_grows, gateBackoffEnd_grows,
    releaseSpanEnd_grows, generatorSetEnd_grows, applyComplete_grows, pulseCycleEnd_grows, relayCountExpiry_grows,
    resetPulseEnd_grows, rangeDownEnd_grows, couplingSpanEnd_grows]

/-! ### SAMPLE -/

theorem firstDue_grows {events : List (State → Option State)} (grow : ∀ event ∈ events, EventGrows event) :
    EventGrows (fun s => firstDue s events) := by
  intro s t due
  induction events with
  | nil => cases due
  | cons event rest ih =>
    cases now : event s with
    | none => exact ih (fun e mem => grow e (List.mem_cons_of_mem _ mem)) (by simpa [firstDue, now] using due)
    | some u => exact grow event List.mem_cons_self s t (by simpa [firstDue, now] using due)

theorem State.takeDue_grows (rounds : Nat) (s : State) : QueueGrows s.queue (State.takeDue rounds s).queue := by
  induction rounds generalizing s with
  | zero => exact .refl _
  | succ rounds ih =>
    rw [State.takeDue]
    split
    · rename_i t due
      have first : QueueGrows s.queue t.queue :=
        firstDue_grows (fun event mem => rowEvents_grow event (by simp [rowEvents, mem])) s t due
      exact first.trans (ih t)
    · exact .refl _

@[simp] theorem State.tickEngine_queue (s : State) : s.tickEngine.queue = s.queue := by
  unfold State.tickEngine; dsimp only; (repeat' split) <;> simp

@[simp] theorem State.takeSample_queue (s : State) (i : SampleInput) : (s.takeSample i).queue = s.queue := by
  simp [State.takeSample]

theorem State.deliverEarly_grows (s : State) (i : SampleInput) : QueueGrows s.queue (s.deliverEarly i).queue := by
  have alarm : QueueGrows s.queue (if i.alarmLate then s else s.alarmDetect.getD s).queue := by
    split
    · exact .refl _
    · exact alarmDetect_grows.getD s
  have knee (u : State) : QueueGrows u.queue (if i.kneeLate then u else u.kneeEvent.getD u).queue := by
    split
    · exact .refl _
    · exact kneeEvent_grows.getD u
  exact alarm.trans (knee _)

/-- A sample settles what is due, takes the codes, and delivers an early trip and knee. -/
theorem exec_sample_grows (i : SampleInput) {s t : State} (run : exec (.sample i) s = .next t) :
    QueueGrows s.queue t.queue := by
  cases run
  have settled : QueueGrows s.queue s.settleDue.queue := State.takeDue_grows dueRounds s
  have sampled : QueueGrows s.queue (s.settleDue.takeSample i).queue := by simpa using settled
  exact sampled.trans (State.deliverEarly_grows _ i)

/-! ### Event rows -/

theorem exec_event_grows {c : Instr} {s t : State} (row : c.isEvent = true) (run : exec c s = .next t) :
    QueueGrows s.queue t.queue := by
  by_cases sample : ∃ i, c = .sample i
  · obtain ⟨i, rfl⟩ := sample
    exact exec_sample_grows i run
  by_cases opens : c = .interlockOpen
  · subst opens
    cases run
    split
    · exact State.interlockWalk_grows (.refl _)
    · exact .refl _
  by_cases closes : c = .interlockClose
  · subst closes
    cases run
    exact .refl _
  obtain ⟨event, mem, ran⟩ := exec_eventRow row (fun i e => sample ⟨i, e⟩) opens closes s
  cases ran.symm.trans run
  exact (rowEvents_grow event mem).getD s

/-! ### Commands -/

@[simp] theorem State.reply_queue (s : State) (code : Byte) (a : Answer) : (s.reply code a).queue = s.queue := (rfl)

@[simp] theorem State.takeReset_queue (s : State) (straps : BitVec 4) : (s.takeReset straps).queue = [] := (rfl)

theorem State.takeStartWalk_grows (s : State) (f : StartFields) :
    QueueGrows s.queue (s.takeStartWalk f).queue := by
  unfold State.takeStartWalk
  split
  · exact .refl _
  · rw [State.reply_queue]
    exact State.startWalk_grows _ (.refl _)

theorem State.takePauseCommand_queue (s : State) : s.takePauseCommand.queue = s.queue := by
  unfold State.takePauseCommand; (repeat' split) <;> simp

theorem State.takeResume_grows (s : State) : QueueGrows s.queue s.takeResume.queue := by
  unfold State.takeResume
  split
  case h_1 =>
    rw [State.reply_queue]
    exact State.goOn_grows (State.enterAdmit_grows _ (.refl _))
  case h_2 => split <;> exact .refl _
  all_goals exact .refl _

theorem State.takeAbort_grows (s : State) : QueueGrows s.queue s.takeAbort.queue := by
  unfold State.takeAbort
  split
  case h_1 =>
    rw [State.reply_queue]
    exact State.abortRunning_grows (.refl _)
  all_goals exact .of_eq (by simp)

theorem State.takeRelease_queue (s : State) : s.takeRelease.queue = s.queue := by
  unfold State.takeRelease; split <;> simp

theorem State.takeArmChain_grows (s : State) : QueueGrows s.queue s.takeArmChain.queue := by
  unfold State.takeArmChain
  split
  case h_6 =>
    split
    · exact .refl _
    · rw [State.reply_queue]
      exact State.armInPageWait_grows (.refl _)
  all_goals (repeat' split) <;> exact .refl _

/-- Every command that a frame can carry but RESET grows the queue. -/
theorem State.takeCommand_grows {c : Instr} (noReset : ∀ straps, c ≠ .reset straps) (s : State) :
    QueueGrows s.queue (s.takeCommand c).queue := by
  cases c with
  | reset straps => exact absurd rfl (noReset straps)
  | configure f => unfold State.takeCommand State.takeConfigure; dsimp only; split <;> exact .refl _
  | writeStep f => unfold State.takeCommand State.takeWriteStep; dsimp only; split <;> exact .refl _
  | writeCurve f => unfold State.takeCommand State.takeWriteCurve; dsimp only; split <;> exact .refl _
  | writeProfile f => unfold State.takeCommand State.takeWriteProfile; dsimp only; split <;> exact .refl _
  | writeChannel f => unfold State.takeCommand State.takeWriteChannel; dsimp only; split <;> exact .refl _
  | startWalk f => exact s.takeStartWalk_grows f
  | pause => exact .of_eq s.takePauseCommand_queue
  | resume => exact s.takeResume_grows
  | abort => exact s.takeAbort_grows
  | release => exact .of_eq s.takeRelease_queue
  | armChain => exact s.takeArmChain_grows
  | _ => exact .refl _

/-! ### Transactions -/

/-- Records left the head, at most one, and the rest only grew at the tail. -/
def QueueMoves (q r : List Record) : Prop := ∃ removed ≤ 1, QueueGrows (q.drop removed) r

theorem QueueGrows.moves {q r : List Record} (h : QueueGrows q r) : QueueMoves q r := ⟨0, by simp, h⟩

theorem QueueMoves.trans_grows {p q r : List Record} (h : QueueMoves p q) (k : QueueGrows q r) : QueueMoves p r := by
  obtain ⟨removed, one, grows⟩ := h
  exact ⟨removed, one, grows.trans k⟩

/-- A frame sent from the queue gives its entry up, and a record that waited takes it (R172, R182). -/
theorem State.consume_moves (s : State) : QueueMoves s.queue s.consume.queue := by
  unfold State.consume
  split
  case h_2 =>
    refine ⟨1, le_rfl, State.goOn_grows (.of_eq ?_)⟩
    rw [State.setQueue_queue, List.drop_one]
  all_goals exact (QueueGrows.refl _).moves

/-- A completed frame resets, or it takes the head it sent and its command grows the rest. -/
theorem State.completeTransaction_queue {bytes : List Byte} {straps : BitVec 4} (s : State) :
    ((s.completeTransaction bytes straps).queue = [] ∧ frameCommand (bytes.take 64) straps = .reset straps)
      ∨ QueueMoves s.queue (s.completeTransaction bytes straps).queue := by
  by_cases reset : frameCommand (bytes.take 64) straps = .reset straps
  · refine .inl ⟨?_, reset⟩
    rw [State.completeTransaction, Config.frameBytes, reset]
    exact State.takeReset_queue _ straps
  · have noReset : ∀ x, frameCommand (bytes.take 64) straps ≠ .reset x :=
      fun x carried => reset (frameCommand_eq_reset carried ▸ carried)
    refine .inr (s.consume_moves.trans_grows ?_)
    rw [State.completeTransaction, Config.frameBytes]
    simpa only [State.setPort_queue] using State.takeCommand_grows noReset (s.consume.setPort _)

/-- A completed transaction of a whole frame may reset; a shorter one and one whose select is not active leave the
queue alone. -/
theorem exec_transactionComplete_queue {bytes : List Byte} {straps : BitVec 4} {s t : State}
    (run : exec (.transactionComplete bytes straps) s = .next t) :
    (t.queue = [] ∧ (Instr.transactionComplete bytes straps).resets) ∨ QueueMoves s.queue t.queue := by
  cases run
  have kept : QueueMoves s.queue s.queue := (QueueGrows.refl _).moves
  unfold State.endTransaction
  split
  · split
    · exact .inr kept
    · rename_i whole
      refine s.completeTransaction_queue.imp_left fun ⟨empty, reset⟩ => ⟨empty, ?_, reset⟩
      simpa [Config.frameBytes] using whole
  · exact .inr kept
  · exact .inr kept

theorem exec_transactionIncomplete_queue {n : Nat} {s t : State}
    (run : exec (.transactionIncomplete n) s = .next t) : t.queue = s.queue := by
  cases run
  unfold State.endTransaction
  split <;> rfl

/-! ### One step -/

/-- What a row does to the result queue: a reset empties it, a completed transaction may take its head, and apart
from these it only grows. -/
theorem exec_queue_cases {c : Instr} {s t : State} (run : exec c s = .next t) :
    (t.queue = [] ∧ c.resets) ∨ QueueGrows s.queue t.queue
      ∨ ((∃ bytes straps, c = .transactionComplete bytes straps) ∧ QueueMoves s.queue t.queue) := by
  by_cases row : c.isEvent = true
  · exact .inr (.inl (exec_event_grows row run))
  cases c with
  | transactionComplete bytes straps =>
    exact (exec_transactionComplete_queue run).imp_right fun moves => .inr ⟨⟨bytes, straps, rfl⟩, moves⟩
  | reset straps | pinReset straps =>
    cases run
    exact .inl ⟨rfl, trivial⟩
  | transactionIncomplete n => exact .inr (.inl (.of_eq (exec_transactionIncomplete_queue run)))
  | transactionBegin | nop =>
    cases run
    exact .inr (.inl (.refl _))
  | badCommand | status | configure | writeStep | writeCurve | writeProfile | writeChannel | startWalk | pause | resume
  | abort | release | armChain | disarmChain =>
    cases (exec_of_isAnswered rfl s).symm.trans run
    exact .inr (.inl (State.takeCommand_grows (by simp) s))
  | _ => simp [Instr.isEvent] at row

/-- A step takes the row of the command at the front; with no command nothing changes. -/
theorem step_queue_cases {s t : State} (run : step s = .next t) :
    (t.queue = [] ∧ ∃ i rest, s.pending = i :: rest ∧ i.resets) ∨ QueueGrows s.queue t.queue
      ∨ ((∃ bytes straps rest, s.pending = .transactionComplete bytes straps :: rest)
        ∧ QueueMoves s.queue t.queue) := by
  unfold step at run
  split at run
  · rename_i i rest front
    refine (exec_queue_cases run).imp (fun ⟨empty, resets⟩ => ⟨empty, i, rest, front, resets⟩) (.imp_right ?_)
    rintro ⟨⟨bytes, straps, rfl⟩, moves⟩
    exact ⟨⟨bytes, straps, rest, front⟩, moves⟩
  · cases run
    exact .inr (.inl (.refl _))

/-! ### The counts shown -/

/-- Byte 5 of the status header is the queue count (R175). -/
theorem State.outgoingFrame_queueCount (s : State) : byteAt s.outgoingFrame 5 = BitVec.ofNat 8 s.queue.length := by
  simp [State.outgoingFrame, headerBytes, toFrame, byteAt, natBytes, Config.frameBytes]

/-- Settles O57: a step resets the queue, grows it, or, where it completes a transaction, takes its head and grows
the rest. -/
theorem queueKeepsOrderAndBound : Obligations.QueueKeepsOrderAndBound := by
  refine ⟨fun s t ok run => ?_, fun s t run => ?_, fun s t run => ?_⟩
  · rcases step_queue_cases run with ⟨empty, resets⟩ | ⟨⟨more, tail⟩, bound⟩
      | ⟨completes, removed, one, ⟨more, tail⟩, bound⟩
    · exact ⟨by simp [empty, QueueOk], .inl ⟨empty, resets⟩⟩
    · exact ⟨bound ok, .inr ⟨0, more, by simp, by simp [tail], by simp⟩⟩
    · exact ⟨bound (ok.drop removed), .inr ⟨removed, more, one, tail.symm, fun _ => completes⟩⟩
  · cases run
    exact ⟨_, _, rfl, s.outgoingFrame_queueCount⟩
  · cases run
    exact ⟨_, _, rfl, rfl, rfl⟩

end Sys2Proof.Machine

/-! ## What the drive unit spans (R50, R72 to R80, R120)

The load of the drive unit is bounded by three currents: that of the level, the peak of the set in force and the peak
of the set that waits. `Drive.span` is the largest of them, and no operation of the drive unit raises it but the
staging of a set, which raises it at most to the peak of that set. `Drive.Within` and `Drive.CoveredBy` are statements
about the span, so that this is proved once for both. -/

namespace Sys2Proof.Machine

/-! ### One ramp -/

/-- A rising ramp after `k` updates. -/
theorem rampUpdate_iterate_rising {level stop : Nat} (slope k : Nat) (rising : level ≤ stop) :
    (fun l => rampUpdate l stop slope)^[k] level = min (level + k * slope) stop := by
  induction k with
  | zero => simp [rising]
  | succ k ih =>
    rw [Function.iterate_succ_apply', ih, rampUpdate_rising _ _ _ (min_le_right _ _), Nat.succ_mul]
    omega

/-- A falling ramp after `k` updates. -/
theorem rampUpdate_iterate_falling {level stop : Nat} (slope k : Nat) (falling : stop ≤ level) :
    (fun l => rampUpdate l stop slope)^[k] level = max (level - k * slope) stop := by
  induction k with
  | zero => simp [falling]
  | succ k ih =>
    rw [Function.iterate_succ_apply', ih, rampUpdate_falling _ _ _ (le_max_right _ _), Nat.succ_mul]
    omega

/-- A ramp stands at its end after `k` updates exactly when `k` slopes cover the distance. -/
theorem rampUpdate_iterate_eq_stop_iff (level stop : Nat) {slope : Nat} (k : Nat) (moves : 0 < slope) :
    (fun l => rampUpdate l stop slope)^[k] level = stop
      ↔ ceilDiv (if level ≤ stop then stop - level else level - stop) slope ≤ k := by
  rw [ceilDiv_le_iff _ _ _ moves]
  split
  next rising => rw [rampUpdate_iterate_rising slope k rising]; omega
  next falling => rw [rampUpdate_iterate_falling slope k (by omega)]; omega

/-- An update of a ramp ends no farther up than the higher of its level and its end. -/
theorem rampUpdate_le (level stop slope : Nat) : rampUpdate level stop slope ≤ max level stop := by
  unfold rampUpdate
  split <;> split <;> omega

/-- A ramp that has not landed has moved no farther than its end. -/
theorem rampUpdate_zero (level slope : Nat) : rampUpdate level 0 slope = level - slope := by
  rw [rampUpdate_falling _ _ _ (Nat.zero_le _)]; omega

/-! ### Sets and their peaks -/

/-- The largest of the currents that the level, the set in force and a waiting set stand for. -/
def Drive.span (d : Drive) : Nat :=
  max (d.level / 1000) (max d.active.peak ((d.staged.map (·.set.peak)).getD 0))

theorem Drive.span_le_iff (d : Drive) (n : Nat) :
    d.span ≤ n ↔ d.level / 1000 ≤ n ∧ d.active.peak ≤ n ∧ ∀ st, d.staged = some st → st.set.peak ≤ n := by
  unfold Drive.span
  cases d.staged <;> simp

theorem Drive.within_iff (d : Drive) (limit : Nat) : d.Within limit ↔ d.span ≤ limit :=
  (d.span_le_iff limit).symm

theorem Covers.mono {claim vNom x y : Nat} (covers : Covers claim vNom y) (h : x ≤ y) : Covers claim vNom x :=
  (claimOf_mono vNom h).trans covers

theorem Covers.zero (claim vNom : Nat) : Covers claim vNom 0 := by
  simp [Covers, claimOf, ceilDiv, Config.claimDivisor]

theorem Drive.coveredBy_iff (d : Drive) (claim vNom : Nat) : d.CoveredBy claim vNom ↔ Covers claim vNom d.span := by
  constructor
  · rintro ⟨level, active, waits⟩
    unfold Drive.span
    rcases max_choice (d.level / 1000) (max d.active.peak ((d.staged.map (·.set.peak)).getD 0)) with h | h <;> rw [h]
    · exact level
    · rcases max_choice d.active.peak ((d.staged.map (·.set.peak)).getD 0) with k | k <;> rw [k]
      · exact active
      · cases staged : d.staged with
        | none => exact Covers.zero claim vNom
        | some st => exact waits st staged
  · intro covers
    obtain ⟨level, active, waits⟩ := (d.span_le_iff d.span).1 le_rfl
    exact ⟨covers.mono level, covers.mono active, fun st h => covers.mono (waits st h)⟩

theorem Drive.Within.of_span_le {d d' : Drive} {limit : Nat} (within : d.Within limit) (h : d'.span ≤ d.span) :
    d'.Within limit :=
  (d'.within_iff limit).2 (h.trans ((d.within_iff limit).1 within))

theorem Drive.CoveredBy.of_span_le {d d' : Drive} {claim vNom : Nat} (covered : d.CoveredBy claim vNom)
    (h : d'.span ≤ d.span) : d'.CoveredBy claim vNom :=
  (d'.coveredBy_iff claim vNom).2 (((d.coveredBy_iff claim vNom).1 covered).mono h)

theorem Drive.level_le_span (d : Drive) : d.level / 1000 ≤ d.span := le_max_left _ _

theorem Drive.active_le_span (d : Drive) : d.active.peak ≤ d.span := le_max_of_le_right (le_max_left _ _)

theorem Drive.staged_le_span {d : Drive} {st : Staged} (h : d.staged = some st) : st.set.peak ≤ d.span :=
  ((d.span_le_iff d.span).1 le_rfl).2.2 st h

/-- A set that takes force may drop its jump, and goes no higher for that. -/
theorem GenSet.settled_peak_le (g : GenSet) (level : Nat) : (g.settled level).peak ≤ g.peak := by
  unfold GenSet.settled
  split
  · split <;> simp [GenSet.peak]
  · exact le_rfl

theorem GenSet.clamp_peak_le_limit (g : GenSet) (limit : Nat) : (g.clamp limit).peak ≤ limit := by
  cases g with
  | level target => simp only [GenSet.clamp, GenSet.peak]; omega
  | ramp start stop slope => cases start <;> simp [GenSet.clamp, GenSet.peak]
  | pulse lo hi period high cycles => simp [GenSet.clamp, GenSet.peak]

theorem GenSet.clamp_peak_le_peak (g : GenSet) (limit : Nat) : (g.clamp limit).peak ≤ g.peak := by
  cases g with
  | level target => simp only [GenSet.clamp, GenSet.peak]; omega
  | ramp start stop slope => cases start <;> simp [GenSet.clamp, GenSet.peak]; omega
  | pulse lo hi period high cycles => simp only [GenSet.clamp, GenSet.peak]; omega

/-- The clamp leaves a set alone that is within the limit (R76). -/
theorem GenSet.clamp_eq_self {g : GenSet} {limit : Nat} (within : g.peak ≤ limit)
    (target : ∀ t, g = .level t → t ≤ limit * 1000) : g.clamp limit = g := by
  cases g with
  | level t => simp [GenSet.clamp, target t rfl]
  | ramp start stop slope => cases start <;> simp_all [GenSet.clamp, GenSet.peak]
  | pulse lo hi period high cycles => simp_all [GenSet.clamp, GenSet.peak]

/-! ### The operations -/

theorem Drive.span_holdLevel_le (d : Drive) : d.holdLevel.span ≤ d.span :=
  (Drive.span_le_iff _ _).2 ⟨d.level_le_span, d.level_le_span, fun _ h => Drive.staged_le_span h⟩

theorem Drive.span_takeForce_le (d : Drive) (g : GenSet) : (d.takeForce g).span ≤ max d.span g.peak :=
  (Drive.span_le_iff _ _).2
    ⟨le_max_of_le_left d.level_le_span, le_max_of_le_right (g.settled_peak_le d.level), fun _ h => by cases h⟩

theorem Drive.span_proceed_le (d : Drive) (g : GenSet) (range : Option LoadRange) :
    (d.proceed g range).span ≤ max d.span g.peak := by
  unfold Drive.proceed
  split
  · split
    · exact d.span_takeForce_le g
    · refine (Drive.span_le_iff _ _).2 ⟨le_max_of_le_left d.level_le_span, Nat.zero_le _, ?_⟩
      rintro st ⟨⟩
      exact le_max_right _ _
  · exact d.span_takeForce_le g

theorem Drive.span_setStaged_le (d : Drive) (st : Staged) :
    { d with staged := some st }.span ≤ max d.span st.set.peak := by
  refine (Drive.span_le_iff _ _).2 ⟨le_max_of_le_left d.level_le_span, le_max_of_le_left d.active_le_span, ?_⟩
  rintro _ ⟨⟩
  exact le_max_right _ _

/-- Staging a set takes the span at most to the peak of that set (R73, R77 to R79). -/
theorem Drive.span_stage_le (d : Drive) (g : GenSet) (req : Request) : (d.stage g req).span ≤ max d.span g.peak := by
  unfold Drive.stage
  cases req with
  | plain =>
    dsimp only
    split
    · exact le_max_left _ _
    · split
      · exact d.span_setStaged_le _
      · exact d.span_proceed_le g none
  | applying r =>
    dsimp only
    split
    · exact { d with dropHold := false }.span_setStaged_le ⟨g, some r⟩
    · exact { d with dropHold := false }.span_proceed_le g (some r)
  | winddown =>
    dsimp only
    split
    · exact d.span_setStaged_le _
    · exact d.span_proceed_le g none

theorem Drive.span_releaseStaged_le (d : Drive) : d.releaseStaged.span ≤ d.span := by
  unfold Drive.releaseStaged
  split
  next st staged =>
    split
    · exact le_rfl
    · exact (d.span_proceed_le st.set st.range).trans (max_le le_rfl (Drive.staged_le_span staged))
  · exact le_rfl

theorem Drive.span_of_level_le {d : Drive} {level : Nat} (h : level / 1000 ≤ d.span) :
    { d with level := level }.span ≤ d.span :=
  (Drive.span_le_iff _ _).2 ⟨h, d.active_le_span, fun _ k => Drive.staged_le_span k⟩

theorem Drive.span_endCoupling (d : Drive) : d.endCoupling.span = d.span := by
  unfold Drive.endCoupling; split <;> rfl

theorem Drive.span_endResetPulse (d : Drive) : d.endResetPulse.span = d.span := by
  unfold Drive.endResetPulse; split <;> rfl

theorem Drive.span_unstaged_le (d : Drive) : { d with staged := none }.span ≤ d.span :=
  (Drive.span_le_iff _ _).2 ⟨d.level_le_span, d.active_le_span, fun _ h => by cases h⟩

theorem Drive.lo_le_span {d : Drive} {lo hi period high cycles : Nat}
    (active : d.active = .pulse lo hi period high cycles) : lo * 1000 / 1000 ≤ d.span := by
  have bound := d.active_le_span
  rw [active, GenSet.peak] at bound
  omega

theorem Drive.span_haltSet_le (d : Drive) : d.haltSet.span ≤ d.span := by
  unfold Drive.haltSet
  split
  next lo _ _ _ _ _ active _ =>
    exact (Drive.span_holdLevel_le { d with level := lo * 1000 }).trans (Drive.span_of_level_le (Drive.lo_le_span active))
  · exact d.span_holdLevel_le
  · exact le_rfl

theorem Drive.span_halt_le (d : Drive) : d.halt.span ≤ d.span := by
  rw [Drive.halt, Drive.span_endResetPulse, Drive.span_endCoupling]
  exact (Drive.span_haltSet_le _).trans d.span_unstaged_le

theorem Drive.span_tripDrop (d : Drive) : d.tripDrop.span = 0 := by
  rw [Drive.tripDrop, Drive.span_endCoupling]; simp [Drive.span, Drive.holdLevel, GenSet.peak]

theorem Drive.span_immediateDrop (d : Drive) : d.immediateDrop.span = 0 := by
  simp [Drive.span, Drive.immediateDrop, Drive.holdLevel, GenSet.peak]

/-- One action of the set in force stays within the span (R72, R74). -/
theorem Drive.span_act_le (d : Drive) : d.act.span ≤ d.span := by
  have active := d.active_le_span
  have level := d.level_le_span
  unfold Drive.act
  split
  next t _ act => rw [act] at active; exact Drive.span_of_level_le active
  next f stop slope _ act =>
    rw [act] at active
    simp only [GenSet.peak, Option.getD_some] at active
    refine (Drive.span_le_iff _ _).2 ⟨?_, ?_, fun _ h => Drive.staged_le_span h⟩
    · dsimp only; omega
    · simp only [GenSet.peak, Option.getD_none]; omega
  next stop slope _ act =>
    rw [act] at active
    simp only [GenSet.peak, Option.getD_none] at active
    have moved := rampUpdate_le d.level (stop * 1000) slope
    exact Drive.span_of_level_le (by omega)
  next lo hi period high cycles _ act =>
    rw [act] at active
    simp only [GenSet.peak] at active
    refine Drive.span_of_level_le ?_
    split <;> omega
  · exact le_rfl

theorem Drive.span_checkDown_le (d : Drive) : d.checkDown.span ≤ d.span := by
  unfold Drive.checkDown
  split
  · split
    · exact d.span_holdLevel_le
    · exact le_rfl
  · exact le_rfl

theorem Drive.span_update_le (d : Drive) : d.update.span ≤ d.span :=
  (d.act.span_checkDown_le).trans d.span_act_le

theorem Drive.span_endCycle_le (d : Drive) : d.endCycle.span ≤ d.span := by
  unfold Drive.endCycle
  dsimp only
  split
  next lo _ _ _ _ active =>
    split
    · have low := Drive.lo_le_span active
      exact (Drive.span_le_iff _ _).2 ⟨low, low, fun _ h => Drive.staged_le_span h⟩
    · split
      next st staged =>
        split
        · exact le_rfl
        · refine (Drive.span_proceed_le _ st.set st.range).trans (max_le ?_ (Drive.staged_le_span staged))
          exact Drive.span_holdLevel_le { d with
            completed := min (d.completed + 1) Config.cyclesCeiling, cycleEnded := false }
      · exact le_rfl
  · exact le_rfl

theorem Drive.span_endDown (d : Drive) : d.endDown.span = d.span := by
  unfold Drive.endDown; split <;> rfl

theorem Drive.span_relayExpiry_le (d : Drive) : d.relayExpiry.span ≤ d.span := by
  unfold Drive.relayExpiry
  split
  · exact Drive.span_releaseStaged_le { d with
      loadEnable := true, loadRequest := false, rangeChange := .none, rangeChanged := true }
  · exact le_rfl

/-! ### What an update leaves alone -/

section
variable (d : Drive)

@[simp] theorem Drive.act_loadEnable : d.act.loadEnable = d.loadEnable := by unfold Drive.act; split <;> rfl
@[simp] theorem Drive.act_loadRequest : d.act.loadRequest = d.loadRequest := by unfold Drive.act; split <;> rfl
@[simp] theorem Drive.act_range : d.act.range = d.range := by unfold Drive.act; split <;> rfl
@[simp] theorem Drive.act_relayCount : d.act.relayCount = d.relayCount := by unfold Drive.act; split <;> rfl
@[simp] theorem Drive.act_rangeChange : d.act.rangeChange = d.rangeChange := by unfold Drive.act; split <;> rfl
@[simp] theorem Drive.act_staged : d.act.staged = d.staged := by unfold Drive.act; split <;> rfl
@[simp] theorem Drive.act_completed : d.act.completed = d.completed := by unfold Drive.act; split <;> rfl
@[simp] theorem Drive.act_dropHold : d.act.dropHold = d.dropHold := by unfold Drive.act; split <;> rfl
@[simp] theorem Drive.act_lineSetpoint : d.act.lineSetpoint = d.lineSetpoint := by unfold Drive.act; split <;> rfl
@[simp] theorem Drive.act_lineEnable : d.act.lineEnable = d.lineEnable := by unfold Drive.act; split <;> rfl
@[simp] theorem Drive.act_coupling : d.act.coupling = d.coupling := by unfold Drive.act; split <;> rfl
@[simp] theorem Drive.act_shelfEnable : d.act.shelfEnable = d.shelfEnable := by unfold Drive.act; split <;> rfl
@[simp] theorem Drive.act_resetPulse : d.act.resetPulse = d.resetPulse := by unfold Drive.act; split <;> rfl

/-- Without a DOWN to end, an update is the action of the set in force and the counts (R71). -/
theorem Drive.update_of_noChange {d : Drive} (h : d.rangeChange = .none) : d.update = { d.act with
    relayCount := d.relayCount - 1
    coupling := d.coupling.tick
    resetPulse := d.resetPulse.map (· - 1) } := by
  have down : d.act.checkDown = d.act := by unfold Drive.checkDown; simp [h]
  simp [Drive.update, down]

/-- A set at rest stays at rest. -/
theorem Drive.act_of_rest {d : Drive} (h : d.status = .rest) : d.act = d := by
  unfold Drive.act; rw [h]

@[simp] theorem Drive.update_staged : d.update.staged = d.staged := by
  unfold Drive.update Drive.checkDown; dsimp only; (repeat' split) <;> simp
@[simp] theorem Drive.update_range : d.update.range = d.range := by
  unfold Drive.update Drive.checkDown; dsimp only; (repeat' split) <;> simp
@[simp] theorem Drive.update_coupling : d.update.coupling = d.coupling.tick := by
  unfold Drive.update Drive.checkDown; dsimp only; (repeat' split) <;> simp
@[simp] theorem Drive.update_relayCount : d.update.relayCount = d.relayCount - 1 := by
  unfold Drive.update Drive.checkDown; dsimp only; (repeat' split) <;> simp [Drive.holdLevel]
@[simp] theorem Drive.update_resetPulse : d.update.resetPulse = d.resetPulse.map (· - 1) := by
  unfold Drive.update Drive.checkDown; dsimp only; (repeat' split) <;> simp [Drive.holdLevel]

end

/-- Settles O56: iteration of one update, the span of the drive unit under each operation, and the clamp. -/
theorem rampReachesItsEnd : Obligations.RampReachesItsEnd := by
  refine ⟨fun level stop slope k moves => ⟨rampUpdate_iterate_rising slope k, rampUpdate_iterate_falling slope k,
      rampUpdate_iterate_eq_stop_iff level stop k moves⟩, fun d limit within => ?_,
    fun _ => ⟨rfl, rfl⟩,
    fun g limit => ⟨g.clamp_peak_le_limit limit, g.clamp_peak_le_peak limit, GenSet.clamp_eq_self⟩,
    fun d limit vNom claim within covers => ?_⟩
  · exact ⟨within.of_span_le d.span_update_le, within.of_span_le d.span_halt_le,
      within.of_span_le (d.span_tripDrop.trans_le (Nat.zero_le _)),
      within.of_span_le (d.span_immediateDrop.trans_le (Nat.zero_le _)),
      within.of_span_le d.span_holdLevel_le, within.of_span_le d.span_releaseStaged_le,
      within.of_span_le d.span_endCycle_le, within.of_span_le d.span_endDown.le,
      within.of_span_le d.span_relayExpiry_le, within,
      fun g req peak => (Drive.within_iff _ _).2
        ((d.span_stage_le g req).trans (max_le ((d.within_iff limit).1 within) peak))⟩
  · obtain ⟨level, -, -⟩ := within.of_span_le d.span_update_le
    exact (claimOf_mono vNom level).trans covers

end Sys2Proof.Machine

/-! ## What the shared operations do to the blocks

For each operation of the walk that the later proofs meet, the block or field it changes and those it leaves alone, so
that no proof unfolds the operation again. The engine's accessors (`ratings`, `record`, `safeSlope` and so on) are given
on an engine written out, and folded back where they stand for those of an engine in the context. -/

namespace Sys2Proof.Machine

/-! ### The engine's accessors on a record update -/

section
variable (walk : WalkState) (header : Option WalkHeader) (profile : Option Ratings) (page chain : Option Page)
  (pausePending abortPending : Bool) (lastIndex : Option Nat) (resumeIndex : Nat) (phase : Phase)
  (step : Option StepContext) (tallies : Tallies) (reason : Option Reason) (waiting : Option StepLevel)
  (pageWaitLeft : Nat) (rest : RestStage) (releasesDone : Bool)

@[simp] theorem Engine.ratings_mk : Engine.ratings ⟨walk, header, profile, page, chain, pausePending, abortPending,
    lastIndex, resumeIndex, phase, step, tallies, reason, waiting, pageWaitLeft, rest, releasesDone⟩
    = profile.getD ⟨0, 0, 0, 0, 0, 0⟩ := (rfl)

@[simp] theorem Engine.record_mk : Engine.record ⟨walk, header, profile, page, chain, pausePending, abortPending,
    lastIndex, resumeIndex, phase, step, tallies, reason, waiting, pageWaitLeft, rest, releasesDone⟩
    = (step.map (·.record)).getD StepRecord.empty := (rfl)

@[simp] theorem Engine.safeSlope_mk : Engine.safeSlope ⟨walk, header, profile, page, chain, pausePending, abortPending,
    lastIndex, resumeIndex, phase, step, tallies, reason, waiting, pageWaitLeft, rest, releasesDone⟩
    = (header.map (·.safeSlope)).getD 0 := (rfl)

@[simp] theorem Engine.restLevel_mk : Engine.restLevel ⟨walk, header, profile, page, chain, pausePending, abortPending,
    lastIndex, resumeIndex, phase, step, tallies, reason, waiting, pageWaitLeft, rest, releasesDone⟩
    = (header.map (·.restLevel)).getD 0 := (rfl)

@[simp] theorem Engine.stopOnFail_mk : Engine.stopOnFail ⟨walk, header, profile, page, chain, pausePending, abortPending,
    lastIndex, resumeIndex, phase, step, tallies, reason, waiting, pageWaitLeft, rest, releasesDone⟩
    = (header.map (·.stopOnFail)).getD false := (rfl)

@[simp] theorem Engine.pageWaitSamples_mk : Engine.pageWaitSamples ⟨walk, header, profile, page, chain, pausePending,
    abortPending, lastIndex, resumeIndex, phase, step, tallies, reason, waiting, pageWaitLeft, rest, releasesDone⟩
    = (header.map (·.pageWaitLimit)).getD 0 * 10000 := (rfl)

@[simp] theorem Engine.stepping_mk : Engine.stepping ⟨walk, header, profile, page, chain, pausePending, abortPending,
    lastIndex, resumeIndex, phase, step, tallies, reason, waiting, pageWaitLeft, rest, releasesDone⟩
    = (walk == .running && step.isSome && waiting.isNone) := (rfl)

@[simp] theorem Engine.profile_getD (e : Engine) : e.profile.getD ⟨0, 0, 0, 0, 0, 0⟩ = e.ratings := (rfl)

@[simp] theorem Engine.step_record_getD (e : Engine) : (e.step.map (·.record)).getD StepRecord.empty = e.record := (rfl)

@[simp] theorem Engine.header_safeSlope_getD (e : Engine) : (e.header.map (·.safeSlope)).getD 0 = e.safeSlope := (rfl)

@[simp] theorem Engine.header_restLevel_getD (e : Engine) : (e.header.map (·.restLevel)).getD 0 = e.restLevel := (rfl)

@[simp] theorem Engine.header_stopOnFail_getD (e : Engine) : (e.header.map (·.stopOnFail)).getD false = e.stopOnFail := (rfl)

end

theorem Engine.record_of_step {e : Engine} {c : StepContext} (h : e.step = some c) : e.record = c.record := by
  simp [Engine.record, h]

theorem Engine.kind_of_step {e : Engine} {c : StepContext} (h : e.step = some c) : e.kind = c.record.kind := by
  simp [Engine.kind, Engine.record_of_step h]

theorem Engine.stepping_iff (e : Engine) :
    e.stepping = true ↔ e.walk = .running ∧ e.step.isSome = true ∧ e.waiting = none := by
  simp [Engine.stepping, and_assoc]

/-! ### What depends on the plan store alone -/

theorem State.outer_store {s t : State} (h : t.outer = s.outer) : t.store = s.store := (State.outer_eq h).2.1

/-- Two states with the same outer part are equal when the blocks of the walk are. -/
theorem State.ext_inner {s t : State} (outer : s.outer = t.outer) (engine : s.engine = t.engine) (bay : s.bay = t.bay)
    (drive : s.drive = t.drive) (acq : s.acq = t.acq) (queue : s.queue = t.queue) : s = t := by
  obtain ⟨port, store, interlock, pending⟩ := State.outer_eq outer
  exact State.ext_blocks port store engine bay drive acq queue interlock pending

theorem State.lineSettle_of_store {s t : State} (h : t.store = s.store) : t.lineSettle = s.lineSettle := by
  simp [State.lineSettle, h]

/-! ### Updates of the step context -/

section
variable (s : State) (f : StepContext → StepContext) (g : Figures → Figures) (vs : List Verdict) (stage : BodyStage)
  (p : Phase) (capture : Capture)

@[simp] theorem State.mapStep_engine : (s.mapStep f).engine = { s.engine with step := s.engine.step.map f } := (rfl)
@[simp] theorem State.mapStep_bay : (s.mapStep f).bay = s.bay := (rfl)
@[simp] theorem State.mapStep_drive : (s.mapStep f).drive = s.drive := (rfl)
@[simp] theorem State.mapStep_acq : (s.mapStep f).acq = s.acq := (rfl)
@[simp] theorem State.mapStep_store : (s.mapStep f).store = s.store := (rfl)

@[simp] theorem State.setPhase_engine : (s.setPhase p).engine = { s.engine with phase := p } := (rfl)
@[simp] theorem State.setPhase_bay : (s.setPhase p).bay = s.bay := (rfl)
@[simp] theorem State.setPhase_drive : (s.setPhase p).drive = s.drive := (rfl)
@[simp] theorem State.setPhase_acq : (s.setPhase p).acq = s.acq := (rfl)
@[simp] theorem State.setPhase_store : (s.setPhase p).store = s.store := (rfl)

@[simp] theorem State.contribute_engine : (s.contribute vs).engine = { s.engine with
    step := s.engine.step.map fun c => { c with contributions := c.contributions ++ vs } } := (rfl)
@[simp] theorem State.contribute_bay : (s.contribute vs).bay = s.bay := (rfl)
@[simp] theorem State.contribute_drive : (s.contribute vs).drive = s.drive := (rfl)
@[simp] theorem State.contribute_acq : (s.contribute vs).acq = s.acq := (rfl)
@[simp] theorem State.contribute_store : (s.contribute vs).store = s.store := (rfl)

@[simp] theorem State.mapFigures_engine : (s.mapFigures g).engine = { s.engine with
    step := s.engine.step.map fun c => { c with figures := g c.figures } } := (rfl)
@[simp] theorem State.mapFigures_bay : (s.mapFigures g).bay = s.bay := (rfl)
@[simp] theorem State.mapFigures_drive : (s.mapFigures g).drive = s.drive := (rfl)
@[simp] theorem State.mapFigures_acq : (s.mapFigures g).acq = s.acq := (rfl)
@[simp] theorem State.mapFigures_store : (s.mapFigures g).store = s.store := (rfl)

@[simp] theorem State.setStage_engine : (s.setStage stage).engine = { s.engine with
    step := s.engine.step.map fun c => { c with stage := stage } } := (rfl)
@[simp] theorem State.setStage_bay : (s.setStage stage).bay = s.bay := (rfl)
@[simp] theorem State.setStage_drive : (s.setStage stage).drive = s.drive := (rfl)
@[simp] theorem State.setStage_acq : (s.setStage stage).acq = s.acq := (rfl)
@[simp] theorem State.setStage_store : (s.setStage stage).store = s.store := (rfl)

@[simp] theorem State.setCapture_bay : (s.setCapture capture).bay = s.bay := (rfl)
@[simp] theorem State.setCapture_drive : (s.setCapture capture).drive = s.drive := (rfl)
@[simp] theorem State.setCapture_acq : (s.setCapture capture).acq = { s.acq with capture := capture } := (rfl)
@[simp] theorem State.setCapture_store : (s.setCapture capture).store = s.store := (rfl)

end

/-! ### The line setpoint and staging -/

section
variable (s : State) (v : Nat) (g : GenSet) (req : Request)

@[simp] theorem State.setLine_engine : (s.setLine v).engine = s.engine := by unfold State.setLine; split <;> rfl
@[simp] theorem State.setLine_bay : (s.setLine v).bay = s.bay := by unfold State.setLine; split <;> rfl
@[simp] theorem State.setLine_store : (s.setLine v).store = s.store := by unfold State.setLine; split <;> rfl
@[simp] theorem State.setLine_drive : (s.setLine v).drive = { s.drive with lineSetpoint := v } := by
  unfold State.setLine; split
  next h => rw [h]
  · rfl
@[simp] theorem State.setLine_window : (s.setLine v).acq.window = s.acq.window := by
  unfold State.setLine; split <;> rfl
@[simp] theorem State.setLine_detectors : (s.setLine v).acq.detectors = s.acq.detectors := by
  unfold State.setLine; split <;> rfl
@[simp] theorem State.setLine_capture : (s.setLine v).acq.capture = s.acq.capture := by
  unfold State.setLine; split <;> rfl
@[simp] theorem State.setLine_nextSeq : (s.setLine v).acq.nextSeq = s.acq.nextSeq := by
  unfold State.setLine; split <;> rfl

/-- The set that `stageStep` hands to the drive unit: clamped to the limit of the range it is to run in (R76). -/
def State.clampFor : GenSet := g.clamp (clampLimit s.engine.ratings.iMax (req.range.getD s.drive.range))

@[simp] theorem State.stageStep_engine : (s.stageStep g req).engine = { s.engine with
    step := s.engine.step.map fun c => { c with clamped := c.clamped || s.clampFor g req != g } } := (rfl)
@[simp] theorem State.stageStep_bay : (s.stageStep g req).bay = s.bay := (rfl)
@[simp] theorem State.stageStep_drive : (s.stageStep g req).drive = s.drive.stage (s.clampFor g req) req := (rfl)
@[simp] theorem State.stageStep_acq : (s.stageStep g req).acq = s.acq := (rfl)
@[simp] theorem State.stageStep_store : (s.stageStep g req).store = s.store := (rfl)

end

/-! ### Capture -/

/-- Capture after it has offered its block in fill, placed or dropped (R109, R181). -/
def Capture.afterOffer (c : Capture) (placed : Bool) : Capture :=
  { c with
    fill := []
    nextIndex := c.nextIndex + 1
    posted := c.posted + (if placed then 1 else 0)
    dropped := c.dropped + (if placed then 0 else 1) }

theorem State.captureReserve_le_freeEntries (s : State) :
    Config.captureReserve ≤ s.freeEntries ↔ s.queue.length ≤ 24 := by
  simp only [State.freeEntries, Config.captureReserve, Config.queueDepth]; omega

section
variable (s : State)

@[simp] theorem State.offerBlock_bay : s.offerBlock.bay = s.bay := by
  unfold State.offerBlock; dsimp only; split <;> rfl
@[simp] theorem State.offerBlock_drive : s.offerBlock.drive = s.drive := by
  unfold State.offerBlock; dsimp only; split <;> rfl
@[simp] theorem State.offerBlock_store : s.offerBlock.store = s.store := by
  unfold State.offerBlock; dsimp only; split <;> rfl
@[simp] theorem State.offerBlock_acq :
    s.offerBlock.acq = { s.acq with capture := s.acq.capture.afterOffer (decide (s.queue.length ≤ 24)) } := by
  unfold State.offerBlock
  simp only [s.captureReserve_le_freeEntries]
  split
  next placed => simp [placed, Capture.afterOffer]
  next dropped => simp [dropped, Capture.afterOffer]
@[simp] theorem State.offerBlock_queue : s.offerBlock.queue =
    if s.queue.length ≤ 24 then s.queue ++ [.captureBlock s.blockInFill] else s.queue := by
  unfold State.offerBlock
  simp only [s.captureReserve_le_freeEntries]
  split <;> simp

/-- Capture after its end: what it held is offered as the last block (R106, R108). -/
def State.finishedCapture : Capture :=
  if s.acq.capture.state = .collecting then
    if s.acq.capture.fill.isEmpty then { s.acq.capture with state := .done }
    else { s.acq.capture.afterOffer (decide (s.queue.length ≤ 24)) with state := .done }
  else s.acq.capture

@[simp] theorem State.finishCapture_engine : s.finishCapture.engine = s.engine := by
  unfold State.finishCapture; (repeat' split) <;> simp
@[simp] theorem State.finishCapture_bay : s.finishCapture.bay = s.bay := by
  unfold State.finishCapture; (repeat' split) <;> simp
@[simp] theorem State.finishCapture_drive : s.finishCapture.drive = s.drive := by
  unfold State.finishCapture; (repeat' split) <;> simp
@[simp] theorem State.finishCapture_store : s.finishCapture.store = s.store := by
  unfold State.finishCapture; (repeat' split) <;> simp
@[simp] theorem State.finishCapture_acq : s.finishCapture.acq = { s.acq with capture := s.finishedCapture } := by
  unfold State.finishCapture State.finishedCapture
  (repeat' split) <;> simp_all
@[simp] theorem State.finishCapture_queue : s.finishCapture.queue = s.queueAtEnd := by
  unfold State.finishCapture State.queueAtEnd State.lastBlock
  by_cases collecting : s.acq.capture.state = .collecting
  · cases fill : s.acq.capture.fill with
    | nil => simp [collecting, fill]
    | cons p rest => simp [collecting, fill, State.blockInFill]
  · simp [collecting]

theorem State.finishedCapture_state_ne : s.finishedCapture.state ≠ .collecting := by
  unfold State.finishedCapture
  (repeat' split) <;> simp_all

theorem State.finishedCapture_mode : s.finishedCapture.mode = s.acq.capture.mode := by
  unfold State.finishedCapture
  (repeat' split) <;> rfl

theorem State.finishedCapture_of_not_collecting (h : s.acq.capture.state ≠ .collecting) :
    s.finishedCapture = s.acq.capture := if_neg h

theorem State.queueAtEnd_of_not_collecting (h : s.acq.capture.state ≠ .collecting) : s.queueAtEnd = s.queue := by
  simp [State.queueAtEnd, State.lastBlock, h]

@[simp] theorem State.startCapture_engine : s.startCapture.engine = s.engine := by
  unfold State.startCapture; split <;> rfl
@[simp] theorem State.startCapture_bay : s.startCapture.bay = s.bay := by
  unfold State.startCapture; split <;> rfl
@[simp] theorem State.startCapture_drive : s.startCapture.drive = s.drive := by
  unfold State.startCapture; split <;> rfl
@[simp] theorem State.startCapture_store : s.startCapture.store = s.store := by
  unfold State.startCapture; split <;> rfl

/-- Capture after BODY start (R106). -/
def Acquisition.startedCapture (a : Acquisition) : Capture :=
  match a.capture.mode, a.latest with
  | .terminal, some r => { a.capture with state := .collecting, fill := [r.pair] }
  | .terminal, none => { a.capture with state := .collecting }
  | _, _ => a.capture

@[simp] theorem State.startCapture_acq : s.startCapture.acq = { s.acq with capture := s.acq.startedCapture } := by
  unfold State.startCapture Acquisition.startedCapture
  split <;> simp_all

theorem Acquisition.startedCapture_mode (a : Acquisition) : a.startedCapture.mode = a.capture.mode := by
  unfold Acquisition.startedCapture; split <;> rfl

theorem Acquisition.startedCapture_of_not_terminal {a : Acquisition} (h : a.capture.mode ≠ .terminal) :
    a.startedCapture = a.capture := by
  unfold Acquisition.startedCapture; split <;> simp_all

/-- Capture when BODY has ended: a TERMINAL capture ends with it (R106). -/
def State.bodyEndCapture : Capture :=
  if s.acq.capture.mode = .terminal then s.finishedCapture else s.acq.capture

@[simp] theorem State.endBody_engine : s.endBody.engine = { s.engine with phase := .exiting } := by
  unfold State.endBody; split <;> simp
@[simp] theorem State.endBody_bay : s.endBody.bay = s.bay := by
  unfold State.endBody; split <;> simp
@[simp] theorem State.endBody_drive : s.endBody.drive = s.drive := by
  unfold State.endBody; split <;> simp
@[simp] theorem State.endBody_store : s.endBody.store = s.store := by
  unfold State.endBody; split <;> simp
@[simp] theorem State.endBody_acq : s.endBody.acq = { s.acq with capture := s.bodyEndCapture } := by
  unfold State.endBody State.bodyEndCapture; split <;> simp
@[simp] theorem State.endBody_queue :
    s.endBody.queue = if s.acq.capture.mode = .terminal then s.queueAtEnd else s.queue := by
  unfold State.endBody; split <;> simp

end

/-! ### Windows -/

section
variable (s : State) (mode : WindowMode) (length : Nat) (channels : List CheckChannel)

/-- The results of the step's checks over the window, as the window stands (R100). -/
def State.checkResults : List CheckResult := s.engine.record.checks.map s.acq.window.evaluate

@[simp] theorem State.evaluateWindow_engine : s.evaluateWindow.engine = { s.engine with
    step := s.engine.step.map fun c => { c with
      checks := s.checkResults
      windowCount := s.acq.window.count
      contributions := c.contributions ++ (if s.checkResults.all (·.pass) then [] else [.limit]) } } := by
  simp [State.evaluateWindow, State.checkResults, Function.comp_def]
@[simp] theorem State.evaluateWindow_bay : s.evaluateWindow.bay = s.bay := (rfl)
@[simp] theorem State.evaluateWindow_drive : s.evaluateWindow.drive = s.drive := (rfl)
@[simp] theorem State.evaluateWindow_store : s.evaluateWindow.store = s.store := (rfl)
@[simp] theorem State.evaluateWindow_acq :
    s.evaluateWindow.acq = { s.acq with window := { s.acq.window with state := .done } } := (rfl)

@[simp] theorem State.closeCounting_engine : s.closeCounting.engine = { s.engine with
    step := s.engine.step.map fun c => { c with windowCount := s.acq.window.count } } := (rfl)
@[simp] theorem State.closeCounting_bay : s.closeCounting.bay = s.bay := (rfl)
@[simp] theorem State.closeCounting_drive : s.closeCounting.drive = s.drive := (rfl)
@[simp] theorem State.closeCounting_store : s.closeCounting.store = s.store := (rfl)
@[simp] theorem State.closeCounting_acq :
    s.closeCounting.acq = { s.acq with window := s.acq.window.close } := (rfl)

@[simp] theorem State.closeWindow_engine : s.closeWindow.engine = { s.engine with
    step := s.engine.step.map fun c => { c with
      windowCount := if s.acq.window.live ∧ s.engine.kind ≠ .derate then s.acq.window.count else c.windowCount } } := by
  unfold State.closeWindow
  dsimp only
  split <;> simp_all
@[simp] theorem State.closeWindow_bay : s.closeWindow.bay = s.bay := by
  unfold State.closeWindow; dsimp only; split <;> rfl
@[simp] theorem State.closeWindow_drive : s.closeWindow.drive = s.drive := by
  unfold State.closeWindow; dsimp only; split <;> rfl
@[simp] theorem State.closeWindow_store : s.closeWindow.store = s.store := by
  unfold State.closeWindow; dsimp only; split <;> rfl
@[simp] theorem State.closeWindow_acq : s.closeWindow.acq = { s.acq with window := s.acq.window.close } := by
  unfold State.closeWindow; dsimp only; split <;> rfl

@[simp] theorem State.openWindow_engine : (s.openWindow mode length channels).engine = s.engine := (rfl)
@[simp] theorem State.openWindow_bay : (s.openWindow mode length channels).bay = s.bay := (rfl)
@[simp] theorem State.openWindow_drive : (s.openWindow mode length channels).drive = s.drive := (rfl)
@[simp] theorem State.openWindow_store : (s.openWindow mode length channels).store = s.store := (rfl)
@[simp] theorem State.openWindow_acq :
    (s.openWindow mode length channels).acq = s.acq.openWindow s.store.channels mode length channels := (rfl)

end

/-! ### Detectors -/

section
variable (s : State) (detect : Detect) (threshold : Nat)

@[simp] theorem State.armDetectors_engine : s.armDetectors.engine = s.engine := (rfl)
@[simp] theorem State.armDetectors_bay : s.armDetectors.bay = s.bay := (rfl)
@[simp] theorem State.armDetectors_drive : s.armDetectors.drive = s.drive := (rfl)
@[simp] theorem State.armDetectors_store : s.armDetectors.store = s.store := (rfl)
@[simp] theorem State.armDetectors_acq :
    s.armDetectors.acq = (s.acq.armCollapse s.engine.ratings.vCollapse).armAlarm := (rfl)

@[simp] theorem State.armTripDetectors_engine : (s.armTripDetectors detect threshold).engine = s.engine := (rfl)
@[simp] theorem State.armTripDetectors_bay : (s.armTripDetectors detect threshold).bay = s.bay := (rfl)
@[simp] theorem State.armTripDetectors_drive : (s.armTripDetectors detect threshold).drive = s.drive := (rfl)
@[simp] theorem State.armTripDetectors_store : (s.armTripDetectors detect threshold).store = s.store := (rfl)

@[simp] theorem State.beginRegulationWait_engine : s.beginRegulationWait.engine = { s.engine with
    step := s.engine.step.map fun c => { c with stage := .regulationWait } } := (rfl)
@[simp] theorem State.beginRegulationWait_bay : s.beginRegulationWait.bay = s.bay := (rfl)
@[simp] theorem State.beginRegulationWait_drive : s.beginRegulationWait.drive = s.drive := (rfl)
@[simp] theorem State.beginRegulationWait_store : s.beginRegulationWait.store = s.store := (rfl)
@[simp] theorem State.beginRegulationWait_acq :
    s.beginRegulationWait.acq = s.acq.armRegulation s.engine.ratings.vRegLow := (rfl)

@[simp] theorem State.tripDrop_engine : s.tripDrop.engine = s.engine := (rfl)
@[simp] theorem State.tripDrop_bay : s.tripDrop.bay = s.bay := (rfl)
@[simp] theorem State.tripDrop_drive : s.tripDrop.drive = s.drive.tripDrop := (rfl)
@[simp] theorem State.tripDrop_acq : s.tripDrop.acq = s.acq := (rfl)
@[simp] theorem State.tripDrop_store : s.tripDrop.store = s.store := (rfl)

end

/-! ### The end of a step -/

@[simp] theorem State.offer_engine (s : State) (r : StepLevel) :
    (s.offer r).engine = { s.engine with waiting := some r, phase := .outputStall } := (rfl)
@[simp] theorem State.offer_bay (s : State) (r : StepLevel) : (s.offer r).bay = s.bay := (rfl)
@[simp] theorem State.offer_drive (s : State) (r : StepLevel) : (s.offer r).drive = s.drive := (rfl)
@[simp] theorem State.offer_acq (s : State) (r : StepLevel) : (s.offer r).acq = s.acq := (rfl)
@[simp] theorem State.offer_store (s : State) (r : StepLevel) : (s.offer r).store = s.store := (rfl)

section
variable (s : State) (cause : EndCause) (vs : List Verdict) (c : StepContext)

/-- Whether a trip that falls on the sample of the step's end finds the step ended (R136). -/
def State.tripMeetsEnd : Bool := s.acq.detectors.tripDue && cause != .interlock

/-- The context of a step that has ended: the last contributions, and the count of a window that was still open
(R29, R100). -/
def State.endContext : StepContext :=
  { c with
    contributions := c.contributions ++ vs
    windowCount := if s.acq.window.live ∧ c.record.kind ≠ .derate then s.acq.window.count else c.windowCount }

/-- The drive unit in which the exit level of an ended step is read (R88, R136). -/
def State.endDrive : Drive :=
  if s.tripMeetsEnd cause && c.record.kind.steady && cause == .normal then s.drive.endResetPulse.tripDrop
  else s.drive.endResetPulse

/-- The bay interface that a step's end leaves (R64, R65, R155). -/
def State.endBay : Bay :=
  (if (s.bay.ownUnit = .gate ∧ cause ≠ .abort)
      ∨ (s.bay.ownUnit = .trip ∧ c.record.kind = .recover ∧ verdictOf (c.contributions ++ vs) = .pass)
    then s.bay.releaseUnit s.lineSettle else s.bay).idleProtocol

/-- The exit level of an ended step (R24, R28, R75). -/
def State.endLevel : Nat :=
  if (c.contributions ++ vs).contains .denied || (c.contributions ++ vs).contains .overBay then c.admitLevel
  else if s.engine.phase.drives && s.drive.rangeChange != .none then 0
  else (s.endDrive cause c).level / 1000

/-- The STEP_RESULT of a step that ends in `s` (R30, R183). -/
def State.endResult : StepResult where
  page := c.page
  index := c.index
  tag := c.record.tag
  kind := c.record.kind
  verdict := verdictOf (c.contributions ++ vs)
  endPhase := s.engine.phase
  duration := interval s.acq.seq c.admitSeq
  exitLevel := s.endLevel cause vs c
  admissionAttempts := s.bay.admissionAttempts
  gateAttempts := s.bay.gateAttempts
  censusHeld := (s.endBay cause vs c).ownUnit.asserted
  clamped := c.clamped
  posted := s.finishedCapture.posted
  dropped := s.finishedCapture.dropped
  windowCount := (s.endContext vs c).windowCount
  restarts := s.acq.window.restarts
  disturbed := s.acq.window.disturbed
  checks := c.checks
  figures := c.figures
  cycles := s.drive.completed

theorem Drive.endResetPulse_eq (d : Drive) :
    d.endResetPulse = { d with resetPulse := none, shelfEnable := d.shelfEnable || d.resetPulse.isSome } := by
  unfold Drive.endResetPulse
  split
  next h => simp [h]
  next h => cases d; simp_all

theorem Drive.endCoupling_eq (d : Drive) :
    d.endCoupling = { d with coupling := .none, lineEnable := d.lineEnable || d.coupling != .none } := by
  unfold Drive.endCoupling
  split
  next h => cases d; simp_all
  next h => cases d; simp_all [bne]

theorem Bay.releaseUnit_attempts (b : Bay) (settle : Nat) :
    (b.releaseUnit settle).admissionAttempts = b.admissionAttempts
      ∧ (b.releaseUnit settle).gateAttempts = b.gateAttempts := by
  unfold Bay.releaseUnit; split <;> exact ⟨rfl, rfl⟩

@[simp] theorem State.endUnit_engine : (s.endUnit cause).engine = s.engine := by
  unfold State.endUnit; dsimp only; split <;> rfl
@[simp] theorem State.endUnit_drive : (s.endUnit cause).drive = s.drive := by
  unfold State.endUnit; dsimp only; split <;> rfl
@[simp] theorem State.endUnit_acq : (s.endUnit cause).acq = s.acq := by
  unfold State.endUnit; dsimp only; split <;> rfl
@[simp] theorem State.endUnit_store : (s.endUnit cause).store = s.store := by
  unfold State.endUnit; dsimp only; split <;> rfl

/-- The bay interface of a state whose step has the given context, after `endUnit`. -/
theorem State.endUnit_bay {u : State} {c : StepContext} (step : u.engine.step = some c) :
    (u.endUnit cause).bay = if (u.bay.ownUnit = .gate ∧ cause ≠ .abort)
        ∨ (u.bay.ownUnit = .trip ∧ c.record.kind = .recover ∧ verdictOf c.contributions = .pass)
      then u.bay.releaseUnit u.lineSettle else u.bay := by
  unfold State.endUnit
  dsimp only
  rw [Engine.kind_of_step step]
  simp only [step, Option.map_some, Option.getD_some]
  split <;> simp

/-- The state after a step's end has completed its context, window, capture and detectors, before its drive unit and
its bay lines are taken. -/
def State.closing : State :=
  ((s.setEngine { s.engine with step := some (s.endContext vs c) }).setAcq { s.acq with
    capture := s.finishedCapture, window := s.acq.window.close, detectors := Detectors.disarmed }).setQueue s.queueAtEnd

/-- The state in which a step's end composes its STEP_RESULT. -/
def State.ending : State :=
  ((s.closing vs c).setDrive (s.endDrive cause c)).setBay (s.endBay cause vs c)

theorem State.closing_eq (step : s.engine.step = some c) :
    ((s.finishCapture.contribute vs).closeWindow).setAcq
      ((s.finishCapture.contribute vs).closeWindow).acq.disarmAll = s.closing vs c := by
  refine State.ext_inner ?_ ?engine ?_ ?_ ?_ ?_
  case engine =>
    simp only [State.setAcq_engine, State.closeWindow_engine, State.contribute_engine, State.finishCapture_engine,
      State.contribute_acq, State.finishCapture_acq, step, Option.map_some, Engine.kind, Engine.record_mk,
      Option.getD_some]
    rfl
  all_goals simp [State.closing, Acquisition.disarmAll]

theorem State.composeResult_ending :
    (s.ending cause vs c).composeResult (s.endContext vs c) = s.endResult cause vs c := by
  have attempts : (s.endBay cause vs c).admissionAttempts = s.bay.admissionAttempts
      ∧ (s.endBay cause vs c).gateAttempts = s.bay.gateAttempts := by
    unfold State.endBay
    split
    · exact Bay.releaseUnit_attempts s.bay s.lineSettle
    · exact ⟨rfl, rfl⟩
  have endDrive : (s.endDrive cause c).rangeChange = s.drive.rangeChange
      ∧ (s.endDrive cause c).completed = s.drive.completed := by
    unfold State.endDrive
    split <;> simp [Drive.tripDrop, Drive.endCoupling_eq, Drive.endResetPulse_eq, Drive.holdLevel]
  simp [State.composeResult, State.ending, State.closing, State.endResult, attempts, endDrive, State.exitLevel, State.endLevel, State.endContext,
    State.load, dacValue, Acquisition.seq, Window.close]

/-- The end of a step, block by block: its context and capture are completed, the window closed, the detectors disarmed,
and its STEP_RESULT waits in OUTPUT_STALL (R23, R28 to R30, R136). -/
theorem State.endStep_eq (step : s.engine.step = some c) :
    s.endStep cause vs =
      (if s.tripMeetsEnd cause then
        ((s.ending cause vs c).offer (.stepResult (s.endResult cause vs c))).tripDrop
      else (s.ending cause vs c).offer (.stepResult (s.endResult cause vs c))) := by
  unfold State.endStep
  extract_lets trip closed disarmed dropped ended
  have trip_eq : trip = s.tripMeetsEnd cause := rfl
  have disarmed_eq : disarmed = (s.closing vs c).setDrive s.drive.endResetPulse := by
    have drive : closed.drive = s.drive := by simp [closed]
    rw [show disarmed = (closed.setAcq closed.acq.disarmAll).setDrive closed.drive.endResetPulse from rfl, drive,
      s.closing_eq vs c step]
  have kind : disarmed.engine.kind = c.record.kind := by rw [disarmed_eq]; rfl
  have dropped_eq : dropped = (s.closing vs c).setDrive (s.endDrive cause c) := by
    simp only [dropped, kind, trip_eq, State.endDrive]
    rw [disarmed_eq]
    split <;> rfl
  have ended_eq : ended = s.ending cause vs c := by
    refine State.ext_inner ?_ ?_ ?bay ?_ ?_ ?_
    case bay =>
      simp only [ended, State.setBay_bay, dropped_eq]
      rw [State.endUnit_bay cause (c := s.endContext vs c) rfl]
      rfl
    all_goals simp [ended, dropped_eq, State.ending]
  rw [ended_eq, trip_eq]
  rw [show (s.ending cause vs c).engine.step = some (s.endContext vs c) from rfl]
  dsimp only
  rw [s.composeResult_ending cause vs c]

/-- What a step's end leaves of the engine: the step stands completed, and its STEP_RESULT waits (R30). -/
theorem State.endStep_engine (step : s.engine.step = some c) :
    (s.endStep cause vs).engine = { s.engine with
      step := some (s.endContext vs c), waiting := some (.stepResult (s.endResult cause vs c)), phase := .outputStall } := by
  rw [s.endStep_eq cause vs c step]; split <;> rfl

theorem State.endStep_bay (step : s.engine.step = some c) : (s.endStep cause vs).bay = s.endBay cause vs c := by
  rw [s.endStep_eq cause vs c step]; split <;> rfl

theorem State.endStep_drive (step : s.engine.step = some c) : (s.endStep cause vs).drive =
    if s.tripMeetsEnd cause then (s.endDrive cause c).tripDrop else s.endDrive cause c := by
  rw [s.endStep_eq cause vs c step]; split <;> rfl

theorem State.endStep_acq (step : s.engine.step = some c) : (s.endStep cause vs).acq = { s.acq with
    capture := s.finishedCapture, window := s.acq.window.close, detectors := Detectors.disarmed } := by
  rw [s.endStep_eq cause vs c step]; split <;> rfl

theorem State.endStep_queue (step : s.engine.step = some c) : (s.endStep cause vs).queue = s.queueAtEnd := by
  rw [s.endStep_eq cause vs c step]; split <;> rfl

theorem State.endStep_store : (s.endStep cause vs).store = s.store := State.outer_store (s.endStep_outer cause vs)

/-- The claim, and what else of the bay interface, stands at a step's end (R67). -/
theorem State.endBay_spec : (s.endBay cause vs c).drivenClaim = s.bay.drivenClaim
    ∧ (s.endBay cause vs c).priorClaim = s.bay.priorClaim ∧ (s.endBay cause vs c).protocol = .idle
    ∧ (s.endBay cause vs c).admissionAttempts = s.bay.admissionAttempts
    ∧ (s.endBay cause vs c).gateAttempts = s.bay.gateAttempts := by
  unfold State.endBay Bay.releaseUnit
  split
  · split <;> exact ⟨rfl, rfl, rfl, rfl, rfl⟩
  · exact ⟨rfl, rfl, rfl, rfl, rfl⟩

end

end Sys2Proof.Machine

/-! ## What every command keeps

A property of states is kept by every step when each event, one sample of the blocks, the updates of the port, the queue
and the interlock input, and the command of a frame keep it. The search for due events, their taking at a SAMPLE, the
deliveries inside it and the transactions are gone through here once, for any such property. -/

namespace Sys2Proof.Machine

/-- Taking an event where it is due keeps a property. -/
def EventKeeps (P : State → Prop) (event : State → Option State) : Prop := ∀ s t, P s → event s = some t → P t

section
variable {P : State → Prop}

theorem EventKeeps.getD {event : State → Option State} (keeps : EventKeeps P event) {s : State} (h : P s) :
    P ((event s).getD s) := by
  cases due : event s with
  | none => exact h
  | some t => exact keeps s t h due

/-- An event that is taken under a guard, given the guard. -/
theorem EventKeeps.guarded (due : State → Prop) [DecidablePred due] (taken : State → State)
    (keeps : ∀ s, P s → due s → P (taken s)) : EventKeeps P (fun s => if due s then some (taken s) else none) := by
  intro s t h some_eq
  dsimp only at some_eq
  split at some_eq
  next isDue => cases some_eq; exact keeps s h isDue
  · cases some_eq

theorem firstDue_keeps {events : List (State → Option State)} (keeps : ∀ event ∈ events, EventKeeps P event) {s t : State}
    (h : P s) (due : firstDue s events = some t) : P t := by
  induction events with
  | nil => cases due
  | cons event rest ih =>
    cases now : event s with
    | none => exact ih (fun e mem => keeps e (List.mem_cons_of_mem _ mem)) (by simpa [firstDue, now] using due)
    | some u => exact keeps event List.mem_cons_self s t h (by simpa [firstDue, now] using due)

variable (events : ∀ event ∈ rowEvents, EventKeeps P event)
include events

theorem dueEvents_keep {event : State → Option State} (mem : event ∈ dueEvents) : EventKeeps P event :=
  events event (by simp only [rowEvents, List.mem_cons]; exact .inr (.inr mem))

theorem State.takeDue_keeps (rounds : Nat) {s : State} (h : P s) : P (State.takeDue rounds s) := by
  induction rounds generalizing s with
  | zero => exact h
  | succ rounds ih =>
    rw [State.takeDue]
    cases due : firstDue s dueEvents with
    | none => exact h
    | some t => exact ih (firstDue_keeps (fun _ mem => dueEvents_keep events mem) h due)

theorem State.deliverEarly_keeps (i : SampleInput) {s : State} (h : P s) : P (s.deliverEarly i) := by
  have alarm : P (if i.alarmLate then s else s.alarmDetect.getD s) := by
    split
    · exact h
    · exact (dueEvents_keep events (by simp [dueEvents])).getD h
  unfold State.deliverEarly
  dsimp only
  split
  · exact alarm
  · exact (dueEvents_keep events (by simp [dueEvents])).getD alarm

variable (sample : ∀ i s, P s → P (State.takeSample s i))
include sample

/-- SAMPLE and the part's own events keep what the events and one sample of the blocks keep. -/
theorem exec_event_keeps {c : Instr} {s t : State} (h : P s) (row : c.isEvent = true) (noOpen : c ≠ .interlockOpen)
    (noClose : c ≠ .interlockClose) (run : exec c s = .next t) : P t := by
  by_cases isSample : ∃ i, c = .sample i
  · obtain ⟨i, rfl⟩ := isSample
    cases run
    exact State.deliverEarly_keeps events i (sample i _ (State.takeDue_keeps events dueRounds h))
  · obtain ⟨event, mem, ran⟩ := exec_eventRow row (fun i e => isSample ⟨i, e⟩) noOpen noClose s
    cases ran.symm.trans run
    exact (events event mem).getD h

end

/-- What a property of states asks for to be kept by every step. -/
structure StepKeeps (P : State → Prop) : Prop where
  events : ∀ event ∈ rowEvents, EventKeeps P event
  sample : ∀ i s, P s → P (State.takeSample s i)
  port : ∀ (s : State) x, P s → P (s.setPort x)
  queue : ∀ (s : State) x, P s → P (s.setQueue x)
  interlock : ∀ (s : State) x, P s → P (s.setInterlock x)
  pending : ∀ (s : State) x, P s → P (s.setPending x)
  goOn : ∀ s : State, P s → P s.goOn
  opening : ∀ s : State, P s → s.engine.walk.active = true → P s.interlockWalk
  command : ∀ (s : State) (c : Instr), P s → P (s.takeCommand c)
  pinReset : ∀ (s : State) straps, P s → P (s.takePinReset straps)

namespace StepKeeps

variable {P : State → Prop} (keeps : StepKeeps P)
include keeps

theorem consume {s : State} (h : P s) : P s.consume := by
  unfold State.consume
  split
  · exact keeps.port _ _ h
  · exact keeps.goOn _ (keeps.queue _ _ h)
  · exact h
  · exact h

theorem completeTransaction (bytes : List Byte) (straps : BitVec 4) {s : State} (h : P s) :
    P (s.completeTransaction bytes straps) :=
  keeps.command _ _ (keeps.port _ _ (keeps.consume h))

theorem endTransaction (n : Nat) {s ended : State} (h : P s) (k : P ended) : P (s.endTransaction n ended) := by
  unfold State.endTransaction
  split
  · exact k
  · exact keeps.port _ _ h
  · exact keeps.port _ _ h

theorem exec_keeps {c : Instr} {s t : State} (h : P s) (run : exec c s = .next t) : P t := by
  by_cases row : c.isEvent = true
  · by_cases opens : c = .interlockOpen
    · subst opens
      cases run
      split
      next active => exact keeps.opening _ (keeps.interlock _ _ h) active
      · exact keeps.interlock _ _ h
    by_cases closes : c = .interlockClose
    · subst closes
      cases run
      exact keeps.interlock _ _ h
    exact exec_event_keeps keeps.events keeps.sample h row opens closes run
  by_cases answered : c.isAnswered = true
  · cases (exec_of_isAnswered answered s).symm.trans run
    exact keeps.command _ _ h
  cases c with
  | transactionBegin => cases run; exact keeps.port _ _ h
  | transactionComplete bytes straps =>
    cases run
    refine keeps.endTransaction _ h ?_
    split
    · exact keeps.port _ _ h
    · exact keeps.completeTransaction bytes straps h
  | transactionIncomplete n =>
    cases run
    exact keeps.endTransaction _ h (keeps.port _ _ h)
  | nop => cases run; exact h
  | pinReset straps => cases run; exact keeps.pinReset _ _ h
  | _ => simp [Instr.isEvent, Instr.isAnswered] at row answered

/-- A property kept by all this is kept by every step. -/
theorem step_keeps {s t : State} (h : P s) (run : step s = .next t) : P t := by
  unfold step at run
  split at run
  · exact keeps.exec_keeps (keeps.pending _ _ h) run
  · cases run; exact h

end StepKeeps

/-! ### The outer part of the state -/

/-- An event leaves the port, the plan store, the interlock input and the waiting commands alone. -/
def KeepsOuter (event : State → Option State) : Prop := ∀ s t, event s = some t → t.outer = s.outer

theorem KeepsOuter.guarded (due : State → Prop) [DecidablePred due] (taken : State → State)
    (same : ∀ s, (taken s).outer = s.outer) : KeepsOuter (fun s => if due s then some (taken s) else none) := by
  intro s t some_eq
  dsimp only at some_eq
  split at some_eq
  · cases some_eq; exact same s
  · cases some_eq

theorem rangeDownEnd_keepsOuter : KeepsOuter State.rangeDownEnd := by
  intro s t due
  unfold State.rangeDownEnd at due
  split at due
  · cases due; rfl
  · cases due

theorem couplingSpanEnd_keepsOuter : KeepsOuter State.couplingSpanEnd := by
  intro s t due
  unfold State.couplingSpanEnd at due
  split at due
  · cases due; simp
  · cases due; rfl
  · cases due; simp
  · cases due

theorem resetPulseEnd_keepsOuter : KeepsOuter State.resetPulseEnd :=
  .guarded _ _ fun s => by split <;> simp

theorem rowEvents_keepOuter : ∀ event ∈ rowEvents, KeepsOuter event := by
  simp only [rowEvents, dueEvents, List.forall_mem_cons]
  refine ⟨.guarded _ _ (by simp), .guarded _ _ (by simp), .guarded _ _ (by simp), .guarded _ _ (by simp),
    .guarded _ _ (by simp), .guarded _ _ (by simp), .guarded _ _ (by simp), .guarded _ _ (by simp),
    .guarded _ _ (by simp), .guarded _ _ (by simp), .guarded _ _ (by simp), .guarded _ _ (by simp),
    .guarded _ _ (by simp), rangeDownEnd_keepsOuter, .guarded _ _ (by simp), couplingSpanEnd_keepsOuter,
    resetPulseEnd_keepsOuter, .guarded _ _ (by simp), .guarded _ _ (by simp), .guarded _ _ (by simp),
    .guarded _ _ (by simp), .guarded _ _ (by simp), .guarded _ _ (by simp), .guarded _ _ (by simp),
    .guarded _ _ (by simp), .guarded _ _ (by simp), .guarded _ _ (by simp), .guarded _ _ (by simp),
    .guarded _ _ (by simp), .guarded _ _ (by simp), fun _ mem => nomatch mem⟩

theorem State.tickEngine_outer (s : State) : s.tickEngine.outer = s.outer := by
  unfold State.tickEngine
  dsimp only
  (repeat' split) <;> simp

theorem State.takeSample_outer (s : State) (i : SampleInput) : (s.takeSample i).outer = s.outer := by
  simp [State.takeSample, State.tickEngine_outer]

/-- SAMPLE and the part's own events leave port, plan store, interlock input and waiting commands alone. -/
theorem exec_event_outer {c : Instr} {s t : State} (row : c.isEvent = true) (noOpen : c ≠ .interlockOpen)
    (noClose : c ≠ .interlockClose) (run : exec c s = .next t) : t.outer = s.outer :=
  exec_event_keeps (P := fun u => u.outer = s.outer)
    (fun event mem u v h due => (rowEvents_keepOuter event mem u v due).trans h)
    (fun i u h => (u.takeSample_outer i).trans h) rfl row noOpen noClose run

end Sys2Proof.Machine

/-! ## What the moves of the walk do to the blocks

The entries to the phases of a step, the moves between steps, and the walk's own waits, block by block. -/

namespace Sys2Proof.Machine

/-! ### The trip capture -/

section
variable (l : List RawSample) (s : State)

@[simp] theorem State.offerPairs_engine : (State.offerPairs l s).engine = s.engine := by
  induction l generalizing s with
  | nil => rfl
  | cons p rest ih => rw [State.offerPairs]; dsimp only; rw [ih]; split <;> simp
@[simp] theorem State.offerPairs_bay : (State.offerPairs l s).bay = s.bay := by
  induction l generalizing s with
  | nil => rfl
  | cons p rest ih => rw [State.offerPairs]; dsimp only; rw [ih]; split <;> simp
@[simp] theorem State.offerPairs_drive : (State.offerPairs l s).drive = s.drive := by
  induction l generalizing s with
  | nil => rfl
  | cons p rest ih => rw [State.offerPairs]; dsimp only; rw [ih]; split <;> simp

/-- Offering the pairs of the history changes what capture holds and counts, and nothing else of acquisition. -/
theorem State.offerPairs_acq : ∃ fill nextIndex posted dropped, (State.offerPairs l s).acq = { s.acq with
    capture := { s.acq.capture with fill := fill, nextIndex := nextIndex, posted := posted, dropped := dropped } } := by
  induction l generalizing s with
  | nil => exact ⟨_, _, _, _, rfl⟩
  | cons p rest ih =>
    rw [State.offerPairs]
    dsimp only
    obtain ⟨fill, nextIndex, posted, dropped, same⟩ :=
      ih (if Config.blockPairs ≤ (s.setCapture { s.acq.capture with fill := s.acq.capture.fill ++ [p] }).acq.capture.fill.length
        then (s.setCapture { s.acq.capture with fill := s.acq.capture.fill ++ [p] }).offerBlock
        else s.setCapture { s.acq.capture with fill := s.acq.capture.fill ++ [p] })
    refine ⟨fill, nextIndex, posted, dropped, same.trans ?_⟩
    split <;> simp [Capture.afterOffer]

@[simp] theorem State.startTripCapture_engine : s.startTripCapture.engine = s.engine := by
  unfold State.startTripCapture; split <;> simp
@[simp] theorem State.startTripCapture_bay : s.startTripCapture.bay = s.bay := by
  unfold State.startTripCapture; split <;> simp
@[simp] theorem State.startTripCapture_drive : s.startTripCapture.drive = s.drive := by
  unfold State.startTripCapture; split <;> simp
@[simp] theorem State.startTripCapture_store : s.startTripCapture.store = s.store :=
  State.outer_store s.startTripCapture_outer

/-- A trip capture collects from its delivery sample on; another mode starts nothing (R108). -/
theorem State.startTripCapture_acq : ∃ capture : Capture, s.startTripCapture.acq = { s.acq with capture := capture }
    ∧ capture.mode = s.acq.capture.mode ∧ (s.acq.capture.mode = .trip → capture.state = .collecting)
    ∧ (s.acq.capture.mode ≠ .trip → capture = s.acq.capture) := by
  unfold State.startTripCapture
  split
  next trip =>
    obtain ⟨fill, nextIndex, posted, dropped, same⟩ := State.offerPairs_acq s.acq.history.reverse
      (s.setCapture { s.acq.capture with state := .collecting, left := Config.tripCaptureAfter })
    exact ⟨_, same, rfl, fun _ => rfl, fun other => absurd trip other⟩
  next other => exact ⟨s.acq.capture, rfl, rfl, fun trip => absurd trip other, fun _ => rfl⟩

end

/-! ### ADMIT, GATE and APPLY -/

section
variable (s : State) (index : Nat)

@[simp] theorem State.enterGate_engine : s.enterGate.engine = { s.engine with phase := .gate } := (rfl)
@[simp] theorem State.enterGate_bay : s.enterGate.bay = s.bay.enterQuiet := (rfl)
@[simp] theorem State.enterGate_drive : s.enterGate.drive = s.drive := (rfl)
@[simp] theorem State.enterGate_acq : s.enterGate.acq = s.acq := (rfl)
@[simp] theorem State.enterGate_store : s.enterGate.store = s.store := (rfl)

@[simp] theorem State.beginAttempt_engine : s.beginAttempt.engine = { s.engine with phase := .admitting } := by
  simp [State.beginAttempt]
@[simp] theorem State.beginAttempt_bay : s.beginAttempt.bay = s.bay.raise s.stepClaim s.lineSettle := by
  simp [State.beginAttempt]
@[simp] theorem State.beginAttempt_drive : s.beginAttempt.drive = s.drive := by
  simp [State.beginAttempt]
@[simp] theorem State.beginAttempt_acq : s.beginAttempt.acq = s.acq := by
  simp [State.beginAttempt]
@[simp] theorem State.beginAttempt_store : s.beginAttempt.store = s.store := by
  simp [State.beginAttempt]

/-- The context that `beginStep` gives a step (R23). -/
def State.freshContext : StepContext :=
  StepContext.fresh (s.engine.page.getD .a) index (s.currentSlot index) s.acq.seq s.load

@[simp] theorem State.freshContext_record : (s.freshContext index).record = s.currentSlot index := (rfl)

@[simp] theorem State.beginStep_engine : (s.beginStep index).engine = { s.engine with
    walk := .running, phase := .admitting, step := some (s.freshContext index), lastIndex := some index } := (rfl)
@[simp] theorem State.beginStep_bay : (s.beginStep index).bay = s.bay.admitEntry := (rfl)
@[simp] theorem State.beginStep_drive : (s.beginStep index).drive = { s.drive with completed := 0 } := (rfl)
@[simp] theorem State.beginStep_acq : (s.beginStep index).acq = { s.acq with
    window := Window.reset
    capture := { Capture.reset with mode := captureModeOf (s.currentSlot index) } } := (rfl)
@[simp] theorem State.beginStep_store : (s.beginStep index).store = s.store := (rfl)

/-- The set that APPLY stages: the start level at safe_slope, clamped to the limit of the step's range (R26, R76). -/
def State.applySet : GenSet :=
  (GenSet.ramp none s.engine.record.body.start s.engine.safeSlope).clamp
    (clampLimit s.engine.ratings.iMax s.engine.record.body.range)

/-- The drive unit in which APPLY stages its set (R78, R85). -/
def State.applyDrive : Drive :=
  { s.drive with
    lineSetpoint := if s.engine.record.lineSetpoint = 0 then s.drive.lineSetpoint else s.engine.record.lineSetpoint
    rangeChanged := false }

@[simp] theorem State.enterApply_engine : s.enterApply.engine = { s.engine with
    phase := .applying
    step := s.engine.step.map fun c => { c with
      settleSet := settleSetOf s.engine.record
      clamped := c.clamped
        || s.applySet != GenSet.ramp none s.engine.record.body.start s.engine.safeSlope } } := by
  unfold State.enterApply
  dsimp only
  split <;> simp [State.clampFor, State.applySet, Request.range, Function.comp_def]
@[simp] theorem State.enterApply_bay : s.enterApply.bay = s.bay := by
  unfold State.enterApply; dsimp only; split <;> simp
@[simp] theorem State.enterApply_store : s.enterApply.store = s.store := State.outer_store s.enterApply_outer
@[simp] theorem State.enterApply_drive : s.enterApply.drive =
    s.applyDrive.stage s.applySet (.applying s.engine.record.body.range) := by
  unfold State.enterApply State.applyDrive
  dsimp only
  split <;> simp_all [State.clampFor, State.applySet, Request.range]
@[simp] theorem State.enterApply_window : s.enterApply.acq.window = s.acq.window := by
  unfold State.enterApply; dsimp only; split <;> simp [Acquisition.openAllBlanks, Acquisition.refreshFlags]
@[simp] theorem State.enterApply_detectors : s.enterApply.acq.detectors = s.acq.detectors := by
  unfold State.enterApply; dsimp only; split <;> simp [Acquisition.openAllBlanks, Acquisition.refreshFlags]
@[simp] theorem State.enterApply_capture : s.enterApply.acq.capture = s.acq.capture := by
  unfold State.enterApply; dsimp only; split <;> simp [Acquisition.openAllBlanks, Acquisition.refreshFlags]

/-- The step admitted goes to GATE or to APPLY (R24). -/
theorem State.admitted_eq : s.admitted =
    if s.engine.kind.gated then (s.setBay s.bay.idleProtocol).enterGate else (s.setBay s.bay.idleProtocol).enterApply :=
  (rfl)

end

/-! ### Between steps -/

section
variable (s : State) (reason : Reason) (index : Nat) (page : Page)

@[simp] theorem State.enterWinddown_engine : (s.enterWinddown reason).engine = { s.engine with
    walk := .winddown
    pausePending := false
    step := none
    phase := if s.engine.waiting.isSome then .outputStall else .none
    reason := some reason
    pageWaitLeft := 0
    rest := .none
    releasesDone := false } := by
  simp [State.enterWinddown]
@[simp] theorem State.enterWinddown_bay : (s.enterWinddown reason).bay = s.bay := by
  simp [State.enterWinddown]
@[simp] theorem State.enterWinddown_store : (s.enterWinddown reason).store = s.store := by
  simp [State.enterWinddown]
@[simp] theorem State.enterWinddown_drive : (s.enterWinddown reason).drive =
    { s.drive with lineSetpoint := s.engine.ratings.lineNominal }.stage (.ramp none 0 s.engine.safeSlope) .winddown := by
  simp [State.enterWinddown]
@[simp] theorem State.enterWinddown_window : (s.enterWinddown reason).acq.window = s.acq.window := by
  simp [State.enterWinddown]
@[simp] theorem State.enterWinddown_detectors : (s.enterWinddown reason).acq.detectors = s.acq.detectors := by
  simp [State.enterWinddown]

@[simp] theorem State.takePause_engine : (s.takePause index).engine = { s.engine with
    walk := .paused, pausePending := false, resumeIndex := index, step := none, phase := .none } := (rfl)
@[simp] theorem State.takePause_bay : (s.takePause index).bay = s.bay := (rfl)
@[simp] theorem State.takePause_drive : (s.takePause index).drive = s.drive := (rfl)
@[simp] theorem State.takePause_acq : (s.takePause index).acq = s.acq := (rfl)
@[simp] theorem State.takePause_store : (s.takePause index).store = s.store := (rfl)

@[simp] theorem State.swapTo_engine : (s.swapTo page).engine = { s.engine with
    walk := .running, page := some page, chain := none, step := none
    waiting := some (.pageSwap page), phase := .outputStall } := (rfl)
@[simp] theorem State.swapTo_bay : (s.swapTo page).bay = s.bay := (rfl)
@[simp] theorem State.swapTo_drive : (s.swapTo page).drive = s.drive := (rfl)
@[simp] theorem State.swapTo_acq : (s.swapTo page).acq = s.acq := (rfl)
@[simp] theorem State.swapTo_store : (s.swapTo page).store = s.store := (rfl)

@[simp] theorem State.compareRest_bay : s.compareRest.bay = s.bay := by
  unfold State.compareRest; (repeat' split) <;> rfl
@[simp] theorem State.compareRest_acq : s.compareRest.acq = s.acq := by
  unfold State.compareRest; (repeat' split) <;> rfl
@[simp] theorem State.compareRest_store : s.compareRest.store = s.store := State.outer_store s.compareRest_outer

/-- The rest comparison moves the rest stage of the engine alone (R83). -/
theorem State.compareRest_engine : ∃ rest, s.compareRest.engine = { s.engine with rest := rest } := by
  unfold State.compareRest; (repeat' split) <;> exact ⟨_, rfl⟩

theorem State.compareRest_of_change (h : s.drive.rangeChange ≠ .none) :
    s.compareRest = s.setEngine { s.engine with rest := .deferred } := by
  unfold State.compareRest; rw [if_pos h]

theorem State.compareRest_of_above (h : s.drive.rangeChange = .none) (above : s.engine.restLevel * 1000 < s.drive.level) :
    s.compareRest = (s.setDrive (s.drive.stage (.ramp none s.engine.restLevel s.engine.safeSlope) .plain)).setEngine
      { s.engine with rest := .ramping } := by
  unfold State.compareRest; rw [if_neg (not_not.2 h), if_pos above]

theorem State.compareRest_of_reached (h : s.drive.rangeChange = .none) (reached : s.drive.level ≤ s.engine.restLevel * 1000) :
    s.compareRest = s.setEngine { s.engine with rest := .atNextUpdate } := by
  unfold State.compareRest; rw [if_neg (not_not.2 h), if_neg (by omega)]

@[simp] theorem State.reachRest_engine : s.reachRest.engine = { s.engine with rest := .reached } := by
  simp [State.reachRest]
@[simp] theorem State.reachRest_bay :
    s.reachRest.bay = s.bay.lowerClaim (claimOf (s.drive.level / 1000) s.engine.ratings.vNom) := by
  simp [State.reachRest, State.load, dacValue]
@[simp] theorem State.reachRest_drive : s.reachRest.drive = s.drive := by
  simp [State.reachRest]
@[simp] theorem State.reachRest_acq : s.reachRest.acq = s.acq := by
  simp [State.reachRest]
@[simp] theorem State.reachRest_store : s.reachRest.store = s.store := by
  simp [State.reachRest]

end

/-! ### Winddown and the end of the walk -/

section
variable (s : State) (w : WalkSummary)

@[simp] theorem State.offerSummary_bay : s.offerSummary.bay = s.bay := by
  unfold State.offerSummary; split <;> rfl
@[simp] theorem State.offerSummary_drive : s.offerSummary.drive = s.drive := by
  unfold State.offerSummary; split <;> rfl
@[simp] theorem State.offerSummary_acq : s.offerSummary.acq = s.acq := by
  unfold State.offerSummary; split <;> rfl
@[simp] theorem State.offerSummary_store : s.offerSummary.store = s.store := State.outer_store s.offerSummary_outer

theorem State.offerSummary_of_due (walk : s.engine.walk = .winddown) (done : s.engine.releasesDone = true)
    (none : s.engine.waiting = none) : s.offerSummary = s.offer (.walkSummary s.engine.summary) := by
  unfold State.offerSummary; rw [if_pos ⟨walk, done, none⟩]

theorem State.offerSummary_of_not_released (h : s.engine.releasesDone = false) : s.offerSummary = s := by
  unfold State.offerSummary; rw [if_neg (by simp [h])]

@[simp] theorem State.makeReleases_bay : s.makeReleases.bay = s.bay.releaseAll s.lineSettle := by
  simp [State.makeReleases]
@[simp] theorem State.makeReleases_drive : s.makeReleases.drive = s.drive.winddownReleases := by
  simp [State.makeReleases]
@[simp] theorem State.makeReleases_acq : s.makeReleases.acq = s.acq := by
  simp [State.makeReleases]
@[simp] theorem State.makeReleases_store : s.makeReleases.store = s.store := by
  simp [State.makeReleases]

@[simp] theorem State.afterSummary_engine : (s.afterSummary w).engine = { s.engine with
    walk := if w.verdictPass then .idle else .held
    header := none
    profile := none
    page := none
    chain := none
    step := none
    phase := .none
    releasesDone := false } := (rfl)
@[simp] theorem State.afterSummary_bay : (s.afterSummary w).bay = s.bay := (rfl)
@[simp] theorem State.afterSummary_drive : (s.afterSummary w).drive = s.drive := (rfl)
@[simp] theorem State.afterSummary_acq : (s.afterSummary w).acq = s.acq := (rfl)
@[simp] theorem State.afterSummary_store : (s.afterSummary w).store = s.store := (rfl)

@[simp] theorem State.dropAll_engine : s.dropAll.engine = s.engine := (rfl)
@[simp] theorem State.dropAll_bay : s.dropAll.bay = s.bay.releaseAll s.lineSettle := (rfl)
@[simp] theorem State.dropAll_drive : s.dropAll.drive = s.drive.immediateDrop := (rfl)
@[simp] theorem State.dropAll_acq : s.dropAll.acq = s.acq := (rfl)
@[simp] theorem State.dropAll_store : s.dropAll.store = s.store := (rfl)

end

end Sys2Proof.Machine

/-! ## The lines and the drive at rest between walks (R20, R41, R50, R58, R76, R84)

`State.LinesRest` is kept by every step. Three weaker statements carry the proof through the operations: `State.InStep`
holds while a step is in progress, where the walk state, the releases and the record that waits do not move and only the
span of the drive unit has to be watched; `State.Ready` holds between two steps of a walk; and `Drive.Settles` says of an
operation of the drive unit alone that it keeps what `LinesRest` says of the drive unit in any walk state. -/

namespace Sys2Proof.Machine

/-! ### What LinesRest looks at -/

theorem State.LinesRest.congr {s t : State} (rest : s.LinesRest) (engine : t.engine = s.engine)
    (drive : t.drive = s.drive) (claim : t.bay.drivenClaim = s.bay.drivenClaim) (unit : t.bay.ownUnit = s.bay.ownUnit) :
    t.LinesRest := by
  simpa only [State.LinesRest, Bay.AtRest, engine, drive, claim, unit] using rest

/-- A step is in progress, and the drive unit is within the profile. -/
structure State.InStep (s : State) : Prop where
  walk : s.engine.walk = .running
  notReleased : s.engine.releasesDone = false
  noRecord : s.engine.waiting = none
  step : s.engine.step.isSome = true
  within : s.drive.Within s.engine.ratings.iMax

theorem State.LinesRest.inStep {s : State} (rest : s.LinesRest) (stepping : s.engine.stepping = true) : s.InStep := by
  obtain ⟨-, -, released, -, within, -, -, -, -⟩ := rest
  obtain ⟨walk, step, noRecord⟩ := (Engine.stepping_iff _).1 stepping
  refine ⟨walk, ?_, noRecord, step, within⟩
  by_contra done
  have winddown := (released (by simpa using done)).1
  simp [walk] at winddown

theorem State.InStep.linesRest {s : State} (h : s.InStep) : s.LinesRest := by
  obtain ⟨walk, notReleased, noRecord, step, within⟩ := h
  simp [State.LinesRest, walk, notReleased, noRecord, step, within]

/-- What of the engine stands while a step is in progress. -/
def Engine.standing (e : Engine) : WalkState × Bool × Option StepLevel × Bool × Option Ratings :=
  (e.walk, e.releasesDone, e.waiting, e.step.isSome, e.profile)

/-- An operation that leaves the standing of the engine alone keeps a step in progress when the drive unit stays within
the profile. -/
theorem State.InStep.of_standing {s t : State} (h : s.InStep) (same : t.engine.standing = s.engine.standing)
    (within : s.drive.Within s.engine.ratings.iMax → t.drive.Within s.engine.ratings.iMax) : t.InStep := by
  simp only [Engine.standing, Prod.mk.injEq] at same
  obtain ⟨walk, done, waiting, step, profile⟩ := same
  have ratings : t.engine.ratings = s.engine.ratings := by rw [Engine.ratings, profile]; rfl
  exact ⟨walk ▸ h.walk, done ▸ h.notReleased, waiting ▸ h.noRecord, step ▸ h.step, ratings ▸ within h.within⟩

theorem State.InStep.of_standing_drive {s t : State} (h : s.InStep) (same : t.engine.standing = s.engine.standing)
    (drive : t.drive = s.drive) : t.InStep :=
  h.of_standing same (fun within => drive ▸ within)

theorem State.InStep.of_standing_span {s t : State} (h : s.InStep) (same : t.engine.standing = s.engine.standing)
    (span : t.drive.span ≤ s.drive.span) : t.InStep :=
  h.of_standing same (fun within => within.of_span_le span)

/-- The set that a step stages is clamped to the profile's I_max (R76). -/
theorem State.clampFor_peak_le (s : State) (g : GenSet) (req : Request) :
    (s.clampFor g req).peak ≤ s.engine.ratings.iMax :=
  (g.clamp_peak_le_limit _).trans (min_le_left _ _)

theorem Drive.Within.stage {d : Drive} {limit : Nat} (within : d.Within limit) {g : GenSet} (peak : g.peak ≤ limit)
    (req : Request) : (d.stage g req).Within limit :=
  (Drive.within_iff _ _).2 ((d.span_stage_le g req).trans (max_le ((d.within_iff _).1 within) peak))

theorem State.InStep.stageStep {s : State} (h : s.InStep) (g : GenSet) (req : Request) : (s.stageStep g req).InStep :=
  h.of_standing (by simp [Engine.standing]) (fun within => within.stage (s.clampFor_peak_le g req) req)

/-- The end of a step that is in progress leaves its STEP_RESULT waiting. -/
theorem State.InStep.endStep {s : State} (h : s.InStep) (cause : EndCause) (vs : List Verdict) :
    (s.endStep cause vs).LinesRest := by
  obtain ⟨walk, notReleased, noRecord, step, within⟩ := h
  obtain ⟨c, step⟩ := Option.isSome_iff_exists.1 step
  have noPulse : (s.endStep cause vs).drive.resetPulse = none := by
    rw [s.endStep_drive cause vs c step]
    unfold State.endDrive
    (repeat' split) <;> simp [Drive.tripDrop, Drive.endCoupling_eq, Drive.endResetPulse_eq, Drive.holdLevel]
  have within : (s.endStep cause vs).drive.Within s.engine.ratings.iMax := by
    refine within.of_span_le ?_
    rw [s.endStep_drive cause vs c step]
    unfold State.endDrive
    (repeat' split) <;> simp [Drive.span_tripDrop, Drive.span_endResetPulse]
  simp [State.LinesRest, s.endStep_engine cause vs c step, walk, notReleased, noPulse, within]

/-! ### Between steps -/

/-- Between two steps of a walk: nothing waits, no reset pulse runs, and the drive unit is within the profile. -/
structure State.Ready (s : State) : Prop where
  notReleased : s.engine.releasesDone = false
  noRecord : s.engine.waiting = none
  noPulse : s.drive.resetPulse = none
  within : s.drive.Within s.engine.ratings.iMax

theorem Drive.stage_resetPulse (d : Drive) (g : GenSet) (req : Request) :
    (d.stage g req).resetPulse = d.resetPulse := by
  unfold Drive.stage Drive.proceed Drive.takeForce Drive.beginRangeChange
  cases req <;> dsimp only <;> repeat' split
  all_goals rfl

/-- Where the winddown ramp is staged, it waits or is in force (R84). -/
theorem Drive.stage_winddown_windingDown (d : Drive) (slope : Nat) :
    (d.stage (.ramp none 0 slope) .winddown).WindingDown := by
  unfold Drive.stage
  dsimp only
  split
  · exact .inl ⟨slope, rfl⟩
  next free =>
    simp only [Drive.busy, Bool.or_eq_true, bne_iff_ne, not_or, not_not] at free
    obtain ⟨⟨-, change⟩, coupling⟩ := free
    exact .inr ⟨rfl, change, coupling, slope, rfl, .inl rfl⟩

/-- WINDDOWN is entered with no reset pulse running and no summary waiting. -/
theorem State.enterWinddown_linesRest {s : State} (reason : Reason) (noPulse : s.drive.resetPulse = none)
    (noSummary : ∀ w, s.engine.waiting ≠ some (.walkSummary w)) (within : s.drive.Within s.engine.ratings.iMax) :
    (s.enterWinddown reason).LinesRest := by
  have down := Drive.stage_winddown_windingDown { s.drive with lineSetpoint := s.engine.ratings.lineNominal }
    s.engine.safeSlope
  have base : Drive.Within { s.drive with lineSetpoint := s.engine.ratings.lineNominal } s.engine.ratings.iMax := within
  have still := base.stage (g := .ramp none 0 s.engine.safeSlope) (Nat.zero_le _) .winddown
  refine ⟨by simp, by simp, by simp, fun _ _ => by simpa using down, by simpa using still, ?_, ?_, by simp, ?_⟩
  · intro w waits
    exact absurd (by simpa using waits) (noSummary w)
  · intro r waits
    have waits : s.engine.waiting = some r := by simpa using waits
    simp [waits]
  · simp [Drive.stage_resetPulse, noPulse]

theorem State.Ready.enterWinddown {s : State} (h : s.Ready) (reason : Reason) : (s.enterWinddown reason).LinesRest :=
  State.enterWinddown_linesRest reason h.noPulse (by simp [h.noRecord]) h.within

theorem State.Ready.takePause {s : State} (h : s.Ready) (index : Nat) (free : s.bay.ownUnit.asserted = false) :
    (s.takePause index).LinesRest := by
  have released : s.bay.ownUnit = .released := by
    cases unit : s.bay.ownUnit with
    | released => rfl
    | _ => simp [unit, OwnUnit.asserted] at free
  simp [State.LinesRest, h.notReleased, h.noRecord, h.noPulse, h.within, released]

theorem State.Ready.swapTo {s : State} (h : s.Ready) (page : Page) : (s.swapTo page).LinesRest := by
  simp [State.LinesRest, h.notReleased, h.noPulse, h.within]

/-- The rest ramp goes down from the level, and so stays within what the level is within (R83). -/
theorem State.span_compareRest_le (s : State) : s.compareRest.drive.span ≤ s.drive.span := by
  unfold State.compareRest
  split
  · exact le_rfl
  · split
    next above =>
      refine (Drive.span_stage_le _ _ _).trans (max_le le_rfl ?_)
      have level := s.drive.level_le_span
      simp only [GenSet.peak, Option.getD_none]
      omega
    · exact le_rfl

theorem State.compareRest_resetPulse (s : State) : s.compareRest.drive.resetPulse = s.drive.resetPulse := by
  unfold State.compareRest
  (repeat' split) <;> simp [Drive.stage_resetPulse]

theorem State.Ready.enterPageWait {s : State} (h : s.Ready) : s.enterPageWait.LinesRest := by
  unfold State.enterPageWait
  generalize entered : s.setEngine _ = u
  have drive : u.drive = s.drive := by rw [← entered]; rfl
  have within : u.compareRest.drive.Within s.engine.ratings.iMax :=
    h.within.of_span_le (drive ▸ u.span_compareRest_le)
  have noPulse : u.compareRest.drive.resetPulse = none := by
    rw [State.compareRest_resetPulse, drive]; exact h.noPulse
  have entry : u.engine = { s.engine with
      walk := .pageWait, step := none, phase := .none, pageWaitLeft := s.engine.pageWaitSamples } := by
    rw [← entered, State.setEngine_engine]
  obtain ⟨rest, engine⟩ := u.compareRest_engine
  simp [State.LinesRest, engine, entry, h.notReleased, h.noRecord, within, noPulse]

theorem State.Ready.pageEnd {s : State} (h : s.Ready) : s.pageEnd.LinesRest := by
  unfold State.pageEnd
  split
  · exact h.swapTo _
  · exact h.enterPageWait

theorem State.Ready.beginStep {s : State} (h : s.Ready) (index : Nat) : (s.beginStep index).InStep :=
  ⟨rfl, h.notReleased, h.noRecord, rfl, h.within⟩

theorem State.InStep.enterGate {s : State} (h : s.InStep) : s.enterGate.InStep :=
  h.of_standing_drive rfl rfl

theorem State.InStep.enterApply {s : State} (h : s.InStep) : s.enterApply.InStep := by
  refine h.of_standing (by simp [Engine.standing]) (fun within => ?_)
  rw [State.enterApply_drive]
  exact Drive.Within.stage (d := s.applyDrive) within ((GenSet.clamp_peak_le_limit _ _).trans (min_le_left _ _)) _

theorem State.InStep.setBay {s : State} (h : s.InStep) (b : Bay) : (s.setBay b).InStep := h.of_standing_drive rfl rfl

theorem State.InStep.setPhase {s : State} (h : s.InStep) (p : Phase) : (s.setPhase p).InStep :=
  h.of_standing_drive rfl rfl

theorem State.InStep.admitted {s : State} (h : s.InStep) : s.admitted.InStep := by
  rw [State.admitted_eq]
  split
  · exact (h.setBay _).enterGate
  · exact (h.setBay _).enterApply

theorem State.InStep.beginAttempt {s : State} (h : s.InStep) : s.beginAttempt.InStep :=
  h.of_standing_drive (by simp [Engine.standing]) (by simp)

theorem State.Ready.enterAdmit {s : State} (h : s.Ready) (index : Nat) : (s.enterAdmit index).LinesRest := by
  have began := h.beginStep index
  unfold State.enterAdmit
  dsimp only
  split
  · exact began.admitted.linesRest
  · split
    · exact began.endStep _ _
    · exact began.beginAttempt.linesRest

theorem State.Ready.boundary {s : State} (h : s.Ready) (index : Nat) : (s.boundary index).LinesRest := by
  unfold State.boundary
  split
  next pause => exact h.takePause index (by simpa using pause.2)
  · exact h.enterAdmit index

theorem State.Ready.branch {s : State} (h : s.Ready) (v : Verdict) (r : StepRecord) : (s.branch v r).LinesRest := by
  unfold State.branch
  extract_lets next
  split
  · exact h.enterWinddown _
  split
  · exact h.enterWinddown _
  split
  · exact h.enterWinddown _
  split
  · exact h.pageEnd
  split
  · exact h.enterWinddown _
  · exact h.boundary _

end Sys2Proof.Machine

/-! ## The lines and the drive at rest: records, events and commands -/

namespace Sys2Proof.Machine

/-! ### The placing of records -/

/-- The releases leave lines and drive at rest, and the WALK_SUMMARY offered after them waits only then (R41). -/
theorem State.LinesRest.offerSummary {s : State} (rest : s.LinesRest) : s.offerSummary.LinesRest := by
  unfold State.offerSummary
  split
  next due =>
    obtain ⟨walk, done, noRecord⟩ := due
    obtain ⟨idle, -, released, -, within, -, -, stands, pulse⟩ := rest
    obtain ⟨-, bay, drive⟩ := released done
    have noStep := stands (by simp [walk])
    refine ⟨by simp [walk], by simp [walk], fun _ => ⟨walk, bay, drive⟩, by simp [done], within, fun _ _ => done,
      fun _ _ => ⟨.inr walk, rfl⟩, fun _ => noStep, fun n waits => ?_⟩
    simpa [walk] using (pulse n waits).1
  · exact rest

/-- Between steps: a RUNNING walk whose record has been placed. -/
theorem State.LinesRest.ready_of_running {s t : State} (rest : s.LinesRest) (walk : s.engine.walk = .running) {r : StepLevel}
    (waits : s.engine.waiting = some r) (done : t.engine.releasesDone = s.engine.releasesDone)
    (placed : t.engine.waiting = none) (profile : t.engine.ratings = s.engine.ratings) (drive : t.drive = s.drive) :
    t.Ready := by
  obtain ⟨-, -, released, -, within, -, -, -, pulse⟩ := rest
  refine ⟨?_, placed, ?_, by rw [drive, profile]; exact within⟩
  · rw [done]
    by_contra h
    have winddown := (released (by simpa using h)).1
    simp [walk] at winddown
  · rw [drive]
    by_contra h
    obtain ⟨n, running⟩ := Option.ne_none_iff_exists'.1 h
    have noRecord := (pulse n running).2.2
    simp [waits] at noRecord

/-- A record that waited in WINDDOWN and has been placed leaves the walk to its releases. -/
theorem State.LinesRest.placed_winddown {s : State} (rest : s.LinesRest) (walk : s.engine.walk = .winddown)
    (queue : List Record) (tallies : Tallies) :
    ((s.setQueue queue).setEngine { s.engine with
      waiting := none, tallies := tallies, phase := .none, step := none }).LinesRest := by
  obtain ⟨idle, -, released, down, within, -, -, stands, pulse⟩ := rest
  refine ⟨by simp [walk], by simp [walk], fun done => released done, fun _ done => down walk done, by simpa using within,
    by simp, by simp, by simp, fun n waits => ?_⟩
  simpa [walk] using (pulse n waits).1

theorem State.LinesRest.placed {s : State} (rest : s.LinesRest) {r : StepLevel} (waits : s.engine.waiting = some r)
    (queue : List Record) :
    (((s.setQueue queue).setEngine { s.engine with waiting := none }).afterPlaced r).LinesRest := by
  have walks := (rest.2.2.2.2.2.2.1 r waits).1
  cases r with
  | stepResult x =>
    simp only [State.afterPlaced, State.afterStepResult]
    split
    next winddown =>
      simp only [State.setEngine_setEngine, State.setEngine_engine]
      exact (rest.placed_winddown (by simpa using winddown) queue _).offerSummary
    next running =>
      have running : s.engine.walk = .running := walks.resolve_right (by simpa using running)
      refine State.Ready.branch (rest.ready_of_running running waits ?_ ?_ ?_ ?_) _ _ <;> simp
  | pageSwap p =>
    simp only [State.afterPlaced, State.afterPageSwap]
    split
    next winddown =>
      have winddown : s.engine.walk = .winddown := by simpa using winddown
      have noStep : s.engine.step = none := rest.2.2.2.2.2.2.2.1 (by simp [winddown])
      refine State.LinesRest.offerSummary ((rest.placed_winddown winddown queue s.engine.tallies).congr ?_ rfl rfl rfl)
      simp [noStep]
    next running =>
      have running : s.engine.walk = .running := walks.resolve_right (by simpa using running)
      have ready : (((s.setQueue queue).setEngine { s.engine with waiting := none }).setPhase .none).Ready :=
        rest.ready_of_running running waits (by simp) (by simp) (by simp) (by simp)
      split
      · exact ready.enterWinddown _
      split
      · exact ready.enterWinddown _
      · exact ready.boundary _
  | walkSummary w =>
    obtain ⟨-, -, released, -, -, summary, -, -, -⟩ := rest
    obtain ⟨-, bay, atRest⟩ := released (summary w waits)
    obtain ⟨level, active, -, staged, -, -, -, noPulse, -⟩ := id atRest
    have walk : (if w.verdictPass then WalkState.idle else WalkState.held) ≠ .running
        ∧ (if w.verdictPass then WalkState.idle else WalkState.held) ≠ .paused
        ∧ (if w.verdictPass then WalkState.idle else WalkState.held) ≠ .winddown := by
      split <;> simp
    refine ⟨fun _ => ⟨bay, atRest⟩, by simp [State.afterPlaced, walk], by simp [State.afterPlaced],
      by simp [State.afterPlaced, walk], ?_, by simp [State.afterPlaced], by simp [State.afterPlaced],
      by simp [State.afterPlaced], by simp [State.afterPlaced, noPulse]⟩
    simp [State.afterPlaced, Drive.Within, level, active, staged, GenSet.peak]

theorem State.LinesRest.goOn {s : State} (rest : s.LinesRest) : s.goOn.LinesRest := by
  unfold State.goOn
  generalize Config.queueDepth + 1 = rounds
  induction rounds generalizing s with
  | zero => exact rest
  | succ rounds ih =>
    rw [State.placeRecords]
    split
    next r waits =>
      split
      · exact ih (rest.placed waits _)
      · exact rest
    · exact rest

/-! ### Operations of the drive unit alone -/

/-- An operation of the drive unit alone keeps what `LinesRest` says of the drive unit, in any walk state. -/
structure Drive.Settles (d d' : Drive) : Prop where
  atRest : d.AtRest → d'.AtRest
  windingDown : d.WindingDown → d'.WindingDown
  span : d'.span ≤ d.span
  noPulse : d.resetPulse = none → d'.resetPulse = none

theorem State.LinesRest.setDrive {s : State} (rest : s.LinesRest) {d : Drive} (settles : s.drive.Settles d) :
    (s.setDrive d).LinesRest := by
  obtain ⟨idle, paused, released, down, within, summary, waits, stands, pulse⟩ := rest
  refine ⟨fun walk => (idle walk).imp_right settles.atRest, paused,
    fun done => (released done).imp_right fun k => k.imp_right settles.atRest,
    fun walk done => settles.windingDown (down walk done), within.of_span_le settles.span, summary, waits, stands, ?_⟩
  intro n runs
  cases before : s.drive.resetPulse with
  | none => simp [settles.noPulse before] at runs
  | some m => exact pulse m before

/-- In the walk states between which nothing else is asked of the drive unit, its span and its reset pulse are all. -/
theorem State.LinesRest.setDrive_of_walk {s : State} (rest : s.LinesRest) {d : Drive}
    (walk : s.engine.walk = .running ∨ s.engine.walk = .paused ∨ s.engine.walk = .pageWait)
    (span : d.span ≤ s.drive.span) (noPulse : s.drive.resetPulse = none → d.resetPulse = none) :
    (s.setDrive d).LinesRest := by
  obtain ⟨-, paused, released, -, within, summary, waits, stands, pulse⟩ := rest
  have notDown : s.engine.walk ≠ .winddown := by rcases walk with h | h | h <;> simp [h]
  have notIdle : ¬ (s.engine.walk = .idle ∨ s.engine.walk = .held) := by rcases walk with h | h | h <;> simp [h]
  refine ⟨fun h => absurd h notIdle, paused, fun done => absurd (released done).1 notDown, fun h => absurd h notDown,
    within.of_span_le span, summary, waits, stands, ?_⟩
  intro n runs
  cases before : s.drive.resetPulse with
  | none => simp [noPulse before] at runs
  | some m => exact pulse m before

theorem Drive.AtRest.not_busy {d : Drive} (h : d.AtRest) : d.busy = false := by
  obtain ⟨-, active, -, -, -, change, coupling, -⟩ := h
  simp [Drive.busy, Drive.pulsing, active, change, coupling]

/-- A waiting winddown ramp goes on once nothing holds it back. -/
theorem Drive.releaseStaged_settles (d : Drive) : d.Settles d.releaseStaged where
  atRest h := by
    have staged := h.2.2.2.1
    simpa [Drive.releaseStaged, staged] using h
  windingDown h := by
    unfold Drive.releaseStaged
    obtain ⟨slope, staged⟩ | ⟨staged, rest⟩ := h
    · rw [staged]
      dsimp only
      split
      · exact .inl ⟨slope, staged⟩
      next free =>
        simp only [Drive.busy, Bool.or_eq_true, bne_iff_ne, not_or, not_not] at free
        exact .inr ⟨rfl, free.1.2, free.2, slope, rfl, .inl rfl⟩
    · rw [staged]
      exact .inr ⟨staged, rest⟩
  span := d.span_releaseStaged_le
  noPulse h := by
    unfold Drive.releaseStaged Drive.proceed Drive.takeForce Drive.beginRangeChange
    (repeat' split) <;> exact h

/-- One sample moves the winddown ramp toward 0 and leaves a drive unit at rest alone (R71). -/
theorem Drive.update_settles (d : Drive) : d.Settles d.update where
  atRest h := by
    obtain ⟨level, active, status, staged, cycle, change, coupling, noPulse, rest⟩ := h
    rw [Drive.update_of_noChange change, Drive.act_of_rest status]
    exact ⟨level, active, status, staged, cycle, change, by simp [coupling, Coupling.tick], by simp [noPulse], rest⟩
  windingDown h := by
    obtain ⟨slope, staged⟩ | ⟨staged, change, coupling, slope, active, status⟩ := h
    · exact .inl ⟨slope, d.update_staged.trans staged⟩
    · rw [Drive.update_of_noChange change]
      refine .inr ⟨by simp [staged], by simp [change], by simp [coupling, Coupling.tick], slope, ?_⟩
      rcases status with status | ⟨status, level⟩
      · simp only [Drive.act, status, active, true_and]
        split
        next landed => exact .inr ⟨rfl, by simpa using landed⟩
        · exact .inl rfl
      · simp [Drive.act, status, active, level]
  span := d.span_update_le
  noPulse h := by simp [h]

/-- A pulse's cycle end lets the winddown ramp that waits for it go on (R73, R74). -/
theorem Drive.endCycle_settles (d : Drive) (due : d.cycleEnded = true) : d.Settles d.endCycle where
  atRest h := by simp [h.2.2.2.2.1] at due
  windingDown h := by
    unfold Drive.endCycle
    dsimp only
    obtain ⟨slope, staged⟩ | ⟨staged, change, coupling, slope, active, status⟩ := h
    · split
      · split
        · exact .inl ⟨slope, staged⟩
        · rw [staged]
          dsimp only
          split
          · exact .inl ⟨slope, rfl⟩
          next free =>
            simp only [Drive.busy, Bool.or_eq_true, bne_iff_ne, not_or, not_not] at free
            exact .inr ⟨rfl, free.1.2, free.2, slope, rfl, .inl rfl⟩
      · exact .inl ⟨slope, staged⟩
    · rw [active]
      dsimp only
      exact .inr ⟨staged, change, coupling, slope, rfl, status⟩
  span := d.span_endCycle_le
  noPulse h := by
    unfold Drive.endCycle Drive.proceed Drive.takeForce Drive.beginRangeChange
    dsimp only
    (repeat' split) <;> simp [Drive.holdLevel, h]

theorem Drive.endDown_settles {d : Drive} {target : LoadRange} (due : d.rangeChange = .down target true) :
    d.Settles d.endDown where
  atRest h := by simp [h.2.2.2.2.2.1] at due
  windingDown h := by
    obtain ⟨slope, staged⟩ | ⟨-, change, -⟩ := h
    · exact .inl ⟨slope, by simp [Drive.endDown, due, staged]⟩
    · simp [change] at due
  span := d.span_endDown.le
  noPulse h := by simp [Drive.endDown, due, h]

/-- The relay count's end closes the load, and the winddown ramp that waits goes on (R77, R78). -/
theorem Drive.relayExpiry_settles (d : Drive) (due : d.rangeChange = .relayWait ∨ d.loadRequest = true) :
    d.Settles d.relayExpiry where
  atRest h := by
    obtain ⟨-, -, -, -, -, change, -, -, request, -⟩ := h
    simp [change, request] at due
  windingDown h := by
    unfold Drive.relayExpiry
    split
    next waits =>
      refine (Drive.releaseStaged_settles _).windingDown ?_
      obtain ⟨slope, staged⟩ | ⟨-, change, -⟩ := h
      · exact .inl ⟨slope, staged⟩
      · simp [change] at waits
    · exact h
  span := d.span_relayExpiry_le
  noPulse h := by
    unfold Drive.relayExpiry
    split
    · exact (Drive.releaseStaged_settles _).noPulse h
    · exact h

end Sys2Proof.Machine

/-! ## The lines and the drive at rest: the events of a step in progress -/

namespace Sys2Proof.Machine

namespace State.InStep

variable {s : State} (h : s.InStep)
include h

theorem setAcq (a : Acquisition) : (s.setAcq a).InStep := h.of_standing_drive rfl rfl

theorem mapStep (f : StepContext → StepContext) : (s.mapStep f).InStep :=
  h.of_standing_drive (by simp [Engine.standing]) rfl

theorem setDrive {d : Drive} (span : d.span ≤ s.drive.span) : (s.setDrive d).InStep :=
  h.of_standing_span rfl span

theorem evaluateWindow : s.evaluateWindow.InStep := h.of_standing_drive (by simp [Engine.standing]) rfl

theorem closeCounting : s.closeCounting.InStep := h.of_standing_drive (by simp [Engine.standing]) rfl

theorem endBody : s.endBody.InStep := h.of_standing_drive (by simp [Engine.standing]) (by simp)

theorem evaluateDropout : s.evaluateDropout.InStep := by
  unfold State.evaluateDropout
  split
  · exact (h.mapStep _).evaluateWindow
  · exact h

theorem tripDrop : s.tripDrop.InStep := h.setDrive (by simp [Drive.span_tripDrop])

theorem haltOrCutOff : s.stopStep.InStep := by
  unfold State.stopStep
  split
  · exact h.setDrive s.drive.span_halt_le
  · exact h.setBay _

/-! ### Trips -/

theorem tripExit : s.tripExit.LinesRest := by
  have started : s.startTripCapture.InStep := h.of_standing_drive (by simp) (by simp)
  unfold State.tripExit
  dsimp only
  split
  · exact started.linesRest
  · exact started.endStep _ _

theorem takeOwnTrip (t : Trip) (c : StepContext) : (s.takeOwnTrip t c).LinesRest :=
  (((((((h.setBay _).mapStep _).mapStep _).closeCounting).mapStep _).setPhase _)).tripExit

theorem takeLateTrip (t : Trip) : (s.takeLateTrip t).LinesRest := ((h.setBay _).mapStep _).tripExit

theorem takeDropoutTrip (t : Trip) (span : Option TripSpan) : (s.takeDropoutTrip t span).LinesRest :=
  (h.mapStep _).evaluateDropout.endBody.endStep _ _

theorem takeUnexpectedTrip (t : Trip) (completes : Bool) : (s.takeUnexpectedTrip t completes).LinesRest := by
  have evaluated : (if completes then s.evaluateAtTrip else s).InStep := by
    split
    · unfold State.evaluateAtTrip
      split
      · exact (h.mapStep _).evaluateWindow
      · exact h.evaluateWindow
    · exact h
  exact ((evaluated.setBay _).mapStep _).endStep _ _

theorem deliverTrip : s.deliverTrip.LinesRest := by
  have dropped := (h.setAcq s.acq.disarmTrips).tripDrop
  unfold State.deliverTrip
  extract_lets t span completes u
  split
  · exact dropped.linesRest
  next c _ =>
    split
    · split
      · exact dropped.takeOwnTrip t c
      · exact dropped.takeLateTrip t
    split
    · exact dropped.takeDropoutTrip t span
    · exact dropped.takeUnexpectedTrip t completes

/-! ### The BODY of a step -/

theorem openWindow (mode : WindowMode) (length : Nat) (channels : List CheckChannel) :
    (s.openWindow mode length channels).InStep := h.setAcq _

theorem armTripDetectors (detect : Detect) (threshold : Nat) : (s.armTripDetectors detect threshold).InStep := h.setAcq _

theorem beginRegulationWait : s.beginRegulationWait.InStep := (h.setAcq _).mapStep _

theorem startBody : s.startBody.InStep := by
  unfold State.startBody
  dsimp only
  split
  · exact h
  · exact (h.openWindow _ _ _).setAcq _
  · exact ((h.openWindow _ _ _).setAcq _).stageStep _ _
  · exact ((h.openWindow _ _ _).setAcq _).stageStep _ _
  · exact ((h.armTripDetectors _ _).openWindow _ _ _).stageStep _ _
  · exact (((h.armTripDetectors _ _).openWindow _ _ _).stageStep _ _).mapStep _
  · split
    · exact h.beginRegulationWait
    · exact (h.setDrive (d := s.drive.startResetPulse _) le_rfl).mapStep _
  · exact ((h.openWindow _ _ _).setAcq _).mapStep _
  next lead dropout restore _ _ =>
    have coupled : ((s.setDrive (s.drive.startCoupling lead dropout restore)).armDetectors).InStep := by
      refine State.InStep.setAcq (h.setDrive ?_) _
      unfold Drive.startCoupling
      split <;> exact le_rfl
    split
    · exact coupled.openWindow _ _ _
    · exact coupled

theorem enterBody : s.enterBody.InStep := by
  unfold State.enterBody
  dsimp only
  refine State.InStep.startBody ?_
  exact State.InStep.of_standing_drive ((h.mapStep _).setPhase .body) (by rw [State.startCapture_engine])
    (by rw [State.startCapture_drive])

theorem deliverFound : s.deliverFound.LinesRest := by
  unfold State.deliverFound
  split
  · exact h.deliverTrip.goOn
  · exact h.linesRest

theorem checkSettle : s.checkSettle.LinesRest := by
  unfold State.checkSettle
  split
  · split
    · exact h.enterBody.deliverFound
    · exact h.linesRest
  · exact h.linesRest

theorem completeApply : s.completeApply.LinesRest :=
  (((h.setBay _).setAcq _).setPhase _).checkSettle

theorem stageReturn : s.stageReturn.InStep := h.stageStep _ _

theorem endKneeRamp (vs : List Verdict) : (s.endKneeRamp vs).InStep :=
  State.InStep.stageReturn (((h.mapStep _).setAcq _).endBody)

theorem knee : s.knee.InStep := by
  unfold State.knee
  split
  · exact (h.mapStep _).endKneeRamp _
  · exact h

theorem takeRegulation : s.takeRegulation.InStep := by
  unfold State.takeRegulation
  split
  · exact (((h.mapStep _).setAcq _).stageStep _ _).mapStep _
  · exact h.setAcq _

theorem derateFigures (curveV : Nat) (curveT : Option Nat) (iFrom slope iCeiling kneeDrop tolLo tolHi : Nat) :
    (s.derateFigures curveV curveT iFrom slope iCeiling kneeDrop tolLo tolHi).LinesRest := by
  unfold State.derateFigures
  extract_lets vRef yV yT pExp figured limited ramped
  split
  · exact (h.mapStep _).endBody.endStep _ _
  · exact (State.InStep.setAcq (((h.mapStep _).mapStep _).stageStep _ _) _).linesRest

theorem windowDone : s.windowDone.LinesRest := by
  have evaluated := h.evaluateWindow
  unfold State.windowDone
  extract_lets low u
  split
  · exact evaluated.endBody.endStep _ _
  · exact (evaluated.mapStep _).endBody.endStep _ _
  · exact evaluated.derateFigures ..
  · exact evaluated.linesRest

theorem endSpanStep : s.endSpanStep.LinesRest := h.evaluateWindow.endBody.endStep _ _

theorem judgeDropout (vMin : Nat) : (s.judgeDropout vMin).LinesRest :=
  h.evaluateDropout.endBody.endStep _ _

theorem setEndInBody : s.setEndInBody.LinesRest := by
  unfold State.setEndInBody
  split
  · exact h.endSpanStep
  · exact h.endSpanStep
  · exact (h.mapStep _).linesRest
  · split
    · exact ((h.openWindow _ _ _).mapStep _).linesRest
    · exact h.linesRest
  · split
    · exact (h.endKneeRamp _).linesRest
    · exact h.linesRest
  · exact h.linesRest

theorem setEndInExit : s.setEndInExit.LinesRest := by
  unfold State.setEndInExit
  split
  · exact h.evaluateWindow.endStep _ _
  · split
    · exact h.endStep _ _
    · exact h.linesRest
  · split
    · exact h.endStep _ _
    · exact h.linesRest
  · exact h.endStep _ _
  · exact h.linesRest

/-! ### The ends and waits of a step -/

theorem expireStep : s.expireStep.LinesRest := h.haltOrCutOff.endStep _ _

theorem abortStep : s.abortStep.LinesRest := by
  have stopped : (s.stopStep.setEngine { s.stopStep.engine with abortPending := true }).InStep :=
    h.haltOrCutOff.of_standing_drive (by simp [Engine.standing]) (by simp)
  exact stopped.endStep _ _

theorem decideAdmission : s.decideAdmission.LinesRest := by
  unfold State.decideAdmission
  split
  · exact h.admitted.linesRest
  split
  · exact ((h.setBay _).setPhase _).linesRest
  · exact (h.setBay _).endStep _ _

theorem decideGate : s.decideGate.LinesRest := by
  unfold State.decideGate
  dsimp only
  split
  · exact (h.setBay _).enterApply.linesRest
  split
  · exact (((h.setBay _).setBay _).setPhase _).linesRest
  · exact ((h.setBay _).setBay _).endStep _ _

theorem endWait : s.endWait.InStep := ((((h.mapStep _).closeCounting).mapStep _).setPhase _)

end State.InStep

/-! ### Each as an event -/

/-- An event that asks for a step in progress. -/
theorem EventKeeps.stepping (due : State → Bool) (taken : State → State) (needs : ∀ s, due s = true → s.engine.stepping = true)
    (keeps : ∀ s : State, s.InStep → (taken s).LinesRest) :
    EventKeeps State.LinesRest (fun s => if due s then some (taken s) else none) :=
  .guarded (fun s => due s = true) taken fun s rest isDue => keeps s (rest.inStep (needs s isDue))

theorem State.stepping_of_stopDue {s : State} (due : s.stopDue = true) : s.engine.stepping = true := by
  unfold State.stopDue at due
  split at due
  · split at due
    · simp only [Bool.and_eq_true] at due
      exact due.1.1.1
    · cases due
  · cases due

theorem State.stepping_of_waitOver {s : State} (isOver : s.waitOver = true) : s.engine.stepping = true := by
  simp only [State.waitOver, Bool.and_eq_true] at isOver
  exact isOver.1.1

theorem stepEvents_keepLinesRest : ∀ event ∈ stepEvents, event ≠ State.applyComplete →
    EventKeeps State.LinesRest event := by
  have first {a b : Bool} (h : (a && b) = true) : a = true := (Bool.and_eq_true_iff.1 h).1
  simp only [stepEvents, List.forall_mem_cons]
  refine ⟨fun _ => .stepping _ _ (fun _ => first) fun s h => h.deliverTrip.goOn,
    fun _ => .stepping _ _ (fun _ => first) fun s h => h.deliverTrip.goOn,
    fun _ => .stepping _ _ (fun _ => first) fun s h => h.knee.linesRest,
    fun _ => .stepping _ _ (fun _ => first) fun s h => h.takeRegulation.linesRest,
    fun _ => .stepping _ _ (fun _ => first) fun s h => h.windowDone.goOn,
    fun _ => .stepping _ _ (fun _ => first) fun s h => h.expireStep.goOn,
    fun _ => .stepping _ _ (fun _ d => State.stepping_of_waitOver (first d)) fun s h => h.endWait.stageReturn.linesRest,
    fun _ => .stepping _ _ (fun _ d => State.stepping_of_waitOver (first d)) fun s h => (h.endWait.stageStep _ _).linesRest,
    fun _ => .stepping _ _ (fun _ => State.stepping_of_stopDue)
      fun s h => (State.InStep.of_standing_span h.endBody rfl (by exact le_rfl)).linesRest,
    fun _ => .stepping _ _ (fun _ d => first (first d)) fun s h => h.decideAdmission.goOn,
    fun _ => .stepping _ _ (fun _ d => first (first d)) fun s h => h.beginAttempt.linesRest,
    fun _ => .stepping _ _ (fun _ d => first (first d)) fun s h => (h.setBay _).linesRest,
    fun _ => .stepping _ _ (fun _ d => first (first d)) fun s h => h.decideGate.goOn,
    fun _ => .stepping _ _ (fun _ d => first (first d)) fun s h => h.enterGate.linesRest,
    fun other => absurd rfl other, fun _ mem => nomatch mem⟩

end Sys2Proof.Machine

/-! ## The lines and the drive at rest: the events of the drive unit, of capture and of the waits -/

namespace Sys2Proof.Machine

namespace State.LinesRest

variable {s : State} (rest : s.LinesRest)
include rest

theorem noPulse (walk : s.engine.walk ≠ .running) : s.drive.resetPulse = none := by
  obtain ⟨-, -, -, -, -, -, -, -, pulse⟩ := rest
  by_contra h
  obtain ⟨n, runs⟩ := Option.ne_none_iff_exists'.1 h
  exact walk (pulse n runs).1

theorem notReleased (walk : s.engine.walk ≠ .winddown) : s.engine.releasesDone = false := by
  obtain ⟨-, -, released, -, -, -, -, -, -⟩ := rest
  by_contra h
  exact walk (released (by simpa using h)).1

theorem noSummary (walk : s.engine.walk ≠ .winddown) (w : WalkSummary) : s.engine.waiting ≠ some (.walkSummary w) := by
  intro waits
  have notReleased := rest.notReleased walk
  obtain ⟨-, -, -, -, -, summary, -, -, -⟩ := rest
  simp [summary w waits] at notReleased

theorem within : s.drive.Within s.engine.ratings.iMax := rest.2.2.2.2.1

theorem setAcq (a : Acquisition) : (s.setAcq a).LinesRest := rest.congr rfl rfl rfl rfl

theorem ready (walk : s.engine.walk = .paused ∨ s.engine.walk = .pageWait) : s.Ready := by
  have noWinddown : s.engine.walk ≠ .winddown := by rcases walk with h | h <;> simp [h]
  have noRunning : s.engine.walk ≠ .running := by rcases walk with h | h <;> simp [h]
  refine ⟨rest.notReleased noWinddown, ?_, rest.noPulse noRunning, rest.within⟩
  obtain ⟨-, -, -, -, -, -, waits, -, -⟩ := rest
  by_contra h
  obtain ⟨r, waiting⟩ := Option.ne_none_iff_exists'.1 h
  exact (waits r waiting).1.elim noRunning noWinddown

/-! ### Blanks and captures -/

theorem checkSettle : s.checkSettle.LinesRest := by
  by_cases settling : s.engine.phase = .settle ∧ s.engine.step.isSome = true
  · obtain ⟨phase, step⟩ := settling
    refine (rest.inStep ((Engine.stepping_iff _).2 ⟨?_, step, ?_⟩)).checkSettle
    · obtain ⟨-, -, -, -, -, -, -, stands, -⟩ := rest
      by_contra walk
      simp [stands walk] at step
    · obtain ⟨-, -, -, -, -, -, waits, -, -⟩ := rest
      by_contra h
      obtain ⟨r, waiting⟩ := Option.ne_none_iff_exists'.1 h
      simp [(waits r waiting).2] at phase
  · unfold State.checkSettle
    split
    next c phase step => exact absurd ⟨phase, by simp [step]⟩ settling
    · exact rest

theorem takeBlockOffer : s.takeBlockOffer.LinesRest := by
  have offered : s.offerBlock.LinesRest := rest.congr (by simp) (by simp) (by simp) (by simp)
  have finished := offered.setAcq { s.offerBlock.acq with capture := { s.offerBlock.acq.capture with state := .done } }
  unfold State.takeBlockOffer
  dsimp only
  split
  · split
    · exact finished
    · exact offered
  · split
    · split
      next ends =>
        simp only [Bool.and_eq_true] at ends
        exact (finished.inStep ends.1.1).endStep _ _
      · exact finished
    · exact offered
  · exact offered

/-! ### The ends of the drive unit's sets -/

theorem reachRest (walk : s.engine.walk = .pageWait) : s.reachRest.LinesRest := by
  have ready := rest.ready (.inr walk)
  simp [State.LinesRest, walk, ready.notReleased, ready.noRecord, ready.noPulse, ready.within, rest.2.2.2.2.2.2.2.1]

/-- The releases are made at the winddown ramp's end, which has brought the level to 0 (R41, R84). -/
theorem makeReleases_of_landed {u : State} (engine : u.engine = s.engine) (walk : s.engine.walk = .winddown)
    (landed : u.drive.winddownReleases.AtRest) : u.makeReleases.LinesRest := by
  unfold State.makeReleases
  dsimp only
  refine State.LinesRest.offerSummary ?_
  obtain ⟨-, -, -, -, -, summary, waits, stands, -⟩ := rest
  have atRest := Bay.releaseAll_atRest u.bay u.lineSettle
  obtain ⟨level, active, -, staged, -, -, -, noPulse, -⟩ := id landed
  refine ⟨fun _ => ⟨atRest, landed⟩, by simp [engine, walk], fun _ => ⟨by simp [engine, walk], atRest, landed⟩, by simp,
    ?_, by simp, ?_, ?_, ?_⟩
  · simp [Drive.Within, level, active, staged, GenSet.peak]
  · simpa [engine] using waits
  · simpa [engine] using stands
  · simp [noPulse]

/-- The end of a set is taken by the walk, where a winddown ramp that still waits is not the set that ended. -/
theorem takeSetEnd (waits : s.engine.walk = .winddown → s.engine.releasesDone = false → s.drive.staged ≠ none) :
    s.takeSetEnd.LinesRest := by
  unfold State.takeSetEnd
  split
  next winddown =>
    split
    next due => exact absurd (by simpa using due.1) (waits winddown (by simpa using due.2))
    · exact rest
  next pageWait =>
    split
    · exact rest.reachRest pageWait
    · exact rest
  · split
    next stepping =>
      have inStep := rest.inStep stepping
      split
      · split
        · exact inStep.completeApply
        · exact rest
      · exact inStep.setEndInBody
      · exact inStep.setEndInExit
      · exact rest
    · exact rest
  · exact rest

/-- With an end of a set due, the walk is not between the releases and the next START_WALK. -/
theorem walk_of_ended (ended : s.drive.status = .ended) :
    (s.engine.walk = .running ∨ s.engine.walk = .paused ∨ s.engine.walk = .pageWait)
      ∨ (s.engine.walk = .winddown ∧ s.engine.releasesDone = false) := by
  obtain ⟨idle, -, released, -, -, -, -, -, -⟩ := rest
  have notAtRest : ¬ s.drive.AtRest := fun ⟨_, _, status, _⟩ => by simp [ended] at status
  cases walk : s.engine.walk with
  | idle => exact absurd (idle (.inl walk)).2 notAtRest
  | held => exact absurd (idle (.inr walk)).2 notAtRest
  | winddown =>
    refine .inr ⟨rfl, ?_⟩
    by_contra done
    exact notAtRest (released (by simpa using done)).2.2
  | _ => simp

theorem releaseStaged : (s.setDrive s.drive.releaseStaged).LinesRest := rest.setDrive s.drive.releaseStaged_settles

/-- The winddown ramp that has ended has landed at 0, and the releases find nothing in flight (R41, R84). -/
theorem landed (ended : s.drive.status = .ended) (walk : s.engine.walk = .winddown)
    (noRelease : s.engine.releasesDone = false) (staged : s.drive.staged = none) :
    s.drive.holdLevel.winddownReleases.AtRest := by
  have noPulse := rest.noPulse (by simp [walk])
  obtain ⟨slope, waits⟩ | ⟨-, change, coupling, slope, active, status⟩ := rest.2.2.2.1 walk noRelease
  · simp [staged] at waits
  · have level : s.drive.level = 0 := by simpa [ended] using status
    simp [Drive.AtRest, Drive.holdLevel, Drive.winddownReleases, level, staged, change, coupling, noPulse]

theorem reportSetEnd (ended : s.drive.status = .ended) : s.reportSetEnd.LinesRest := by
  refine State.LinesRest.releaseStaged (s := (s.setDrive s.drive.holdLevel).takeSetEnd) ?_
  rcases rest.walk_of_ended ended with walk | ⟨walk, noRelease⟩
  · refine (rest.setDrive_of_walk walk s.drive.span_holdLevel_le id).takeSetEnd fun down => ?_
    rcases walk with h | h | h <;> simp [h] at down
  · cases staged : s.drive.staged with
    | some st =>
      have held : (s.setDrive s.drive.holdLevel).LinesRest := by
        refine rest.setDrive ⟨fun h => ?_, fun h => h.imp id fun k => ?_, s.drive.span_holdLevel_le, id⟩
        · simp [h.2.2.2.1] at staged
        · simp [k.1] at staged
      exact held.takeSetEnd fun _ _ => by simp [Drive.holdLevel, staged]
    | none =>
      have due : (s.setDrive s.drive.holdLevel).takeSetEnd = (s.setDrive s.drive.holdLevel).makeReleases := by
        simp [State.takeSetEnd, walk, noRelease, Drive.holdLevel, staged]
      rw [due]
      exact rest.makeReleases_of_landed rfl walk (rest.landed ended walk noRelease staged)

theorem takeCycleEnd (due : s.drive.cycleEnded = true) : s.takeCycleEnd.LinesRest := by
  have counted := rest.setDrive (s.drive.endCycle_settles due)
  unfold State.takeCycleEnd
  dsimp only
  split
  next last =>
    refine State.LinesRest.releaseStaged (counted.takeSetEnd fun walk noRelease => ?_)
    have pulse : ∃ lo hi period high cycles, s.drive.active = .pulse lo hi period high cycles := by
      unfold Drive.lastCycle at last
      split at last
      · exact ⟨_, _, _, _, _, ‹_›⟩
      · cases last
    obtain ⟨lo, hi, period, high, cycles, active⟩ := pulse
    obtain ⟨slope, staged⟩ | ⟨-, -, -, slope, ramp, -⟩ := rest.2.2.2.1 walk noRelease
    · simp [Drive.endCycle, active, last, Drive.holdLevel, staged]
    · simp [active] at ramp
  · exact counted

/-! ### Range changes, couplings and reset pulses -/

theorem compareRest (walk : s.engine.walk = .pageWait) : s.compareRest.LinesRest := by
  have ready := rest.ready (.inr walk)
  have within := ready.within.of_span_le s.span_compareRest_le
  obtain ⟨stage, engine⟩ := s.compareRest_engine
  have noStep := rest.2.2.2.2.2.2.2.1
  simp [State.LinesRest, engine, walk, ready.notReleased, ready.noRecord, within, s.compareRest_resetPulse, ready.noPulse,
    noStep]

theorem takeRelayExpiry (due : s.drive.rangeChange = .relayWait ∨ s.drive.loadRequest = true) :
    s.takeRelayExpiry.LinesRest := by
  have expired := rest.setDrive (s.drive.relayExpiry_settles due)
  unfold State.takeRelayExpiry
  dsimp only
  split
  next deferred =>
    simp only [Bool.and_eq_true, beq_iff_eq] at deferred
    exact expired.compareRest deferred.1
  · exact expired

/-- A span of the coupling gives way to the next, or the coupling ends. -/
theorem setCoupling {d : Drive} (runs : s.drive.coupling ≠ .none) (next : Coupling) (enable : Bool)
    (same : d = { s.drive with coupling := next, lineEnable := enable }) : (s.setDrive d).LinesRest := by
  subst same
  refine rest.setDrive ⟨fun h => absurd h.2.2.2.2.2.2.1 runs, ?_, le_rfl, id⟩
  rintro (⟨slope, staged⟩ | ⟨-, -, none, -⟩)
  · exact .inl ⟨slope, staged⟩
  · exact absurd none runs

theorem takeCouplingEnd (runs : s.drive.coupling ≠ .none) : s.takeCouplingEnd.LinesRest := by
  have ended := (rest.setCoupling (d := { s.drive with coupling := .none }) runs .none s.drive.lineEnable rfl).releaseStaged
  unfold State.takeCouplingEnd
  dsimp only
  split
  · split
    next stepping => exact (ended.inStep stepping).judgeDropout _
    · exact ended
  · exact ended

theorem resetPulseEnd (runs : s.drive.resetPulse ≠ none) : (s.setDrive s.drive.endResetPulse).LinesRest := by
  have walk : s.engine.walk = .running := by
    by_contra walk
    exact runs (rest.noPulse walk)
  refine rest.setDrive_of_walk (.inl walk) s.drive.span_endResetPulse.le fun none => absurd none runs

end State.LinesRest

/-! ### Each event of a row -/

theorem captureBlockOffer_keepsLinesRest : EventKeeps State.LinesRest State.captureBlockOffer :=
  .guarded _ _ fun _ rest _ => rest.takeBlockOffer.goOn

theorem blankClose_keepsLinesRest (channel : Channel) : EventKeeps State.LinesRest (State.blankClose channel) :=
  .guarded _ _ fun _ rest _ => (rest.setAcq _).checkSettle

theorem generatorSetEnd_keepsLinesRest : EventKeeps State.LinesRest State.generatorSetEnd :=
  .guarded _ _ fun _ rest due => (rest.reportSetEnd due).goOn

theorem applyComplete_keepsLinesRest : EventKeeps State.LinesRest State.applyComplete :=
  .guarded _ _ fun _ rest due => by
    simp only [Bool.and_eq_true, beq_iff_eq] at due
    exact rest.reportSetEnd due.1.2

theorem pulseCycleEnd_keepsLinesRest : EventKeeps State.LinesRest State.pulseCycleEnd :=
  .guarded _ _ fun _ rest due => (rest.takeCycleEnd due).goOn

theorem rangeDownEnd_keepsLinesRest : EventKeeps State.LinesRest State.rangeDownEnd := by
  intro s t rest due
  unfold State.rangeDownEnd at due
  split at due
  next reached => cases due; exact rest.setDrive (Drive.endDown_settles reached)
  · cases due

theorem relayCountExpiry_keepsLinesRest : EventKeeps State.LinesRest State.relayCountExpiry :=
  .guarded _ _ fun _ rest due => rest.takeRelayExpiry (by simp at due; exact due.2)

theorem couplingSpanEnd_keepsLinesRest : EventKeeps State.LinesRest State.couplingSpanEnd := by
  intro s t rest due
  unfold State.couplingSpanEnd at due
  split at due
  next runs => cases due; exact (rest.setCoupling (by simp [runs]) _ _ rfl).setAcq _
  next runs => cases due; exact rest.setCoupling (by simp [runs]) _ _ rfl
  next runs => cases due; exact (rest.takeCouplingEnd (by simp [runs])).goOn
  · cases due

theorem resetPulseEnd_keepsLinesRest : EventKeeps State.LinesRest State.resetPulseEnd :=
  .guarded _ _ fun s rest due => by
    have ended := rest.resetPulseEnd (by simp [due])
    split
    next stepping => exact (ended.inStep (Bool.and_eq_true_iff.1 stepping).1).beginRegulationWait.linesRest
    · exact ended

theorem releaseSpanEnd_keepsLinesRest : EventKeeps State.LinesRest State.releaseSpanEnd :=
  .guarded _ _ fun _ rest _ => rest.congr rfl rfl rfl rfl

theorem pageWaitExpiry_keepsLinesRest : EventKeeps State.LinesRest State.pageWaitExpiry :=
  .guarded _ _ fun _ rest due => (rest.ready (by simp at due; exact .inr due.1)).enterWinddown _

theorem stalledRecordPlaced_keepsLinesRest : EventKeeps State.LinesRest State.stalledRecordPlaced :=
  .guarded _ _ fun _ rest _ => rest.goOn

theorem rowEvents_keepLinesRest : ∀ event ∈ rowEvents, EventKeeps State.LinesRest event := by
  have known : ∀ event ∈ rowEvents, event ∈ stepEvents ∨ EventKeeps State.LinesRest event := by
    simp [rowEvents, dueEvents, stepEvents, captureBlockOffer_keepsLinesRest, blankClose_keepsLinesRest,
      generatorSetEnd_keepsLinesRest, pulseCycleEnd_keepsLinesRest,
      rangeDownEnd_keepsLinesRest, relayCountExpiry_keepsLinesRest, couplingSpanEnd_keepsLinesRest,
      resetPulseEnd_keepsLinesRest, releaseSpanEnd_keepsLinesRest, pageWaitExpiry_keepsLinesRest,
      stalledRecordPlaced_keepsLinesRest]
  intro event mem
  by_cases apply_eq : event = State.applyComplete
  · exact apply_eq ▸ applyComplete_keepsLinesRest
  · exact (known event mem).elim (fun ofStep => stepEvents_keepLinesRest event ofStep apply_eq) id

end Sys2Proof.Machine

/-! ## The lines and the drive at rest: samples, the interlock and the commands -/

namespace Sys2Proof.Machine

theorem Drive.AtRest.within {d : Drive} (h : d.AtRest) (limit : Nat) : d.Within limit := by
  obtain ⟨level, active, -, staged, -⟩ := h
  simp [Drive.Within, level, active, staged, GenSet.peak]

theorem Drive.reset_atRest : Drive.reset.AtRest := ⟨rfl, rfl, rfl, rfl, rfl, rfl, rfl, rfl, rfl, rfl, rfl, rfl⟩

/-- Between walks lines and drive at rest are all that is asked. -/
theorem State.linesRest_of_idle {s : State} (walk : s.engine.walk = .idle ∨ s.engine.walk = .held) (bay : s.bay.AtRest)
    (drive : s.drive.AtRest) (noRelease : s.engine.releasesDone = false) (step : s.engine.step = none)
    (noRecord : s.engine.waiting = none) : s.LinesRest := by
  have others : s.engine.walk ≠ .paused ∧ s.engine.walk ≠ .winddown := by rcases walk with h | h <;> simp [h]
  have noPulse : s.drive.resetPulse = none := drive.2.2.2.2.2.2.2.1
  simp [State.LinesRest, bay, drive, noRelease, step, noRecord, others, drive.within, noPulse]

/-- Once the releases are made, an opening only replaces the reason, also of a summary that waits (R32, R42). -/
theorem State.interlockInWinddown_of_released (s : State) (done : s.engine.releasesDone = true) :
    ∃ waiting : Option StepLevel, waiting.isSome = s.engine.waiting.isSome
      ∧ s.interlockInWinddown = s.setEngine { s.engine with reason := some .interlock, waiting := waiting } := by
  unfold State.interlockInWinddown
  dsimp only
  rw [State.setEngine_engine, if_pos (by exact done)]
  split
  next w waits => exact ⟨_, by simp [show s.engine.waiting = _ from waits], rfl⟩
  · exact ⟨s.engine.waiting, rfl, rfl⟩

theorem State.interlockInWinddown_of_not_released (s : State) (noRelease : s.engine.releasesDone = false) :
    s.interlockInWinddown = (s.setEngine { s.engine with reason := some .interlock }).makeReleases := by
  unfold State.interlockInWinddown
  dsimp only
  rw [State.setEngine_engine, if_neg (by simp [noRelease])]

namespace State.LinesRest

variable {s : State} (rest : s.LinesRest)
include rest

theorem noRecord (walk : s.engine.walk ≠ .running) (other : s.engine.walk ≠ .winddown) : s.engine.waiting = none := by
  obtain ⟨-, -, -, -, -, -, waits, -, -⟩ := rest
  by_contra h
  obtain ⟨r, waiting⟩ := Option.ne_none_iff_exists'.1 h
  exact (waits r waiting).1.elim walk other

theorem setBay (b : Bay) (claim : b.drivenClaim = s.bay.drivenClaim) (unit : b.ownUnit = s.bay.ownUnit) :
    (s.setBay b).LinesRest := rest.congr rfl rfl claim unit

/-! ### Samples -/

theorem tickEngine : s.tickEngine.LinesRest := by
  unfold State.tickEngine
  dsimp only
  split
  next stepping => exact ((rest.inStep stepping).mapStep _).linesRest
  · split
    next walk =>
      have ready := rest.ready (.inr walk)
      have ticked : (s.setEngine { s.engine with pageWaitLeft := s.engine.pageWaitLeft - 1 }).LinesRest := rest
      split
      · exact ticked.reachRest walk
      · exact ticked
    · exact rest

theorem takeSample (i : SampleInput) : (s.takeSample i).LinesRest := by
  obtain ⟨claim, -, unit, -⟩ := s.bay.sample_spec i s.lineSettle
  exact (((rest.setBay _ claim unit).setDrive s.drive.update_settles).setAcq _).tickEngine

/-! ### The interlock -/

/-- An opening that finds the walk in WINDDOWN leaves lines and drive released (R42). -/
theorem interlockInWinddown (walk : s.engine.walk = .winddown) : s.dropAll.interlockInWinddown.LinesRest := by
  have bay : s.dropAll.bay.AtRest := Bay.releaseAll_atRest _ _
  have drive : s.dropAll.drive.AtRest := by simp [Drive.AtRest, Drive.immediateDrop, Drive.holdLevel]
  cases done : s.engine.releasesDone with
  | true =>
    obtain ⟨waiting, waits, after⟩ := s.dropAll.interlockInWinddown_of_released done
    have noStep := rest.2.2.2.2.2.2.2.1
    have stall := rest.2.2.2.2.2.2.1
    have noPulse : s.drive.immediateDrop.resetPulse = none := rfl
    rw [after]
    refine ⟨by simp [walk], by simp [walk], fun _ => ⟨walk, bay, drive⟩, by simp [done], drive.within _, fun _ _ => done,
      fun r w => ⟨.inr walk, ?_⟩, noStep, by simp [noPulse]⟩
    have some_before : s.engine.waiting.isSome = true := by
      rw [← State.dropAll_engine, ← waits, show waiting = some r from w]; rfl
    obtain ⟨x, before⟩ := Option.isSome_iff_exists.1 some_before
    exact (stall x before).2
  | false =>
    have reasoned : (s.setEngine { s.engine with reason := some .interlock }).LinesRest := rest
    have dropped : s.drive.immediateDrop.winddownReleases.AtRest := by
      simp [Drive.AtRest, Drive.immediateDrop, Drive.holdLevel, Drive.winddownReleases]
    rw [s.dropAll.interlockInWinddown_of_not_released done]
    exact reasoned.makeReleases_of_landed rfl walk dropped

/-- An opening that finds a step in progress ends it, and the walk enters WINDDOWN (R42). -/
theorem interlockStep (stepping : s.engine.stepping = true) :
    ((s.dropAll.endStep .interlock [.aborted]).enterWinddown .interlock).LinesRest := by
  have inStep : s.dropAll.InStep := by
    obtain ⟨walk, noRelease, noRecord, step, -⟩ := rest.inStep stepping
    exact ⟨walk, noRelease, noRecord, step, by simp [Drive.within_iff, Drive.span_immediateDrop]⟩
  obtain ⟨c, step⟩ := Option.isSome_iff_exists.1 inStep.step
  have ended := inStep.endStep .interlock [.aborted]
  have waits : (s.dropAll.endStep .interlock [.aborted]).engine.waiting
      = some (.stepResult (s.dropAll.endResult .interlock [.aborted] c)) := by
    rw [State.endStep_engine _ _ _ c step]
  refine State.enterWinddown_linesRest _ ?_ (by simp [waits]) ended.within
  by_contra h
  obtain ⟨n, runs⟩ := Option.ne_none_iff_exists'.1 h
  have noRecord := (ended.2.2.2.2.2.2.2.2 n runs).2.2
  simp [waits] at noRecord

theorem interlockWalk : s.interlockWalk.LinesRest := by
  unfold State.interlockWalk
  dsimp only
  split
  next winddown => exact (rest.interlockInWinddown winddown).goOn
  next other =>
    refine State.LinesRest.goOn ?_
    split
    next stepping => exact rest.interlockStep stepping
    · refine State.enterWinddown_linesRest _ rfl (rest.noSummary other) ?_
      simp [Drive.within_iff, Drive.span_immediateDrop]

/-! ### Commands -/

theorem reply (code : Byte) (a : Answer) : (s.reply code a).LinesRest := rest.congr rfl rfl rfl rfl

theorem setStore (x : PlanStore) : (s.setStore x).LinesRest := rest.congr rfl rfl rfl rfl

theorem startWalk (header : WalkHeader) (walk : s.engine.walk = .idle) : (s.startWalk header).LinesRest := by
  obtain ⟨-, atRest⟩ := rest.1 (.inl walk)
  have noRelease := rest.notReleased (by simp [walk])
  have noRecord := rest.noRecord (by simp [walk]) (by simp [walk])
  obtain ⟨level, active, -, staged, -, -, -, noPulse, -⟩ := id atRest
  unfold State.startWalk
  extract_lets r u
  have drive : u.drive = { s.drive with lineSetpoint := r.lineNominal } := by simp [u]
  have engine : u.engine = s.engine.beginWalk header r := by simp [u]
  refine State.LinesRest.goOn (State.Ready.enterAdmit ⟨?_, ?_, ?_, ?_⟩ _)
  · simpa [engine, Engine.beginWalk] using noRelease
  · simpa [engine, Engine.beginWalk] using noRecord
  · simpa [drive, Drive.startWalk] using noPulse
  · simp [drive, Drive.startWalk, Drive.Within, level, active, staged, GenSet.peak]

theorem takeResume : s.takeResume.LinesRest := by
  unfold State.takeResume
  split
  next walk =>
    have ready := rest.ready (.inl walk)
    have running : (s.setEngine { s.engine with walk := .running }).Ready := ⟨ready.1, ready.2, ready.3, ready.4⟩
    exact (running.enterAdmit _).goOn.reply _ _
  · split
    · exact State.LinesRest.reply (s := s.setEngine { s.engine with pausePending := false }) rest _ _
    · exact rest.reply _ _
  all_goals exact rest.reply _ _

/-- A halt leaves the walk ready in PAGE_WAIT (R36, R40). -/
theorem halted (walk : s.engine.walk = .pageWait) : (s.setDrive s.drive.halt).Ready := by
  have ready := rest.ready (.inr walk)
  refine ⟨ready.notReleased, ready.noRecord, ?_, ready.within.of_span_le s.drive.span_halt_le⟩
  simp [Drive.halt, Drive.endResetPulse_eq]

theorem takeAbort : s.takeAbort.LinesRest := by
  unfold State.takeAbort
  split
  · refine State.LinesRest.reply ?_ _ _
    unfold State.abortRunning
    split
    next stepping => exact (rest.inStep stepping).abortStep.goOn
    · exact rest
  next walk => exact ((rest.ready (.inl walk)).enterWinddown _).reply _ _
  next walk => exact ((rest.halted walk).enterWinddown _).reply _ _
  all_goals exact rest.reply _ _

theorem takeRelease : s.takeRelease.LinesRest := by
  unfold State.takeRelease
  split
  next walk =>
    obtain ⟨bay, drive⟩ := rest.1 (.inr walk)
    refine State.LinesRest.reply (s := s.setEngine { s.engine with walk := .idle })
      (State.linesRest_of_idle (.inl rfl) bay drive ?_ ?_ ?_) _ _
    · exact rest.notReleased (by simp [walk])
    · exact rest.2.2.2.2.2.2.2.1 (by simp [walk])
    · exact rest.noRecord (by simp [walk]) (by simp [walk])
  all_goals exact rest.reply _ _

theorem takeArmChain : s.takeArmChain.LinesRest := by
  have marked : (s.setEngine { s.engine with chain := some s.engine.otherPage }).LinesRest := rest
  unfold State.takeArmChain
  split
  case h_6 walk =>
    split
    · exact rest.reply _ _
    · refine State.LinesRest.reply (State.LinesRest.goOn ?_) _ _
      have ready := rest.halted walk
      exact State.Ready.swapTo ⟨ready.1, ready.2, ready.3, ready.4⟩ _
  case h_1 | h_2 => exact rest.reply _ _
  all_goals
    split
    · exact rest.reply _ _
    · exact marked.reply _ _

theorem takePauseCommand : s.takePauseCommand.LinesRest := by
  have paused : (s.setEngine { s.engine with pausePending := true }).LinesRest := rest
  unfold State.takePauseCommand
  split
  case h_1 | h_2 =>
    split
    · exact rest.reply _ _
    · exact paused.reply _ _
  all_goals exact rest.reply _ _

omit rest in
theorem resetBlocks (s : State) (straps : BitVec 4) : (s.resetBlocks straps).LinesRest :=
  State.linesRest_of_idle (.inl rfl) ⟨rfl, rfl⟩ Drive.reset_atRest rfl rfl rfl

theorem takeCommand (c : Instr) : (s.takeCommand c).LinesRest := by
  unfold State.takeCommand
  split
  case h_9 f =>
    unfold State.takeStartWalk
    split
    · exact rest.reply _ _
    next accepted =>
      refine (rest.startWalk _ ?_).reply _ _
      unfold startRefusal at accepted
      cases walk : s.engine.walk <;> simp [walk, WalkState.active] at accepted ⊢
  case h_4 | h_5 | h_6 | h_7 | h_8 =>
    simp only [State.takeConfigure, State.takeWriteStep, State.takeWriteCurve, State.takeWriteProfile, State.takeWriteChannel]
    split
    · exact rest.reply _ _
    · exact (rest.setStore _).reply _ _
  case h_10 => exact rest.takePauseCommand
  case h_11 => exact rest.takeResume
  case h_12 => exact rest.takeAbort
  case h_13 => exact rest.takeRelease
  case h_14 => exact rest.takeArmChain
  case h_15 => exact State.LinesRest.reply (s := s.setEngine { s.engine with chain := none }) rest _ _
  case h_16 straps => exact (resetBlocks s straps).congr rfl rfl rfl rfl
  all_goals exact rest.congr rfl rfl rfl rfl

end State.LinesRest

theorem stepKeeps_linesRest : StepKeeps State.LinesRest where
  events := rowEvents_keepLinesRest
  sample i _ rest := rest.takeSample i
  port _ _ rest := rest.congr rfl rfl rfl rfl
  queue _ _ rest := rest.congr rfl rfl rfl rfl
  interlock _ _ rest := rest.congr rfl rfl rfl rfl
  pending _ _ rest := rest.congr rfl rfl rfl rfl
  goOn _ rest := rest.goOn
  opening _ rest _ := rest.interlockWalk
  command _ c rest := rest.takeCommand c
  pinReset s straps _ := (State.LinesRest.resetBlocks s straps).congr rfl rfl rfl rfl

/-- Settles O58, by `StepKeeps`: each event, the sample, the interlock and each command keep `LinesRest`. -/
theorem linesRestKept : Obligations.LinesRestKept := fun _ _ rest run => stepKeeps_linesRest.step_keeps rest run

end Sys2Proof.Machine

/-! ## The claim law and the clamp law: the drive unit (R50, R76, R78)

What `State.LoadCovered` asks of the drive unit alone, under a claim and a nominal voltage, and how each operation of the
drive unit keeps it; then what may be in force and in flight in each phase, under the same operations. -/

namespace Sys2Proof.Machine

/-- What the claim law and the clamp law ask of the drive unit under a claim. -/
structure Drive.Lawful (d : Drive) (claim vNom : Nat) : Prop where
  covered : d.CoveredBy claim vNom
  inRange : d.InRange
  down : d.ChangesDown

/-- What of the drive unit moves the load: its level, range and range change, the sets, and the coupling. -/
def Drive.motion (d : Drive) : Nat × LoadRange × RangeChange × GenSet × SetStatus × Option Staged × Coupling :=
  (d.level, d.range, d.rangeChange, d.active, d.status, d.staged, d.coupling)

/-- The larger of the load and the greatest current of the set in force. -/
def Drive.inForce (d : Drive) : Nat := max (d.level / 1000) d.active.peak

section
variable {d d' : Drive} (same : d'.motion = d.motion)
include same

theorem Drive.Lawful.of_motion {claim vNom : Nat} (lawful : d.Lawful claim vNom) : d'.Lawful claim vNom := by
  simp only [Drive.motion, Prod.mk.injEq] at same
  obtain ⟨level, range, change, active, status, staged, -⟩ := same
  obtain ⟨covered, inRange, down⟩ := lawful
  refine ⟨?_, ?_, ?_⟩
  · simpa only [Drive.CoveredBy, level, active, staged] using covered
  · simpa only [Drive.InRange, level, range, change, active, staged] using inRange
  · simpa only [Drive.ChangesDown, level, change, active, status] using down

theorem Drive.Still.of_motion (still : d.Still) : d'.Still := by
  simp only [Drive.motion, Prod.mk.injEq] at same
  obtain ⟨level, -, change, active, status, staged, coupling⟩ := same
  simpa only [Drive.Still, level, change, active, status, staged, coupling] using still

theorem Drive.Unrequested.of_motion (unrequested : d.Unrequested) : d'.Unrequested := by
  refine unrequested.imp (fun still => still.of_motion same) ?_
  simp only [Drive.motion, Prod.mk.injEq] at same
  obtain ⟨-, -, change, -, -, staged, coupling⟩ := same
  rw [change, staged, coupling]
  exact id

theorem Drive.FitsPhase.of_motion {c : StepContext} {p : Phase} (fits : d.FitsPhase c p) : d'.FitsPhase c p := by
  simp only [Drive.motion, Prod.mk.injEq] at same
  obtain ⟨level, -, change, active, status, staged, coupling⟩ := same
  simpa only [Drive.FitsPhase, Drive.Applies, Drive.Free, Drive.Steady, Drive.Unrequested, Drive.Still, level, change, active,
    status, staged, coupling] using fits

end

/-! ### Lawfulness under the operations -/

theorem Drive.InRange.inForce_le {d : Drive} (h : d.InRange) : d.inForce ≤ d.range.limit := max_le h.1 h.2.1

/-- An operation that raises neither the load nor the set in force, and keeps or discards what waits. -/
theorem Drive.InRange.of_inForce_le {d d' : Drive} (h : d.InRange) (range : d'.range = d.range)
    (inForce : d'.inForce ≤ d.inForce) (staged : ∀ st, d'.staged = some st → d.staged = some st)
    (change : d'.rangeChange ≠ .none → d.rangeChange ≠ .none) : d'.InRange := by
  have bound := inForce.trans h.inForce_le
  obtain ⟨-, -, waits⟩ := h
  refine ⟨?_, ?_, fun st k => ?_⟩
  · exact (le_max_left _ _).trans (range ▸ bound)
  · exact (le_max_right _ _).trans (range ▸ bound)
  · obtain ⟨limit, zero⟩ := waits st (staged st k)
    exact ⟨range ▸ limit, fun none changing => zero none (change changing)⟩

/-- A drive unit at level 0 with nothing waiting is lawful under every claim. -/
theorem Drive.Lawful.of_zero {d : Drive} (level : d.level = 0) (active : d.active = .level 0) (status : d.status = .rest)
    (staged : d.staged = none) (claim vNom : Nat) : d.Lawful claim vNom := by
  refine ⟨?_, ?_, fun _ => .inl ⟨level, active, status⟩⟩
  · rw [Drive.coveredBy_iff]
    simpa [Drive.span, level, active, staged, GenSet.peak] using Covers.zero claim vNom
  · simp [Drive.InRange, level, active, staged, GenSet.peak]

theorem Drive.AtRest.lawful {d : Drive} (h : d.AtRest) (claim vNom : Nat) : d.Lawful claim vNom :=
  .of_zero h.1 h.2.1 h.2.2.1 h.2.2.2.1 claim vNom

theorem Drive.CoveredBy.mono {d : Drive} {claim claim' vNom : Nat} (h : d.CoveredBy claim vNom) (le : claim ≤ claim') :
    d.CoveredBy claim' vNom :=
  ⟨h.1.trans le, h.2.1.trans le, fun st k => (h.2.2 st k).trans le⟩

/-- What waits plays no part in the action of the set in force. -/
theorem Drive.act_unstaged (d : Drive) :
    ({ d with staged := none } : Drive).act = { d.act with staged := none } := by
  unfold Drive.act
  dsimp only
  cases status : d.status with
  | acting =>
    cases active : d.active with
    | ramp start stop slope => cases start <;> rfl
    | _ => rfl
  | _ => simp [status]

theorem Drive.checkDown_unstaged (d : Drive) :
    ({ d with staged := none } : Drive).checkDown = { d.checkDown with staged := none } := by
  unfold Drive.checkDown
  dsimp only
  split
  · split <;> rfl
  · rfl

namespace Drive.Lawful

variable {d : Drive} {claim vNom : Nat} (h : d.Lawful claim vNom)
include h

theorem mono {claim' : Nat} (le : claim ≤ claim') : d.Lawful claim' vNom := ⟨h.covered.mono le, h.inRange, h.down⟩

theorem recover {claim' : Nat} (covered : d.CoveredBy claim' vNom) : d.Lawful claim' vNom := ⟨covered, h.inRange, h.down⟩

theorem noChange_of_ended (ended : d.status = .ended) : d.rangeChange = .none := by
  by_contra change
  rcases h.down change with ⟨-, -, status⟩ | ⟨status, -⟩ <;> simp [ended] at status

theorem holdLevel (noChange : d.rangeChange = .none) : d.holdLevel.Lawful claim vNom where
  covered := h.covered.of_span_le d.span_holdLevel_le
  inRange := h.inRange.of_inForce_le rfl (by simp [Drive.inForce, GenSet.peak]) (fun _ k => k) (fun k => k)
  down changing := absurd noChange changing

theorem takeForce {g : GenSet} (noChange : d.rangeChange = .none) (covers : Covers claim vNom g.peak)
    (limit : g.peak ≤ d.range.limit) : (d.takeForce g).Lawful claim vNom where
  covered := by
    rw [Drive.coveredBy_iff]
    have covered := (d.coveredBy_iff claim vNom).1 h.covered
    refine Covers.mono ?_ (d.span_takeForce_le g)
    rcases max_choice d.span g.peak with k | k <;> rw [k]
    exacts [covered, covers]
  inRange := ⟨h.inRange.1, (g.settled_peak_le d.level).trans limit, fun _ k => nomatch k⟩
  down changing := absurd noChange changing

/-- A request goes on with nothing in its way: in force at once, or behind the range change of an APPLY (R73, R78). -/
theorem proceed {g : GenSet} {range : Option LoadRange} (noChange : d.rangeChange = .none)
    (covers : Covers claim vNom g.peak) (limit : g.peak ≤ (range.getD d.range).limit) :
    (d.proceed g range).Lawful claim vNom := by
  unfold Drive.proceed
  split
  next r =>
    split
    next same => exact h.takeForce noChange covers (by simpa [same] using limit)
    next other =>
      refine ⟨⟨h.covered.1, Covers.zero claim vNom, ?_⟩, ⟨h.inRange.1, Nat.zero_le _, ?_⟩, fun _ => .inr ⟨rfl, ⟨g.slope, rfl⟩, r, rfl⟩⟩
      · rintro st ⟨⟩
        exact covers
      · rintro st ⟨⟩
        exact ⟨limit, fun none => nomatch none⟩
  · exact h.takeForce noChange covers limit

/-- A set waits: covered and within the range it is to run in. -/
theorem setStaged {g : GenSet} {range : Option LoadRange} (covers : Covers claim vNom g.peak)
    (limit : g.peak ≤ (range.getD d.range).limit) (zero : range = none → d.rangeChange ≠ .none → g.peak = 0) :
    { d with staged := some ⟨g, range⟩ }.Lawful claim vNom where
  covered := ⟨h.covered.1, h.covered.2.1, by rintro st ⟨⟩; exact covers⟩
  inRange := ⟨h.inRange.1, h.inRange.2.1, by rintro st ⟨⟩; exact ⟨limit, zero⟩⟩
  down := h.down

omit h in
theorem noChange_of_not_busy (free : d.busy = false) : d.rangeChange = .none := by
  simp only [Drive.busy, Bool.or_eq_false_iff, bne_eq_false_iff_eq] at free
  exact free.1.2

theorem stage {g : GenSet} {req : Request} (covers : Covers claim vNom g.peak)
    (limit : g.peak ≤ (req.range.getD d.range).limit)
    (zero : req.range = none → d.rangeChange ≠ .none → g.peak = 0) : (d.stage g req).Lawful claim vNom := by
  cases req with
  | plain =>
    unfold Drive.stage
    dsimp only
    split
    · exact h
    split
    · exact h.setStaged covers limit (fun _ => zero rfl)
    next free => exact h.proceed (noChange_of_not_busy (by simpa using free)) covers limit
  | applying r =>
    have cleared : { d with dropHold := false }.Lawful claim vNom := h.of_motion (by rfl)
    unfold Drive.stage
    dsimp only
    split
    · exact cleared.setStaged covers limit (fun none => nomatch none)
    next free =>
      have free : d.busy = false := by simpa using free
      exact cleared.proceed (noChange_of_not_busy (d := d) free) covers limit
  | winddown =>
    unfold Drive.stage
    dsimp only
    split
    · exact h.setStaged covers limit (fun _ => zero rfl)
    next free => exact h.proceed (noChange_of_not_busy (by simpa using free)) covers limit

/-- The winddown ramp is staged in any drive unit (R84). -/
theorem stage_winddown (slope : Nat) : (d.stage (.ramp none 0 slope) .winddown).Lawful claim vNom :=
  h.stage (Covers.zero claim vNom) (Nat.zero_le _) (fun _ _ => rfl)

theorem releaseStaged : d.releaseStaged.Lawful claim vNom := by
  unfold Drive.releaseStaged
  split
  next st staged =>
    split
    · exact h
    next free =>
      exact h.proceed (noChange_of_not_busy (by simpa using free)) (h.covered.2.2 st staged) (h.inRange.2.2 st staged).1
  · exact h

omit h in
theorem tripDrop : d.tripDrop.Lawful claim vNom := by
  refine .of_zero ?_ ?_ ?_ ?_ claim vNom <;> simp [Drive.tripDrop, Drive.endCoupling_eq]

theorem halt : d.halt.Lawful claim vNom := by
  have discarded : { d with staged := none }.Lawful claim vNom :=
    ⟨⟨h.covered.1, h.covered.2.1, fun _ k => nomatch k⟩, ⟨h.inRange.1, h.inRange.2.1, fun _ k => nomatch k⟩, h.down⟩
  have halted : ({ d with staged := none } : Drive).haltSet.Lawful claim vNom := by
    unfold Drive.haltSet
    split
    next lo hi period high cycles noChange active status =>
      have low : lo ≤ d.active.peak := by rw [show d.active = _ from active]; exact le_max_left _ _
      refine .of_motion (d := ({ d with staged := none, level := lo * 1000 } : Drive).holdLevel) (by rfl)
        (holdLevel ⟨⟨?_, h.covered.2.1, fun _ k => nomatch k⟩, ⟨?_, h.inRange.2.1, fun _ k => nomatch k⟩, fun k => absurd noChange k⟩ noChange)
      · exact h.covered.2.1.mono (by dsimp only; omega)
      · have := h.inRange.2.1; dsimp only; omega
    next noChange _ => exact discarded.holdLevel noChange
    · exact discarded
  rw [Drive.halt, Drive.endResetPulse_eq, Drive.endCoupling_eq]
  exact ⟨halted.covered, halted.inRange, halted.down⟩

/-- DOWN of a range change steps to 0 and stays on its way (R78). -/
theorem update : d.update.Lawful claim vNom where
  covered := h.covered.of_span_le d.span_update_le
  inRange := by
    have moved : d.update.inForce ≤ d.inForce := by
      have unstaged : ({ d with staged := none } : Drive).update = { d.update with staged := none } := by
        simp only [Drive.update, d.act_unstaged, d.act.checkDown_unstaged]
      have bound := Drive.span_update_le { d with staged := none }
      rw [unstaged] at bound
      simpa [Drive.span, Drive.inForce] using bound
    refine h.inRange.of_inForce_le (by simp) moved (by simp) fun changing none => changing ?_
    rw [Drive.update_of_noChange none]
    exact (d.act_rangeChange).trans none
  down changing := by
    have change : d.rangeChange ≠ .none := by
      intro none
      rw [Drive.update_of_noChange none] at changing
      exact changing ((d.act_rangeChange).trans none)
    rcases h.down change with ⟨level, active, status⟩ | ⟨status, ⟨slope, active⟩, target, change⟩
    · left
      unfold Drive.update Drive.checkDown
      rw [Drive.act_of_rest status]
      split
      · split <;> simp [Drive.holdLevel, *]
      · exact ⟨level, active, status⟩
    · have moved : d.act = { d with
          level := rampUpdate d.level 0 slope
          status := if rampUpdate d.level 0 slope = 0 then .ended else .acting } := by
        simp [Drive.act, status, active]
      unfold Drive.update Drive.checkDown
      rw [moved]
      simp only [change]
      split
      next landed => exact .inl ⟨landed, by simp [Drive.holdLevel, landed], rfl⟩
      next => exact .inr ⟨by simp, ⟨slope, active⟩, target, rfl⟩

theorem endDown {target : LoadRange} (due : d.rangeChange = .down target true) : d.endDown.Lawful claim vNom := by
  have changing : d.rangeChange ≠ .none := by simp [due]
  have landed : d.level = 0 ∧ d.active = .level 0 ∧ d.status = .rest := by
    rcases h.down changing with landed | ⟨-, -, target', running⟩
    · exact landed
    · simp [due] at running
  have endDown : d.endDown = { d with
      loadEnable := false, range := target, relayCount := Config.relayWait, rangeChange := .relayWait } := by
    simp [Drive.endDown, due]
  obtain ⟨-, -, waits⟩ := h.inRange
  rw [endDown]
  refine ⟨h.covered, ⟨by simp [landed], by simp [landed, GenSet.peak], fun st staged => ?_⟩, fun _ => .inl landed⟩
  obtain ⟨limit, zero⟩ := waits st staged
  refine ⟨?_, fun none _ => zero none changing⟩
  cases range : st.range with
  | none => simp [zero range changing]
  | some r => simpa [range] using limit

/-- The drive unit at the end of a range change, before the set that waits goes on (R78). -/
theorem relayDone : ({ d with
    loadEnable := true, loadRequest := false, rangeChange := .none, rangeChanged := true } : Drive).Lawful claim vNom :=
  ⟨h.covered, h.inRange.of_inForce_le rfl le_rfl (fun _ k => k) (fun k => absurd rfl k), fun k => absurd rfl k⟩

theorem relayExpiry : d.relayExpiry.Lawful claim vNom := by
  unfold Drive.relayExpiry
  split
  · exact h.relayDone.releaseStaged
  · exact h.of_motion (by rfl)

theorem endCycle : d.endCycle.Lawful claim vNom := by
  have counted : ({ d with
      completed := min (d.completed + 1) Config.cyclesCeiling, cycleEnded := false } : Drive).Lawful claim vNom :=
    h.of_motion (by rfl)
  unfold Drive.endCycle
  dsimp only
  split
  next lo hi period high cycles active =>
    have noChange : d.rangeChange = .none := by
      by_contra change
      rcases h.down change with ⟨-, level, -⟩ | ⟨-, ⟨slope, ramp⟩, -⟩ <;> simp_all
    have low : lo ≤ d.active.peak := by rw [active]; exact le_max_left _ _
    split
    · refine .of_motion (d := ({ d with level := lo * 1000 } : Drive).holdLevel) (by rfl)
        (holdLevel ⟨⟨?_, h.covered.2.1, h.covered.2.2⟩, ⟨?_, h.inRange.2⟩, fun k => absurd noChange k⟩ noChange)
      · exact h.covered.2.1.mono (by dsimp only; omega)
      · have := h.inRange.2.1; dsimp only; omega
    · split
      next st staged =>
        split
        · exact counted
        · exact (counted.holdLevel noChange).proceed noChange (h.covered.2.2 st staged) (h.inRange.2.2 st staged).1
      · exact counted
  · exact counted

end Drive.Lawful

end Sys2Proof.Machine

/-! ## The claim law and the clamp law: what is in force in each phase -/

namespace Sys2Proof.Machine

/-- A set that is no pulse. -/
def GenSet.Steady (g : GenSet) : Prop := ∀ lo hi period high cycles, g ≠ .pulse lo hi period high cycles

theorem GenSet.Steady.ramp (start : Option Nat) (stop slope : Nat) : (GenSet.ramp start stop slope).Steady :=
  fun _ _ _ _ _ h => nomatch h

theorem GenSet.Steady.level (target : Nat) : (GenSet.level target).Steady := fun _ _ _ _ _ h => nomatch h

theorem GenSet.Steady.clamp {g : GenSet} (steady : g.Steady) (limit : Nat) : (g.clamp limit).Steady := by
  cases g with
  | pulse lo hi period high cycles => exact absurd rfl (steady lo hi period high cycles)
  | level target => exact .level _
  | ramp start stop slope => exact .ramp _ _ _

theorem GenSet.Steady.settled {g : GenSet} (steady : g.Steady) (level : Nat) : (g.settled level).Steady := by
  unfold GenSet.settled
  split
  · exact .ramp _ _ _
  · exact steady

theorem Drive.steady_of_active {d : Drive} (h : d.active.Steady) : d.Steady := h

/-! ### Still, Free and Unrequested -/

theorem Drive.Still.free {d : Drive} (still : d.Still) : d.Free := ⟨still.2.2.1, still.2.2.2⟩

theorem Drive.Still.steady {d : Drive} (still : d.Still) : d.Steady := by
  refine Drive.steady_of_active ?_
  rw [still.1]
  exact .level _

theorem Drive.Free.not_busy {d : Drive} (free : d.Free) (steady : d.Steady) : d.busy = false := by
  obtain ⟨-, change, coupling⟩ := free
  have noPulse : d.pulsing = false := by
    unfold Drive.pulsing
    split
    next active _ => exact absurd active (steady _ _ _ _ _)
    · rfl
  simp [Drive.busy, change, coupling, noPulse]

theorem Drive.Free.hold {d : Drive} (free : d.Free) : d.holdLevel.Still := ⟨rfl, rfl, free⟩

/-- A step's own request leaves nothing waiting: it takes force, or drop hold discards it (R73, R79). -/
theorem Drive.Free.stage {d : Drive} (free : d.Free) (steady : d.Steady) (g : GenSet) :
    (d.stage g .plain).Free ∧ (g.Steady → (d.stage g .plain).Steady) := by
  cases hold : d.dropHold with
  | true => rw [d.stage_plain_of_dropHold g hold]; exact ⟨free, fun _ => steady⟩
  | false =>
    rw [d.stage_plain_of_free g hold (free.not_busy steady)]
    exact ⟨⟨rfl, free.2⟩, fun k => Drive.steady_of_active (k.settled d.level)⟩

theorem Drive.Still.stage {d : Drive} (still : d.Still) (g : GenSet) :
    (d.stage g .plain).Free ∧ (g.Steady → (d.stage g .plain).Steady) :=
  still.free.stage still.steady g

/-- A halt leaves the level held, or the range change of a halted APPLY (R75). -/
theorem Drive.halt_unrequested (d : Drive) : d.halt.Unrequested := by
  have motion : d.halt.motion = (({ d with staged := none } : Drive).haltSet.endCoupling).motion := by
    rw [Drive.halt, Drive.endResetPulse_eq]; rfl
  refine Drive.Unrequested.of_motion motion ?_
  rw [Drive.endCoupling_eq]
  unfold Drive.haltSet
  split
  next noChange _ _ => exact .inl ⟨rfl, rfl, rfl, noChange, rfl⟩
  next noChange _ => exact .inl ⟨rfl, rfl, rfl, noChange, rfl⟩
  next other _ => exact .inr ⟨fun noChange => other noChange, rfl, rfl⟩

/-- A trip drop leaves nothing in force but a range change (R79). -/
theorem Drive.tripDrop_unrequested (d : Drive) : d.tripDrop.Unrequested := by
  by_cases change : d.rangeChange = .none
  · exact .inl (by simp [Drive.Still, Drive.tripDrop, Drive.endCoupling_eq, change])
  · exact .inr (by simp [Drive.tripDrop, Drive.endCoupling_eq, change])

theorem Drive.tripDrop_still {d : Drive} (noChange : d.rangeChange = .none) : d.tripDrop.Still := by
  simp [Drive.Still, Drive.tripDrop, Drive.endCoupling_eq, noChange]

theorem Drive.immediateDrop_still (d : Drive) : d.immediateDrop.Still := ⟨rfl, rfl, rfl, rfl, rfl⟩

theorem Drive.Unrequested.coupling {d : Drive} (h : d.Unrequested) : d.coupling = .none := by
  rcases h with ⟨-, -, -, -, coupling⟩ | ⟨-, -, coupling⟩ <;> exact coupling

theorem Drive.Unrequested.staged {d : Drive} (h : d.Unrequested) : d.staged = none := by
  rcases h with ⟨-, -, staged, -, -⟩ | ⟨-, staged, -⟩ <;> exact staged

theorem Drive.Unrequested.still {d : Drive} (h : d.Unrequested) (noChange : d.rangeChange = .none) : d.Still :=
  h.resolve_right fun k => k.1 noChange

theorem Drive.endResetPulse_motion (d : Drive) : d.endResetPulse.motion = d.motion := by
  rw [Drive.endResetPulse_eq]; rfl

/-- APPLY stages its set: in force at once, or behind a range change, its own or a halted one's (R73, R78). -/
theorem Drive.Unrequested.stage_applying {d : Drive} (h : d.Unrequested) {stop peak : Nat} (slope : Nat)
    (range : LoadRange) (le : stop ≤ peak) :
    (d.stage (.ramp none stop slope) (.applying range)).Applies peak := by
  unfold Drive.stage
  dsimp only
  rcases h with still | ⟨change, -, coupling⟩
  · rw [if_neg (by simp [still.free.not_busy still.steady])]
    obtain ⟨-, -, -, noChange, coupling⟩ := still
    unfold Drive.proceed
    dsimp only
    split
    · exact ⟨coupling, stop, slope, le, .inr ⟨noChange, rfl, rfl, .inl rfl⟩⟩
    · exact ⟨coupling, stop, slope, le, .inl ⟨by simp [Drive.beginRangeChange], range, rfl⟩⟩
  · rw [if_pos (by simp [Drive.busy, change])]
    exact ⟨coupling, stop, slope, le, .inl ⟨change, range, rfl⟩⟩

/-! ### Under one update -/

theorem Drive.Still.update {d : Drive} (still : d.Still) : d.update.Still := by
  obtain ⟨active, status, staged, change, coupling⟩ := still
  rw [Drive.update_of_noChange change, Drive.act_of_rest status]
  exact ⟨active, status, staged, change, by simp [coupling, Coupling.tick]⟩

theorem Drive.update_rangeChange_ne {d : Drive} (h : d.rangeChange ≠ .none) : d.update.rangeChange ≠ .none := by
  unfold Drive.update Drive.checkDown
  dsimp only
  (repeat' split) <;> simp [h]

theorem Drive.Unrequested.update {d : Drive} (h : d.Unrequested) : d.update.Unrequested := by
  rcases h with still | ⟨change, staged, coupling⟩
  · exact .inl still.update
  · exact .inr ⟨Drive.update_rangeChange_ne change, by simp [staged], by simp [coupling, Coupling.tick]⟩

theorem Drive.Free.update {d : Drive} (free : d.Free) : d.update.Free := by
  obtain ⟨staged, change, coupling⟩ := free
  rw [Drive.update_of_noChange change]
  exact ⟨by simp [staged], by simp [change], by simp [coupling, Coupling.tick]⟩

theorem Drive.Steady.act {d : Drive} (steady : d.Steady) : d.act.Steady := by
  unfold Drive.act
  split
  · exact steady
  · exact GenSet.Steady.ramp _ _ _
  · exact steady
  next active => exact absurd active (steady _ _ _ _ _)
  · exact steady

theorem Drive.Steady.update {d : Drive} (steady : d.Steady) (noChange : d.rangeChange = .none) : d.update.Steady := by
  rw [Drive.update_of_noChange noChange]
  exact steady.act

theorem Drive.Applies.update {d : Drive} {peak : Nat} (h : d.Applies peak) : d.update.Applies peak := by
  obtain ⟨coupling, stop, slope, le, waits | runs⟩ := h
  · obtain ⟨change, range, staged⟩ := waits
    exact ⟨by simp [coupling, Coupling.tick], stop, slope, le,
      .inl ⟨Drive.update_rangeChange_ne change, range, by simp [staged]⟩⟩
  · obtain ⟨change, staged, active, status⟩ := runs
    rw [Drive.update_of_noChange change]
    refine ⟨by simp [coupling, Coupling.tick], stop, slope, le, .inr ⟨by simp [change], by simp [staged], ?_⟩⟩
    rcases status with status | ⟨status, level⟩
    · simp only [Drive.act, status, active, true_and]
      split
      next landed => exact .inr ⟨rfl, landed⟩
      · exact .inl rfl
    · simp [Drive.act, status, active, level]

/-- What keeps each shape of the drive unit keeps what fits a phase. -/
theorem Drive.FitsPhase.imp {d d' : Drive} {c : StepContext} {p : Phase} (fits : d.FitsPhase c p)
    (applies : d.Applies c.record.body.peak → d'.Applies c.record.body.peak) (still : d.Still → d'.Still)
    (free : d.Free → d'.Free) (steady : d.Free → d.Steady → d'.Steady)
    (dropout : d.active = .level d.level ∧ d.status = .rest ∧ d.staged = none ∧ d.rangeChange = .none →
      d'.active = .level d'.level ∧ d'.status = .rest ∧ d'.staged = none ∧ d'.rangeChange = .none)
    (unrequested : d.Unrequested → d'.Unrequested) : d'.FitsPhase c p := by
  have both : d.Free ∧ d.Steady → d'.Free ∧ d'.Steady := fun h => ⟨free h.1, steady h.1 h.2⟩
  cases p with
  | applying => exact applies fits
  | settle => exact still fits
  | body =>
    simp only [Drive.FitsPhase] at fits ⊢
    cases kind : c.record.kind <;> simp only [kind] at fits ⊢
    case none | hold => exact still fits
    case recover | derate =>
      split at fits
      next ramping => rw [if_pos ramping]; exact both fits
      next other => rw [if_neg other]; exact still fits
    case dropout => exact dropout fits
    case pulse => exact free fits
    all_goals exact both fits
  | exiting => exact ⟨free fits.1, fun other => steady fits.1 (fits.2 other)⟩
  | _ => exact unrequested fits

theorem Drive.FitsPhase.update {d : Drive} {c : StepContext} {p : Phase} (fits : d.FitsPhase c p) :
    d.update.FitsPhase c p := by
  refine fits.imp Drive.Applies.update Drive.Still.update Drive.Free.update (fun free k => k.update free.2.1) ?_
    Drive.Unrequested.update
  rintro ⟨active, status, staged, change⟩
  rw [Drive.update_of_noChange change, Drive.act_of_rest status]
  exact ⟨active, status, staged, change⟩

/-- What a step may have in force in BODY is one of four shapes; all leave the range where it is. -/
theorem Drive.FitsPhase.body_cases {d : Drive} {c : StepContext} (fits : d.FitsPhase c .body) :
    d.Still ∨ (d.Free ∧ d.Steady) ∨ (c.record.kind = .pulse ∧ d.Free)
      ∨ (c.record.kind = .dropout ∧ d.active = .level d.level ∧ d.status = .rest ∧ d.staged = none
        ∧ d.rangeChange = .none) := by
  simp only [Drive.FitsPhase] at fits
  cases kind : c.record.kind <;> simp only [kind] at fits
  case none | hold => exact .inl fits
  case recover | derate =>
    split at fits
    · exact .inr (.inl fits)
    · exact .inl fits
  case dropout => exact .inr (.inr (.inr ⟨rfl, fits⟩))
  case pulse => exact .inr (.inr (.inl ⟨rfl, fits⟩))
  all_goals exact .inr (.inl fits)

/-! ### In BODY and EXIT nothing waits and the range stands -/

theorem Drive.FitsPhase.noChange {d : Drive} {c : StepContext} {p : Phase} (fits : d.FitsPhase c p)
    (phase : p = .settle ∨ p = .body ∨ p = .exiting) : d.rangeChange = .none ∧ d.staged = none := by
  rcases phase with rfl | rfl | rfl
  · exact ⟨fits.2.2.2.1, fits.2.2.1⟩
  · rcases fits.body_cases with still | ⟨free, -⟩ | ⟨-, free⟩ | ⟨-, -, -, staged, change⟩
    exacts [⟨still.2.2.2.1, still.2.2.1⟩, ⟨free.2.1, free.1⟩, ⟨free.2.1, free.1⟩, ⟨change, staged⟩]
  · exact ⟨fits.1.2.1, fits.1.1⟩

/-- The level held fits every phase but APPLY. -/
theorem Drive.Still.fits {d : Drive} (still : d.Still) {c : StepContext} {p : Phase} (phase : p ≠ .applying) :
    d.FitsPhase c p := by
  cases p with
  | applying => exact absurd rfl phase
  | settle => exact still
  | body =>
    simp only [Drive.FitsPhase]
    cases c.record.kind <;> dsimp only
    case none | hold => exact still
    case recover | derate =>
      split
      · exact ⟨still.free, still.steady⟩
      · exact still
    case dropout => exact ⟨still.1, still.2.1, still.2.2.1, still.2.2.2.1⟩
    case pulse => exact still.free
    all_goals exact ⟨still.free, still.steady⟩
  | exiting => exact ⟨still.free, fun _ => still.steady⟩
  | _ => exact .inl still

end Sys2Proof.Machine

/-! ## The claim law and the clamp law: with a step in progress, and between steps

`State.LoadCovered` is split into what it asks of every state (`State.Lawful`) and what it asks beside: with no step in
progress that the step's own protocol, coupling, windows and detectors stand (`State.Unattended`), and with a step in
progress what its phase allows (`State.Runs`). -/

namespace Sys2Proof.Machine

/-- The load is covered by the claim and within its range, and every record starts at or below its peak. -/
structure State.Lawful (s : State) : Prop where
  drive : s.drive.Lawful s.bay.drivenClaim s.engine.ratings.vNom
  slots : ∀ page index, (s.store.slot page index).body.start ≤ (s.store.slot page index).body.peak

/-- A COUNTED window is open or waits. -/
def Window.CountsLive (w : Window) : Prop := w.mode = .counted ∧ (w.state = .opened ∨ w.state = .waiting)

/-- Nothing of a step stands in the blocks. -/
structure State.Unattended (s : State) : Prop where
  protocol : s.bay.protocol = .idle
  coupling : s.drive.coupling = .none
  window : ¬ s.acq.window.CountsLive
  detectors : s.acq.detectors.Quiet

/-- A step is in progress, with what its phase allows. -/
structure State.Runs (s : State) (p : Phase) (c : StepContext) : Prop where
  stepIn : s.StepIn p c
  lawful : s.Lawful
  start : c.record.body.start ≤ c.record.body.peak
  fits : s.drive.FitsPhase c p
  claim : p ≠ .admitting ∧ p ≠ .backoff ∨ s.bay.protocol = .raising →
    Covers s.bay.drivenClaim s.engine.ratings.vNom c.record.body.peak
  pulse : c.stage = .resetPulse → p = .body ∧ c.record.kind = .recover
  capture : c.record.kind.tripKind = true → s.acq.capture.mode = .trip → s.acq.capture.state = .collecting →
    p = .exiting ∧ s.drive.Still
  protocol : s.bay.protocol ≠ .idle → s.bay.protocol.phase = p
    ∧ (s.bay.protocol = .raising ∨ s.bay.protocol = .backoff →
      s.bay.priorClaim ≤ claimOf c.record.body.peak s.engine.ratings.vNom
        ∧ s.drive.CoveredBy s.bay.priorClaim s.engine.ratings.vNom)
  coupling : s.drive.coupling ≠ .none → p = .body ∧ c.record.kind = .dropout
  window : s.acq.window.CountsLive → p = .body ∧ (c.record.kind = .hold
    ∨ (c.record.kind = .recover ∧ c.stage = .watch) ∨ (c.record.kind = .derate ∧ c.stage = .reference))
  trips : s.acq.detectors.collapse ≠ none ∨ s.acq.detectors.alarmArmed = true → p = .body ∨ p = .exiting
  regulation : s.acq.detectors.regulation ≠ none → p = .body ∧ c.record.kind = .recover ∧ c.stage = .regulationWait
  knee : s.acq.detectors.knee ≠ none → p = .body ∧ c.record.kind = .derate ∧ c.stage = .kneeRamp

theorem State.StepIn.unique {s : State} {p q : Phase} {c c' : StepContext} (h : s.StepIn p c) (k : s.StepIn q c') :
    p = q ∧ c = c' :=
  ⟨h.2.2.2.symm.trans k.2.2.2, Option.some.inj (h.2.1.symm.trans k.2.1)⟩

theorem State.StepIn.stepping {s : State} {p : Phase} {c : StepContext} (h : s.StepIn p c) :
    s.engine.stepping = true := by
  obtain ⟨walk, step, noRecord, -⟩ := h
  simp [Engine.stepping, walk, step, noRecord]

theorem State.stepIn_of_stepping {s : State} (h : s.engine.stepping = true) :
    ∃ c, s.StepIn s.engine.phase c := by
  obtain ⟨walk, step, noRecord⟩ := (Engine.stepping_iff _).1 h
  obtain ⟨c, step⟩ := Option.isSome_iff_exists.1 step
  exact ⟨c, walk, step, noRecord, rfl⟩

theorem State.Runs.loadCovered {s : State} {p : Phase} {c : StepContext} (h : s.Runs p c) : s.LoadCovered := by
  obtain ⟨walk, -, noRecord, -⟩ := id h.stepIn
  refine ⟨h.lawful.drive.covered, h.lawful.drive.inRange, h.lawful.drive.down, h.lawful.slots, fun q c' k => ?_,
    fun k => ?_, fun k => ?_, fun mode state => ?_, fun k => ?_, fun k => ?_, fun k => ?_, ?_, by simp [walk]⟩
  · obtain ⟨rfl, rfl⟩ := h.stepIn.unique k
    exact ⟨h.start, h.fits, h.claim, h.pulse, h.capture⟩
  · obtain ⟨phase, prior⟩ := h.protocol k
    exact ⟨c, phase ▸ h.stepIn, prior⟩
  · obtain ⟨rfl, kind⟩ := h.coupling k
    exact ⟨c, h.stepIn, kind⟩
  · obtain ⟨rfl, kind⟩ := h.window ⟨mode, state⟩
    exact ⟨c, h.stepIn, kind⟩
  · exact ⟨p, c, h.stepIn, h.trips k⟩
  · obtain ⟨rfl, kind⟩ := h.regulation k
    exact ⟨c, h.stepIn, kind⟩
  · obtain ⟨rfl, kind⟩ := h.knee k
    exact ⟨c, h.stepIn, kind⟩
  · simp [walk, noRecord]

theorem State.LoadCovered.lawful {s : State} (h : s.LoadCovered) : s.Lawful :=
  ⟨⟨h.1, h.2.1, h.2.2.1⟩, h.2.2.2.1⟩

theorem State.LoadCovered.runs {s : State} (h : s.LoadCovered) {p : Phase} {c : StepContext} (stepIn : s.StepIn p c) :
    s.Runs p c := by
  have lawful := h.lawful
  obtain ⟨-, -, -, -, step, protocol, coupling, window, trips, regulation, knee, -, -⟩ := h
  obtain ⟨start, fits, claim, pulse, capture⟩ := step p c stepIn
  refine ⟨stepIn, lawful, start, fits, claim, pulse, capture, fun k => ?_, fun k => ?_, fun k => ?_, fun k => ?_,
    fun k => ?_, fun k => ?_⟩
  · obtain ⟨c', other, prior⟩ := protocol k
    obtain ⟨rfl, rfl⟩ := stepIn.unique other
    exact ⟨rfl, prior⟩
  · obtain ⟨c', other, kind⟩ := coupling k
    obtain ⟨rfl, rfl⟩ := stepIn.unique other
    exact ⟨rfl, kind⟩
  · obtain ⟨c', other, kind⟩ := window k.1 k.2
    obtain ⟨rfl, rfl⟩ := stepIn.unique other
    exact ⟨rfl, kind⟩
  · obtain ⟨q, c', other, phase⟩ := trips k
    obtain ⟨rfl, rfl⟩ := stepIn.unique other
    exact phase
  · obtain ⟨c', other, kind⟩ := regulation k
    obtain ⟨rfl, rfl⟩ := stepIn.unique other
    exact ⟨rfl, kind⟩
  · obtain ⟨c', other, kind⟩ := knee k
    obtain ⟨rfl, rfl⟩ := stepIn.unique other
    exact ⟨rfl, kind⟩

theorem State.LoadCovered.unattended {s : State} (h : s.LoadCovered) (noStep : ∀ p c, ¬ s.StepIn p c) :
    s.Unattended := by
  obtain ⟨-, -, -, -, -, protocol, coupling, window, trips, regulation, knee, -, -⟩ := h
  refine ⟨?_, ?_, fun live => ?_, ?_, ?_, ?_, ?_⟩
  · by_contra k
    obtain ⟨c, stepIn, -⟩ := protocol k
    exact noStep _ _ stepIn
  · by_contra k
    obtain ⟨c, stepIn, -⟩ := coupling k
    exact noStep _ _ stepIn
  · obtain ⟨c, stepIn, -⟩ := window live.1 live.2
    exact noStep _ _ stepIn
  · by_contra k
    obtain ⟨p, c, stepIn, -⟩ := trips (.inl k)
    exact noStep _ _ stepIn
  · by_contra k
    obtain ⟨p, c, stepIn, -⟩ := trips (.inr (by simpa using k))
    exact noStep _ _ stepIn
  · by_contra k
    obtain ⟨c, stepIn, -⟩ := regulation k
    exact noStep _ _ stepIn
  · by_contra k
    obtain ⟨c, stepIn, -⟩ := knee k
    exact noStep _ _ stepIn

/-- With no step in progress and nothing of one standing, only what PAUSED, PAGE_WAIT and a waiting record ask is left. -/
theorem State.loadCovered_of_unattended {s : State} (lawful : s.Lawful) (unattended : s.Unattended)
    (noStep : ∀ p c, ¬ s.StepIn p c)
    (unrequested : s.engine.walk = .paused ∨ (s.engine.walk = .running ∧ s.engine.waiting ≠ none) → s.drive.Unrequested)
    (restFits : s.engine.walk = .pageWait → s.RestFits) : s.LoadCovered := by
  obtain ⟨protocol, coupling, window, collapse, alarm, regulation, knee⟩ := unattended
  refine ⟨lawful.drive.covered, lawful.drive.inRange, lawful.drive.down, lawful.slots,
    fun p c k => absurd k (noStep p c), fun k => absurd protocol k, fun k => absurd coupling k,
    fun mode state => absurd ⟨mode, state⟩ window, ?_, fun k => absurd regulation k, fun k => absurd knee k, unrequested,
    restFits⟩
  rintro (k | k)
  · exact absurd collapse k
  · simp [alarm] at k

theorem State.not_stepIn_of_walk {s : State} (walk : s.engine.walk ≠ .running) (p : Phase) (c : StepContext) :
    ¬ s.StepIn p c := fun h => walk h.1

theorem State.not_stepIn_of_waiting {s : State} (waits : s.engine.waiting ≠ none) (p : Phase) (c : StepContext) :
    ¬ s.StepIn p c := fun h => waits h.2.2.1

theorem State.not_stepIn_of_not_stepping {s : State} (h : s.engine.stepping = false) (p : Phase) (c : StepContext) :
    ¬ s.StepIn p c := fun k => by simp [k.stepping] at h

/-- In IDLE, HELD and WINDDOWN nothing more is asked. -/
theorem State.loadCovered_of_off {s : State} (lawful : s.Lawful) (unattended : s.Unattended)
    (walk : s.engine.walk ≠ .running ∧ s.engine.walk ≠ .paused ∧ s.engine.walk ≠ .pageWait) : s.LoadCovered :=
  State.loadCovered_of_unattended lawful unattended (State.not_stepIn_of_walk walk.1)
    (fun h => h.elim (fun k => absurd k walk.2.1) (fun k => absurd k.1 walk.1)) (fun h => absurd h walk.2.2)

/-! ### What the two look at -/

theorem State.Lawful.of_same {s t : State} (h : s.Lawful) (motion : t.drive.motion = s.drive.motion)
    (claim : t.bay.drivenClaim = s.bay.drivenClaim) (ratings : t.engine.ratings = s.engine.ratings)
    (store : t.store = s.store) : t.Lawful :=
  ⟨by rw [claim, ratings]; exact h.drive.of_motion motion, by rw [store]; exact h.slots⟩

/-- What of the blocks the laws of a step look at. -/
def State.inPlay (s : State) := (s.drive.motion, (s.bay.drivenClaim, s.bay.priorClaim, s.bay.protocol), s.engine.ratings,
  s.store, (s.acq.window.mode, s.acq.window.state), s.acq.detectors, s.acq.capture.mode, s.acq.capture.state)

/-- What leaves alone what is in play, and the record and the stage of the step, keeps its laws. -/
theorem State.Runs.of_same {s t : State} {p : Phase} {c c' : StepContext} (h : s.Runs p c) (stepIn : t.StepIn p c')
    (record : c'.record = c.record) (stage : c'.stage = c.stage) (same : t.inPlay = s.inPlay) : t.Runs p c' := by
  simp only [State.inPlay, Prod.mk.injEq] at same
  obtain ⟨motion, ⟨claim, prior, protocol⟩, ratings, store, ⟨mode, state⟩, detectors, captureMode, captureState⟩ := same
  have coupling : t.drive.coupling = s.drive.coupling := by
    simp only [Drive.motion, Prod.mk.injEq] at motion
    exact motion.2.2.2.2.2.2
  have fits : t.drive.FitsPhase c' p := by
    have fits := h.fits.of_motion motion
    cases p <;> simpa only [Drive.FitsPhase, record, stage] using fits
  have covered (claim : Nat) (k : s.drive.CoveredBy claim s.engine.ratings.vNom) :
      t.drive.CoveredBy claim s.engine.ratings.vNom :=
    ((Drive.Lawful.mk k h.lawful.drive.inRange h.lawful.drive.down).of_motion motion).covered
  refine ⟨stepIn, h.lawful.of_same motion claim ratings store, ?_, fits, ?_, ?_, ?_, ?_, ?_, ?_, ?_, ?_, ?_⟩
  · rw [record]; exact h.start
  · rw [record, protocol, claim, ratings]; exact h.claim
  · rw [record, stage]; exact h.pulse
  · rw [record, captureMode, captureState]
    exact fun kind mode state => (h.capture kind mode state).imp_right fun still => still.of_motion motion
  · rw [record, protocol, prior, ratings]
    exact fun k => (h.protocol k).imp_right fun l m => (l m).imp_right (covered _)
  · rw [record, coupling]; exact h.coupling
  · rw [record, stage, Window.CountsLive, mode, state]; exact h.window
  · rw [detectors]; exact h.trips
  · rw [record, stage, detectors]; exact h.regulation
  · rw [record, stage, detectors]; exact h.knee

/-! ### The end of a step -/

/-- A step that ends with nothing requested of the drive unit leaves its STEP_RESULT waiting, and nothing of itself. -/
theorem State.endStep_loadCovered {s : State} {c : StepContext} (walk : s.engine.walk = .running)
    (step : s.engine.step = some c) (lawful : s.Lawful) (unrequested : s.drive.Unrequested) (cause : EndCause)
    (vs : List Verdict) : (s.endStep cause vs).LoadCovered := by
  obtain ⟨claim, -, protocol, -⟩ := s.endBay_spec cause vs c
  have ended : (s.endStep cause vs).drive.Lawful s.bay.drivenClaim s.engine.ratings.vNom
      ∧ (s.endStep cause vs).drive.Unrequested := by
    have calm := lawful.drive.of_motion s.drive.endResetPulse_motion
    have still := unrequested.of_motion s.drive.endResetPulse_motion
    rw [s.endStep_drive cause vs c step]
    unfold State.endDrive
    split
    · exact ⟨Drive.Lawful.tripDrop, Drive.tripDrop_unrequested _⟩
    · split
      · exact ⟨Drive.Lawful.tripDrop, Drive.tripDrop_unrequested _⟩
      · exact ⟨calm, still⟩
  have engine := s.endStep_engine cause vs c step
  refine State.loadCovered_of_unattended ⟨?_, ?_⟩ ⟨?_, ended.2.coupling, ?_, ?_⟩ (State.not_stepIn_of_waiting ?_)
    (fun _ => ended.2) (fun k => ?_)
  · rw [s.endStep_bay cause vs c step, claim, engine]
    exact ended.1
  · rw [s.endStep_store cause vs]
    exact lawful.slots
  · rw [s.endStep_bay cause vs c step]
    exact protocol
  · rw [s.endStep_acq cause vs c step]
    simp [Window.CountsLive, Window.close]
  · rw [s.endStep_acq cause vs c step]
    exact ⟨rfl, rfl, rfl, rfl⟩
  · simp [engine]
  · simp [engine, walk] at k

end Sys2Proof.Machine

/-! ## The claim law and the clamp law: from step to step -/

namespace Sys2Proof.Machine

theorem Drive.stage_coupling (d : Drive) (g : GenSet) (req : Request) : (d.stage g req).coupling = d.coupling := by
  unfold Drive.stage Drive.proceed Drive.takeForce Drive.beginRangeChange
  cases req <;> dsimp only <;> repeat' split
  all_goals rfl

/-- Between two steps of a walk: nothing of a step stands, and nothing is requested of the drive unit. -/
structure State.Between (s : State) : Prop where
  lawful : s.Lawful
  unattended : s.Unattended
  unrequested : s.drive.Unrequested

/-- WINDDOWN is entered with nothing of a step standing (R41, R84). -/
theorem State.enterWinddown_loadCovered {s : State} (lawful : s.Lawful) (unattended : s.Unattended) (reason : Reason) :
    (s.enterWinddown reason).LoadCovered := by
  obtain ⟨protocol, coupling, window, detectors⟩ := unattended
  have line : Drive.Lawful { s.drive with lineSetpoint := s.engine.ratings.lineNominal } s.bay.drivenClaim
      s.engine.ratings.vNom := lawful.drive.of_motion (by rfl)
  refine State.loadCovered_of_off ⟨by simpa using line.stage_winddown _, by simpa using lawful.slots⟩
    ⟨by simpa using protocol, ?_, by simpa using window, by simpa using detectors⟩ (by simp)
  simpa [Drive.stage_coupling] using coupling

namespace State.Between

variable {s : State} (h : s.Between)
include h

theorem takePause (index : Nat) : (s.takePause index).LoadCovered := by
  refine State.loadCovered_of_unattended ⟨h.lawful.drive, h.lawful.slots⟩
    ⟨h.unattended.protocol, h.unattended.coupling, h.unattended.window, h.unattended.detectors⟩
    (State.not_stepIn_of_walk (by simp)) (fun _ => h.unrequested) (by simp)

theorem swapTo (page : Page) : (s.swapTo page).LoadCovered := by
  refine State.loadCovered_of_unattended ⟨h.lawful.drive, h.lawful.slots⟩
    ⟨h.unattended.protocol, h.unattended.coupling, h.unattended.window, h.unattended.detectors⟩
    (State.not_stepIn_of_waiting (by simp)) (fun _ => h.unrequested) (by simp)

/-- The rest comparison leaves PAGE_WAIT with what it allows in force (R83). -/
theorem compareRest (walk : s.engine.walk = .pageWait) : s.compareRest.LoadCovered := by
  obtain ⟨lawful, ⟨protocol, coupling, window, detectors⟩, unrequested⟩ := id h
  have off (u : State) (engine : ∃ rest, u.engine = { s.engine with rest := rest }) (bay : u.bay = s.bay)
      (acq : u.acq = s.acq) (store : u.store = s.store)
      (drive : u.drive.Lawful s.bay.drivenClaim s.engine.ratings.vNom) (free : u.drive.coupling = .none)
      (fits : u.RestFits) : u.LoadCovered := by
    obtain ⟨stage, engine⟩ := engine
    have stands : u.engine.walk = .pageWait := by rw [engine]; exact walk
    exact State.loadCovered_of_unattended ⟨by rw [bay, engine]; exact drive, by rw [store]; exact lawful.slots⟩
      ⟨by rw [bay]; exact protocol, free, by rw [acq]; exact window, by rw [acq]; exact detectors⟩
      (State.not_stepIn_of_walk (by simp [stands])) (by simp [stands]) (fun _ => fits)
  by_cases change : s.drive.rangeChange = .none
  · have still := unrequested.still change
    by_cases above : s.engine.restLevel * 1000 < s.drive.level
    · rw [s.compareRest_of_above change above]
      have peak : (GenSet.ramp none s.engine.restLevel s.engine.safeSlope).peak ≤ s.drive.level / 1000 := by
        simp only [GenSet.peak, Option.getD_none]; omega
      obtain ⟨free, steady⟩ := still.stage (.ramp none s.engine.restLevel s.engine.safeSlope)
      refine off _ ⟨_, rfl⟩ rfl rfl rfl ?_ free.2.2 ⟨free, steady (.ramp _ _ _)⟩
      exact lawful.drive.stage (req := .plain) (lawful.drive.covered.1.mono peak) (peak.trans lawful.drive.inRange.1)
        (fun _ changing => absurd change changing)
    · rw [s.compareRest_of_reached change (by omega)]
      exact off _ ⟨_, rfl⟩ rfl rfl rfl lawful.drive coupling still
  · rw [s.compareRest_of_change change]
    exact off _ ⟨_, rfl⟩ rfl rfl rfl lawful.drive coupling ⟨change, unrequested.staged, coupling⟩

theorem enterPageWait : s.enterPageWait.LoadCovered := by
  unfold State.enterPageWait
  refine State.Between.compareRest ⟨⟨h.lawful.drive, h.lawful.slots⟩, ⟨h.unattended.protocol, h.unattended.coupling,
    h.unattended.window, h.unattended.detectors⟩, h.unrequested⟩ rfl

theorem pageEnd : s.pageEnd.LoadCovered := by
  unfold State.pageEnd
  split
  · exact h.swapTo _
  · exact h.enterPageWait

/-- ADMIT is entered with the claim standing as the prior claim (R51). -/
theorem beginStep (noRecord : s.engine.waiting = none) (index : Nat) :
    (s.beginStep index).Runs .admitting (s.freshContext index) where
  stepIn := ⟨rfl, rfl, noRecord, rfl⟩
  lawful := ⟨h.lawful.drive.of_motion (by rfl), h.lawful.slots⟩
  start := h.lawful.slots _ _
  fits := h.unrequested.of_motion (by rfl)
  claim k := by simp [Bay.admitEntry, h.unattended.protocol] at k
  pulse k := nomatch k
  capture _ _ k := nomatch k
  protocol k := absurd h.unattended.protocol k
  coupling k := absurd h.unattended.coupling k
  window k := by simp [Window.CountsLive, Window.reset] at k
  trips k := by
    rcases k with k | k
    · exact absurd h.unattended.detectors.1 k
    · simp [h.unattended.detectors.2.1] at k
  regulation k := absurd h.unattended.detectors.2.2.1 k
  knee k := absurd h.unattended.detectors.2.2.2 k

end State.Between

namespace State.Runs

variable {s : State} {p : Phase} {c : StepContext} (h : s.Runs p c)
include h

theorem record : s.engine.record = c.record := Engine.record_of_step h.stepIn.2.1

theorem kind : s.engine.kind = c.record.kind := Engine.kind_of_step h.stepIn.2.1

theorem endStep (unrequested : s.drive.Unrequested) (cause : EndCause) (vs : List Verdict) :
    (s.endStep cause vs).LoadCovered :=
  State.endStep_loadCovered h.stepIn.1 h.stepIn.2.1 h.lawful unrequested cause vs

/-- Before APPLY no detector is armed and no window counts. -/
theorem quiet (phase : p ≠ .body ∧ p ≠ .exiting) : s.acq.detectors.Quiet ∧ ¬ s.acq.window.CountsLive := by
  refine ⟨⟨?_, ?_, ?_, ?_⟩, fun k => phase.1 (h.window k).1⟩
  · by_contra k
    exact (h.trips (.inl k)).elim phase.1 phase.2
  · by_contra k
    exact (h.trips (.inr (by simpa using k))).elim phase.1 phase.2
  · by_contra k
    exact phase.1 (h.regulation k).1
  · by_contra k
    exact phase.1 (h.knee k).1

/-- APPLY is entered under a claim that covers the step claim, with nothing requested of the drive unit (R26, R82). -/
theorem enterApply (phase : p ≠ .body ∧ p ≠ .exiting) (unrequested : s.drive.Unrequested)
    (claim : Covers s.bay.drivenClaim s.engine.ratings.vNom c.record.body.peak) (idle : s.bay.protocol = .idle)
    (stage : c.stage ≠ .resetPulse) : s.enterApply.LoadCovered := by
  have start : s.applySet.peak ≤ c.record.body.start := by
    unfold State.applySet
    rw [h.record]
    exact (GenSet.clamp_peak_le_peak _ _).trans (by simp [GenSet.peak])
  have limit : s.applySet.peak ≤ c.record.body.range.limit := by
    unfold State.applySet
    rw [h.record]
    exact (GenSet.clamp_peak_le_limit _ _).trans (min_le_right _ _)
  have lawful : s.applyDrive.Lawful s.bay.drivenClaim s.engine.ratings.vNom := h.lawful.drive.of_motion (by rfl)
  have standing : s.applyDrive.Unrequested := unrequested.of_motion (by rfl)
  obtain ⟨quiet, window⟩ := h.quiet phase
  obtain ⟨walk, step, noRecord, -⟩ := h.stepIn
  have applies : s.enterApply.drive.Applies c.record.body.peak := by
    rw [State.enterApply_drive, h.record]
    have shape : s.applySet = .ramp none (min c.record.body.start
        (clampLimit s.engine.ratings.iMax c.record.body.range)) s.engine.safeSlope := by
      simp [State.applySet, h.record, GenSet.clamp]
    rw [shape]
    exact standing.stage_applying _ _ ((min_le_left _ _).trans h.start)
  have context : s.enterApply.engine.step = some { c with
      settleSet := settleSetOf s.engine.record
      clamped := c.clamped
        || s.applySet != GenSet.ramp none s.engine.record.body.start s.engine.safeSlope } := by
    simp [step]
  refine State.Runs.loadCovered (p := .applying) (c := { c with
      settleSet := settleSetOf s.engine.record
      clamped := c.clamped
        || s.applySet != GenSet.ramp none s.engine.record.body.start s.engine.safeSlope })
    ⟨⟨by simpa using walk, context, by simpa using noRecord, by simp⟩, ⟨?_, by simpa using h.lawful.slots⟩, h.start,
      applies, fun _ => by simpa using claim, fun k => absurd k stage, ?_, by simp [idle],
      fun k => absurd applies.1 k, by simpa using window, ?_, ?_, ?_⟩
  · simp only [State.enterApply_drive, State.enterApply_bay, State.enterApply_engine, Engine.ratings_mk,
      Engine.profile_getD, h.record]
    exact lawful.stage (claim.mono (start.trans h.start)) limit (fun none => nomatch none)
  · rw [State.enterApply_capture]
    exact fun kind mode state => absurd (h.capture kind mode state).1 phase.2
  · rw [State.enterApply_detectors]
    simp [quiet.1, quiet.2.1]
  · rw [State.enterApply_detectors]
    simp [quiet.2.2.1]
  · rw [State.enterApply_detectors]
    simp [quiet.2.2.2]

/-- The step is admitted under a claim that covers the step claim (R24). -/
theorem admitted (phase : p ≠ .body ∧ p ≠ .exiting) (unrequested : s.drive.Unrequested)
    (claim : Covers s.bay.drivenClaim s.engine.ratings.vNom c.record.body.peak) (stage : c.stage ≠ .resetPulse) :
    s.admitted.LoadCovered := by
  obtain ⟨walk, step, noRecord, phaseEq⟩ := id h.stepIn
  obtain ⟨quiet, window⟩ := h.quiet phase
  have trips : ¬ (s.acq.detectors.collapse ≠ none ∨ s.acq.detectors.alarmArmed = true) := by
    simp [quiet.1, quiet.2.1]
  have idle : (s.setBay s.bay.idleProtocol).Runs p c :=
    { stepIn := h.stepIn, lawful := ⟨h.lawful.drive, h.lawful.slots⟩, start := h.start, fits := h.fits,
      claim := fun _ => claim, pulse := h.pulse, capture := h.capture, protocol := fun k => absurd rfl k,
      coupling := h.coupling, window := h.window, trips := h.trips, regulation := h.regulation, knee := h.knee }
  rw [State.admitted_eq]
  split
  · refine State.Runs.loadCovered (p := .gate) (c := c) ⟨⟨walk, step, noRecord, rfl⟩, ⟨h.lawful.drive, h.lawful.slots⟩, h.start,
      unrequested, fun _ => claim, fun k => absurd k stage, fun kind mode state => absurd (h.capture kind mode state).1 phase.2,
      fun _ => ⟨rfl, fun k => by simp [Bay.enterQuiet] at k⟩, fun k => absurd unrequested.coupling k,
      fun k => absurd k window, fun k => absurd k trips, fun k => absurd quiet.2.2.1 k, fun k => absurd quiet.2.2.2 k⟩
  · exact idle.enterApply phase unrequested claim rfl stage

/-- An attempt raises the claim to the step claim over a prior claim that covers the load (R52). -/
theorem beginAttempt (phase : p ≠ .body ∧ p ≠ .exiting) (unrequested : s.drive.Unrequested)
    (prior : s.bay.priorClaim ≤ claimOf c.record.body.peak s.engine.ratings.vNom)
    (covered : s.drive.CoveredBy s.bay.priorClaim s.engine.ratings.vNom) (stage : c.stage ≠ .resetPulse) :
    s.beginAttempt.LoadCovered := by
  obtain ⟨walk, step, noRecord, phaseEq⟩ := h.stepIn
  obtain ⟨quiet, window⟩ := h.quiet phase
  have claimed : s.stepClaim = claimOf c.record.body.peak s.engine.ratings.vNom := by
    rw [State.stepClaim, h.record]
  refine State.Runs.loadCovered (p := .admitting) (c := c) ⟨⟨by simp [walk], by simp [step], by simp [noRecord], by simp⟩, ⟨?_, ?_⟩,
    h.start, ?_, ?_, fun k => absurd k stage, ?_, ?_, ?_, ?_, ?_, ?_, ?_⟩
  · simpa [Bay.raise, claimed] using h.lawful.drive.recover (covered.mono prior)
  · simpa using h.lawful.slots
  · simpa [Drive.FitsPhase] using unrequested
  · simp [Bay.raise, claimed, Covers]
  · simpa using fun kind mode state => absurd (h.capture kind mode state).1 phase.2
  · simpa [Bay.raise, Protocol.phase] using ⟨prior, covered⟩
  · simp [unrequested.coupling]
  · simpa using window
  · simp [quiet.1, quiet.2.1]
  · simp [quiet.2.2.1]
  · simp [quiet.2.2.2]

end State.Runs

namespace State.Between

variable {s : State} (h : s.Between)
include h

theorem enterAdmit (noRecord : s.engine.waiting = none) (index : Nat) : (s.enterAdmit index).LoadCovered := by
  have began := h.beginStep noRecord index
  have unrequested : (s.beginStep index).drive.Unrequested := began.fits
  have claimed : (s.beginStep index).stepClaim
      = claimOf (s.currentSlot index).body.peak s.engine.ratings.vNom := by
    rw [State.stepClaim, began.record, State.freshContext_record]
    simp
  unfold State.enterAdmit
  dsimp only
  split
  next driven =>
    rw [claimed] at driven
    exact began.admitted (by simp) unrequested driven (by simp [State.freshContext, StepContext.fresh])
  next above =>
    split
    · exact began.endStep unrequested _ _
    · refine began.beginAttempt (by simp) unrequested ?_ h.lawful.drive.covered (by simp [State.freshContext, StepContext.fresh])
      simp only [State.beginStep_bay, Bay.admitEntry, claimed] at above ⊢
      simpa using (not_le.1 above).le

theorem boundary (noRecord : s.engine.waiting = none) (index : Nat) : (s.boundary index).LoadCovered := by
  unfold State.boundary
  split
  · exact h.takePause index
  · exact h.enterAdmit noRecord index

theorem enterWinddown (reason : Reason) : (s.enterWinddown reason).LoadCovered :=
  State.enterWinddown_loadCovered h.lawful h.unattended reason

theorem branch (noRecord : s.engine.waiting = none) (v : Verdict) (r : StepRecord) : (s.branch v r).LoadCovered := by
  unfold State.branch
  extract_lets next
  split
  · exact h.enterWinddown _
  split
  · exact h.enterWinddown _
  split
  · exact h.enterWinddown _
  split
  · exact h.pageEnd
  split
  · exact h.enterWinddown _
  · exact h.boundary noRecord _

end State.Between

/-! ### The placing of records -/

theorem State.offerSummary_loadCovered {s : State} (covered : s.LoadCovered) (walk : s.engine.walk = .winddown) :
    s.offerSummary.LoadCovered := by
  unfold State.offerSummary
  split
  · have noStep := State.not_stepIn_of_walk (s := s) (by simp [walk])
    obtain ⟨protocol, coupling, window, detectors⟩ := covered.unattended noStep
    exact State.loadCovered_of_off ⟨covered.lawful.drive, covered.lawful.slots⟩ ⟨protocol, coupling, window, detectors⟩
      (by simp [walk])
  · exact covered

/-- A record that waits is placed, and the walk goes on (R30, R31, R39, R41). -/
theorem State.LoadCovered.placed {s : State} (covered : s.LoadCovered) (rest : s.LinesRest) {r : StepLevel}
    (waits : s.engine.waiting = some r) (queue : List Record) :
    (((s.setQueue queue).setEngine { s.engine with waiting := none }).afterPlaced r).LoadCovered := by
  have walks := (rest.2.2.2.2.2.2.1 r waits).1
  have noStep := State.not_stepIn_of_waiting (s := s) (by simp [waits])
  have lawful := covered.lawful
  have unattended := covered.unattended noStep
  obtain ⟨protocol, coupling, window, detectors⟩ := id unattended
  have off (u : State) (engine : u.engine.walk = .winddown) (ratings : u.engine.ratings = s.engine.ratings)
      (drive : u.drive = s.drive) (bay : u.bay = s.bay) (acq : u.acq = s.acq) (store : u.store = s.store) :
      u.offerSummary.LoadCovered := by
    refine State.offerSummary_loadCovered (State.loadCovered_of_off ⟨?_, ?_⟩ ⟨?_, ?_, ?_, ?_⟩ (by simp [engine])) engine
    · rw [drive, bay, ratings]; exact lawful.drive
    · rw [store]; exact lawful.slots
    · rw [bay]; exact protocol
    · rw [drive]; exact coupling
    · rw [acq]; exact window
    · rw [acq]; exact detectors
  have between (running : s.engine.walk = .running) (u : State) (ratings : u.engine.ratings = s.engine.ratings)
      (drive : u.drive = s.drive) (bay : u.bay = s.bay) (acq : u.acq = s.acq) (store : u.store = s.store) :
      u.Between := by
    have unrequested : s.drive.Unrequested :=
      covered.2.2.2.2.2.2.2.2.2.2.2.1 (.inr ⟨running, by simp [waits]⟩)
    exact ⟨⟨by rw [drive, bay, ratings]; exact lawful.drive, by rw [store]; exact lawful.slots⟩,
      ⟨by rw [bay]; exact protocol, by rw [drive]; exact coupling, by rw [acq]; exact window,
        by rw [acq]; exact detectors⟩, by rw [drive]; exact unrequested⟩
  cases r with
  | stepResult x =>
    simp only [State.afterPlaced, State.afterStepResult]
    split
    next winddown => exact off _ winddown (by simp) (by simp) (by simp) (by simp) (by simp)
    next running =>
      have running : s.engine.walk = .running := walks.resolve_right (by simpa using running)
      exact (between running _ (by simp) (by simp) (by simp) (by simp) (by simp)).branch (by simp) _ _
  | pageSwap p =>
    simp only [State.afterPlaced, State.afterPageSwap]
    split
    next winddown => exact off _ winddown (by simp) (by simp) (by simp) (by simp) (by simp)
    next running =>
      have running : s.engine.walk = .running := walks.resolve_right (by simpa using running)
      have ready := between running (((s.setQueue queue).setEngine { s.engine with waiting := none }).setPhase .none)
        (by simp) (by simp) (by simp) (by simp) (by simp)
      split
      · exact ready.enterWinddown _
      split
      · exact ready.enterWinddown _
      · exact ready.boundary (by simp) _
  | walkSummary w =>
    obtain ⟨-, -, released, -, -, summary, -, -, -⟩ := rest
    obtain ⟨-, -, atRest⟩ := released (summary w waits)
    refine State.loadCovered_of_off ⟨atRest.lawful _ _, lawful.slots⟩ ⟨protocol, coupling, window, detectors⟩ ?_
    simp only [State.afterPlaced, State.afterSummary_engine]
    split <;> simp

theorem State.LoadCovered.goOn {s : State} (covered : s.LoadCovered) (rest : s.LinesRest) : s.goOn.LoadCovered := by
  unfold State.goOn
  generalize Config.queueDepth + 1 = rounds
  induction rounds generalizing s with
  | zero => exact covered
  | succ rounds ih =>
    rw [State.placeRecords]
    split
    next r waits =>
      split
      · exact ih (covered.placed rest waits _) (rest.placed waits _)
      · exact covered
    · exact covered

end Sys2Proof.Machine

/-! ## The claim law and the clamp law: the moves of a step in BODY and EXIT -/

namespace Sys2Proof.Machine

/-- Where the step in progress stands: the walk, a record that waits, and the step's record with its stage of BODY. -/
def Engine.course (e : Engine) : WalkState × Option StepLevel × Option (StepRecord × BodyStage) :=
  (e.walk, e.waiting, e.step.map fun c => (c.record, c.stage))

theorem State.StepIn.course {s : State} {p : Phase} {c : StepContext} (h : s.StepIn p c) :
    s.engine.course = (.running, none, some (c.record, c.stage)) := by
  obtain ⟨walk, step, noRecord, -⟩ := h
  simp [Engine.course, walk, step, noRecord]

theorem State.stepIn_of_course {s : State} {r : StepRecord} {stage : BodyStage}
    (course : s.engine.course = (.running, none, some (r, stage))) :
    ∃ c, s.StepIn s.engine.phase c ∧ c.record = r ∧ c.stage = stage := by
  simp only [Engine.course, Prod.mk.injEq, Option.map_eq_some_iff] at course
  obtain ⟨walk, noRecord, c, step, record, stage⟩ := course
  exact ⟨c, ⟨walk, step, noRecord, rfl⟩, record, stage⟩

theorem Protocol.phase_ne (q : Protocol) : q.phase ≠ .body ∧ q.phase ≠ .exiting ∧ q.phase ≠ .applying
    ∧ q.phase ≠ .settle := by
  cases q <;> simp [Protocol.phase]

/-- The kind of a step's record tells its body. -/
theorem StepRecord.kind_eq (r : StepRecord) : r.kind = r.body.kind := (rfl)

/-- A trip step's own trip: EXIT with the unit held and the window closed, before the trip capture starts (R141). -/
theorem State.takeOwnTrip_eq (s : State) (t : Trip) (c : StepContext) : ∃ u : State, s.takeOwnTrip t c = u.tripExit
    ∧ u.engine.course = s.engine.course ∧ u.engine.phase = .exiting ∧ u.drive = s.drive
    ∧ u.bay = s.bay.assertUnit .trip ∧ u.engine.ratings = s.engine.ratings ∧ u.store = s.store
    ∧ u.acq = { s.acq with window := s.acq.window.close } := by
  unfold State.takeOwnTrip
  extract_lets tTrip u v src
  have bay : v.bay = s.bay.assertUnit .trip := by simp [v, u]
  have drive : v.drive = s.drive := by simp [v, u]
  have acq : v.acq = { s.acq with window := s.acq.window.close } := by simp [v, u]
  have store : v.store = s.store := by simp [v, u]
  have course : v.engine.course = s.engine.course := by simp [v, u, Engine.course, Function.comp_def]
  have ratings : v.engine.ratings = s.engine.ratings := by simp [v, u]
  refine ⟨_, rfl, ?_, by simp, by simp [drive], by simp [bay], by simp [ratings], by simp [store], by simp [acq, src]⟩
  rw [← course]
  simp [Engine.course, Function.comp_def]

namespace State.Runs

variable {s : State} {p : Phase} {c : StepContext} (h : s.Runs p c)
include h

theorem idle (phase : p = .applying ∨ p = .settle ∨ p = .body ∨ p = .exiting) : s.bay.protocol = .idle := by
  by_contra k
  have other := (h.protocol k).1
  obtain ⟨body, exiting, applying, settle⟩ := s.bay.protocol.phase_ne
  rcases phase with rfl | rfl | rfl | rfl
  exacts [applying other, settle other, body other, exiting other]

theorem covers (phase : p ≠ .admitting ∧ p ≠ .backoff) :
    Covers s.bay.drivenClaim s.engine.ratings.vNom c.record.body.peak := h.claim (.inl phase)

/-- What moves neither the course of the step nor what is in play keeps its laws. -/
theorem of_inPlay {t : State} (course : t.engine.course = s.engine.course) (phase : t.engine.phase = s.engine.phase)
    (same : t.inPlay = s.inPlay) : ∃ c', t.Runs p c' ∧ c'.record = c.record ∧ c'.stage = c.stage := by
  obtain ⟨c', stepIn, record, stage⟩ := State.stepIn_of_course (course.trans h.stepIn.course)
  rw [phase, h.stepIn.2.2.2] at stepIn
  exact ⟨c', h.of_same stepIn record stage same, record, stage⟩

/-- The step's end after moves that leave the drive unit and the claim alone. -/
theorem endAfter {t : State} (course : t.engine.course = s.engine.course) (drive : t.drive = s.drive)
    (claim : t.bay.drivenClaim = s.bay.drivenClaim) (ratings : t.engine.ratings = s.engine.ratings)
    (store : t.store = s.store) (unrequested : s.drive.Unrequested) (cause : EndCause) (vs : List Verdict) :
    (t.endStep cause vs).LoadCovered := by
  obtain ⟨c', stepIn, -⟩ := State.stepIn_of_course (course.trans h.stepIn.course)
  exact State.endStep_loadCovered stepIn.1 stepIn.2.1 (h.lawful.of_same (by rw [drive]) claim ratings store)
    (by rw [drive]; exact unrequested) cause vs

/-- A step in BODY goes on in BODY, in the given stage. -/
theorem inBody {t : State} {stage : BodyStage} (body : p = .body)
    (course : t.engine.course = (.running, none, some (c.record, stage))) (phase : t.engine.phase = .body)
    (lawful : t.drive.Lawful s.bay.drivenClaim s.engine.ratings.vNom) (bay : t.bay = s.bay)
    (ratings : t.engine.ratings = s.engine.ratings) (store : t.store = s.store)
    (capture : t.acq.capture.mode = .trip → t.acq.capture.state = .collecting → s.acq.capture.mode = .trip ∧ s.acq.capture.state = .collecting)
    (fits : ∀ c' : StepContext, c'.record = c.record → c'.stage = stage → t.drive.FitsPhase c' .body)
    (pulse : stage = .resetPulse → c.record.kind = .recover)
    (coupling : t.drive.coupling ≠ .none → c.record.kind = .dropout)
    (window : t.acq.window.CountsLive → c.record.kind = .hold ∨ (c.record.kind = .recover ∧ stage = .watch)
      ∨ (c.record.kind = .derate ∧ stage = .reference))
    (regulation : t.acq.detectors.regulation ≠ none → c.record.kind = .recover ∧ stage = .regulationWait)
    (knee : t.acq.detectors.knee ≠ none → c.record.kind = .derate ∧ stage = .kneeRamp) :
    ∃ c', t.Runs .body c' ∧ c'.record = c.record ∧ c'.stage = stage := by
  subst body
  obtain ⟨c', stepIn, record, stageEq⟩ := State.stepIn_of_course course
  rw [phase] at stepIn
  have idle := h.idle (by simp)
  refine ⟨c', ⟨stepIn, ⟨by rw [bay, ratings]; exact lawful, by rw [store]; exact h.lawful.slots⟩, by rw [record]; exact h.start,
    fits c' record stageEq, ?_, ?_, ?_, ?_, ?_, ?_, fun _ => .inl rfl, ?_, ?_⟩, record, stageEq⟩
  · rw [record, bay, ratings]
    exact fun _ => h.covers (by simp)
  · rw [record, stageEq]
    exact fun k => ⟨rfl, pulse k⟩
  · rw [record]
    intro kind mode state
    obtain ⟨mode, state⟩ := capture mode state
    exact absurd (h.capture kind mode state).1 (by simp)
  · rw [bay]
    exact fun k => absurd idle k
  · rw [record]
    exact fun k => ⟨rfl, coupling k⟩
  · rw [record, stageEq]
    exact fun k => ⟨rfl, window k⟩
  · rw [record, stageEq]
    exact fun k => ⟨rfl, regulation k⟩
  · rw [record, stageEq]
    exact fun k => ⟨rfl, knee k⟩

/-- A step in BODY or EXIT goes on in EXIT. -/
theorem exits {t : State} (phase : p = .body ∨ p = .exiting) (course : t.engine.course = s.engine.course)
    (exiting : t.engine.phase = .exiting) (lawful : t.drive.Lawful s.bay.drivenClaim s.engine.ratings.vNom)
    (claim : t.bay.drivenClaim = s.bay.drivenClaim) (protocol : t.bay.protocol = s.bay.protocol)
    (ratings : t.engine.ratings = s.engine.ratings) (store : t.store = s.store)
    (free : t.drive.Free) (steady : c.record.kind ≠ .pulse → t.drive.Steady) (noPulse : c.stage ≠ .resetPulse)
    (capture : c.record.kind.tripKind = true → t.acq.capture.mode = .trip → t.acq.capture.state = .collecting → t.drive.Still)
    (window : ¬ t.acq.window.CountsLive) (regulation : t.acq.detectors.regulation = none)
    (knee : t.acq.detectors.knee = none) :
    ∃ c', t.Runs .exiting c' ∧ c'.record = c.record ∧ c'.stage = c.stage := by
  obtain ⟨c', stepIn, record, stage⟩ := State.stepIn_of_course (course.trans h.stepIn.course)
  rw [exiting] at stepIn
  have idle := h.idle (by rcases phase with rfl | rfl <;> simp)
  have past : p ≠ .admitting ∧ p ≠ .backoff := by rcases phase with rfl | rfl <;> simp
  refine ⟨c', ⟨stepIn, ⟨by rw [claim, ratings]; exact lawful, by rw [store]; exact h.lawful.slots⟩, by rw [record]; exact h.start,
    ⟨free, by rw [record]; exact steady⟩, ?_, ?_, ?_, ?_, fun k => absurd free.2.2 k, fun k => absurd k window,
    fun _ => .inr rfl, fun k => absurd regulation k, fun k => absurd knee k⟩, record, stage⟩
  · rw [record, claim, ratings]
    exact fun _ => h.covers past
  · rw [stage]
    exact fun k => absurd k noPulse
  · rw [record]
    exact fun kind mode state => ⟨rfl, capture kind mode state⟩
  · rw [protocol]
    exact fun k => absurd idle k

/-- The kinds in whose steps no stage of RECOVER or DERATE is met. -/
theorem noStage (kind : c.record.kind ≠ .recover ∧ c.record.kind ≠ .derate) :
    c.stage ≠ .resetPulse ∧ s.acq.detectors.regulation = none ∧ s.acq.detectors.knee = none := by
  refine ⟨fun k => kind.1 (h.pulse k).2, ?_, ?_⟩
  · by_contra k
    exact kind.1 (h.regulation k).2.1
  · by_contra k
    exact kind.2 (h.knee k).2.1

/-! ### Trips -/

theorem tripExit (exiting : p = .exiting) (still : s.drive.Still) : s.tripExit.LoadCovered := by
  subst exiting
  obtain ⟨capture, acq, mode, -⟩ := s.startTripCapture_acq
  have store := s.startTripCapture_store
  unfold State.tripExit
  dsimp only
  split
  · have started : s.startTripCapture.Runs .exiting c := by
      refine ⟨?_, ⟨by simpa using h.lawful.drive, by simpa using h.lawful.slots⟩, h.start, by simpa using h.fits, by simpa using h.claim,
        h.pulse, fun _ _ _ => ⟨rfl, by simpa using still⟩, by simpa using h.protocol, by simpa using h.coupling, ?_, ?_, ?_, ?_⟩
      · simpa [State.StepIn] using h.stepIn
      · rw [acq]; exact h.window
      · rw [acq]; exact h.trips
      · rw [acq]; exact h.regulation
      · rw [acq]; exact h.knee
    exact started.loadCovered
  · exact h.endAfter (by simp) (by simp) (by simp) (by simp) (by simp) (.inl still) _ _

theorem takeOwnTrip (body : p = .body) (still : s.drive.Still) (kind : c.record.kind.tripKind = true) (t : Trip) :
    (s.takeOwnTrip t c).LoadCovered := by
  subst body
  have other : c.record.kind ≠ .recover ∧ c.record.kind ≠ .derate := by
    constructor <;> intro k <;> simp [k, Kind.tripKind] at kind
  obtain ⟨noPulse, regulation, knee⟩ := h.noStage other
  obtain ⟨u, taken, course, phase, drive, bay, ratings, store, acq⟩ := s.takeOwnTrip_eq t c
  obtain ⟨c', exits, -⟩ := h.exits (t := u) (.inl rfl) course phase (by rw [drive]; exact h.lawful.drive) (by rw [bay]; rfl) (by rw [bay]; rfl)
    ratings store (by rw [drive]; exact still.free) (fun _ => by rw [drive]; exact still.steady) noPulse
    (fun _ _ _ => by rw [drive]; exact still) (by rw [acq]; simp [Window.CountsLive, Window.close])
    (by rw [acq]; exact regulation) (by rw [acq]; exact knee)
  rw [taken]
  exact exits.tripExit rfl (by rw [drive]; exact still)

theorem takeLateTrip (exiting : p = .exiting) (still : s.drive.Still) (t : Trip) : (s.takeLateTrip t).LoadCovered := by
  subst exiting
  obtain ⟨c', same, -⟩ := h.of_inPlay
    (t := (s.setBay (s.bay.assertUnit .trip)).mapFigures (fun g => { g with trip := some t }))
    (by simp [Engine.course, Function.comp_def]) rfl (by simp [State.inPlay, Bay.assertUnit])
  exact same.tripExit rfl still

theorem takeDropoutTrip (still : s.drive.Still) (t : Trip) (span : Option TripSpan) :
    (s.takeDropoutTrip t span).LoadCovered := by
  unfold State.takeDropoutTrip State.evaluateDropout
  split <;>
    exact h.endAfter (by simp [Engine.course, Function.comp_def]) (by simp) (by simp) (by simp) (by simp) (.inl still) _ _

theorem takeUnexpectedTrip (still : s.drive.Still) (t : Trip) (completes : Bool) :
    (s.takeUnexpectedTrip t completes).LoadCovered := by
  unfold State.takeUnexpectedTrip
  dsimp only
  have evaluated : (if completes then s.evaluateAtTrip else s).engine.course = s.engine.course
      ∧ (if completes then s.evaluateAtTrip else s).drive = s.drive ∧ (if completes then s.evaluateAtTrip else s).bay = s.bay
      ∧ (if completes then s.evaluateAtTrip else s).engine.ratings = s.engine.ratings
      ∧ (if completes then s.evaluateAtTrip else s).store = s.store := by
    unfold State.evaluateAtTrip
    (repeat' split) <;> simp [Engine.course, Function.comp_def]
  generalize (if completes then s.evaluateAtTrip else s) = u at evaluated
  obtain ⟨course, drive, bay, ratings, store⟩ := evaluated
  refine h.endAfter (Eq.trans ?_ course) (by simpa using drive) (by simp [Bay.assertUnit, bay]) (by simpa using ratings) (by simpa using store) (.inl still) _ _
  simp [Engine.course, Function.comp_def]

/-- A trip event that is due is delivered in BODY or EXIT (R103). -/
theorem deliverTrip (due : s.acq.detectors.collapseDue = true ∨ s.acq.detectors.alarmDue = true) :
    s.deliverTrip.LoadCovered := by
  have phase : p = .body ∨ p = .exiting := by
    refine h.trips (due.imp (fun collapse => ?_) (fun alarm => ?_))
    · unfold Detectors.collapseDue at collapse
      intro none
      simp [none] at collapse
    · simp only [Detectors.alarmDue, Bool.and_eq_true] at alarm
      exact alarm.1
  obtain ⟨noChange, -⟩ := h.fits.noChange (.inr phase)
  have still : s.drive.tripDrop.Still := Drive.tripDrop_still noChange
  have notApplying : p ≠ .applying := by rcases phase with rfl | rfl <;> simp
  have dropped : ((s.setAcq s.acq.disarmTrips).tripDrop).Runs p c := by
    refine ⟨h.stepIn, ⟨Drive.Lawful.tripDrop, h.lawful.slots⟩, h.start, still.fits notApplying, h.claim, h.pulse, ?_, ?_,
      fun k => absurd still.2.2.2.2 k, h.window, fun _ => phase, h.regulation, h.knee⟩
    · exact fun kind mode state => ⟨(h.capture kind mode state).1, still⟩
    · intro k
      obtain ⟨other, -⟩ := h.protocol k
      have ne := s.bay.protocol.phase_ne
      rcases phase with rfl | rfl
      · exact absurd other ne.1
      · exact absurd other ne.2.1
  have kind := dropped.kind
  have phaseEq : ((s.setAcq s.acq.disarmTrips).tripDrop).engine.phase = p := h.stepIn.2.2.2
  have step : ((s.setAcq s.acq.disarmTrips).tripDrop).engine.step = some c := h.stepIn.2.1
  unfold State.deliverTrip
  extract_lets t span completes u
  rw [show u = (s.setAcq s.acq.disarmTrips).tripDrop from rfl, step]
  dsimp only
  rw [phaseEq, kind]
  split
  next trips =>
    split
    next body => exact dropped.takeOwnTrip body still trips t
    next other => exact dropped.takeLateTrip (phase.resolve_left other) still t
  · split
    · exact dropped.takeDropoutTrip still t span
    · exact dropped.takeUnexpectedTrip still t completes

end State.Runs

end Sys2Proof.Machine

/-! ## The claim law and the clamp law: BODY start and what BODY requests -/

namespace Sys2Proof.Machine

theorem Window.firstSample_mode (w : Window) (r : SampleRecord) : (w.firstSample r).mode = w.mode := by
  unfold Window.firstSample; split <;> rfl

theorem Acquisition.openWindow_mode (a : Acquisition) (profiles : PerChannel ChannelProfile) (mode : WindowMode)
    (length : Nat) (channels : List CheckChannel) : (a.openWindow profiles mode length channels).window.mode = mode := by
  unfold Acquisition.openWindow
  dsimp only
  split
  · rw [Window.firstSample_mode]; rfl
  · rfl

/-- A SPAN window is never counted. -/
theorem Window.not_countsLive_of_span {w : Window} (h : w.mode = .span) : ¬ w.CountsLive := by
  simp [Window.CountsLive, h]

/-- The detectors that arming collapse and alarm leaves alone. -/
theorem State.armTripDetectors_detectors (s : State) (detect : Detect) (threshold : Nat) :
    (s.armTripDetectors detect threshold).acq.detectors.regulation = s.acq.detectors.regulation
      ∧ (s.armTripDetectors detect threshold).acq.detectors.knee = s.acq.detectors.knee
      ∧ (s.armTripDetectors detect threshold).acq.capture = s.acq.capture := by
  unfold State.armTripDetectors
  dsimp only
  (repeat' split) <;> simp [Acquisition.armCollapse, Acquisition.armAlarm]

namespace State.Runs

variable {s : State} {p : Phase} {c : StepContext} (h : s.Runs p c)
include h

/-- A set of the step is covered by its claim and within the range in force, once it is clamped (R76). -/
theorem stageLawful (phase : p ≠ .admitting ∧ p ≠ .backoff) (noChange : s.drive.rangeChange = .none) {g : GenSet}
    (peak : g.peak ≤ c.record.body.peak) :
    (s.drive.stage (s.clampFor g .plain) .plain).Lawful s.bay.drivenClaim s.engine.ratings.vNom :=
  h.lawful.drive.stage ((h.covers phase).mono ((g.clamp_peak_le_peak _).trans peak))
    ((g.clamp_peak_le_limit _).trans (min_le_right _ _)) (fun _ changing => absurd noChange changing)

/-- BODY has been entered, before it requests anything: the level is held and nothing is armed. -/
structure Entered (s : State) (c : StepContext) : Prop where
  runs : s.Runs .body c
  main : c.stage = .main
  still : s.drive.Still
  quiet : s.acq.detectors.Quiet
  window : ¬ s.acq.window.CountsLive

theorem entered (settle : p = .settle) : ∃ c', Entered (((s.mapStep (fun c => { c with
    bodySeq := s.acq.seq, stage := .main })).setPhase .body).startCapture) c' ∧ c'.record = c.record := by
  subst settle
  obtain ⟨quiet, window⟩ := h.quiet (by simp)
  have still : s.drive.Still := h.fits
  have course : (((s.mapStep (fun c => { c with bodySeq := s.acq.seq, stage := .main })).setPhase .body).startCapture).engine.course
      = (.running, none, some (c.record, .main)) := by
    obtain ⟨walk, step, noRecord, -⟩ := h.stepIn
    simp [Engine.course, walk, step, noRecord]
  obtain ⟨c', stepIn, record, stage⟩ := State.stepIn_of_course course
  have phase : (((s.mapStep (fun c => { c with bodySeq := s.acq.seq, stage := .main })).setPhase .body).startCapture).engine.phase
      = .body := by simp
  rw [phase] at stepIn
  refine ⟨c', ⟨⟨stepIn, ⟨by simpa using h.lawful.drive, by simpa using h.lawful.slots⟩, by rw [record]; exact h.start, ?_, ?_, ?_,
    ?_, ?_, ?_, ?_, fun _ => .inl rfl, ?_, ?_⟩, stage, by simpa using still, by simpa using quiet, by simpa using window⟩, record⟩
  · simpa using Drive.Still.fits (c := c') (p := .body) still (by simp)
  · rw [record]
    simpa using h.covers (by simp)
  · simp [stage]
  · rw [record]
    intro kind mode state
    simp only [State.startCapture_acq, State.setPhase_acq, State.mapStep_acq] at mode state
    rw [Acquisition.startedCapture_mode] at mode
    rw [Acquisition.startedCapture_of_not_terminal (by simp [mode])] at state
    exact absurd (h.capture kind mode state).1 (by simp)
  · simp [h.idle]
  · simp [still.2.2.2.2]
  · simpa using fun k => absurd k window
  · simp [quiet.2.2.1]
  · simp [quiet.2.2.2]

end State.Runs

namespace State.Runs.Entered

variable {s : State} {c : StepContext} (h : State.Runs.Entered s c)
include h

/-- A set of the step takes force at BODY start, beside a SPAN window and the detectors of the kind. -/
theorem stages {u : State} {g : GenSet} (course : u.engine.course = s.engine.course) (phase : u.engine.phase = .body)
    (drive : u.drive = s.drive.stage (s.clampFor g .plain) .plain) (bay : u.bay = s.bay)
    (ratings : u.engine.ratings = s.engine.ratings) (store : u.store = s.store) (capture : u.acq.capture = s.acq.capture)
    (span : u.acq.window.mode = .span) (regulation : u.acq.detectors.regulation = s.acq.detectors.regulation)
    (knee : u.acq.detectors.knee = s.acq.detectors.knee) (peak : g.peak ≤ c.record.body.peak)
    (kind : (c.record.kind = .pulse) ∨ (g.Steady ∧ (c.record.kind = .ramp ∨ c.record.kind.tripKind = true))) :
    ∃ c', u.Runs .body c' := by
  obtain ⟨free, steady⟩ := h.still.stage (s.clampFor g .plain)
  suffices fits : ∀ c' : StepContext, c'.record = c.record → c'.stage = c.stage → u.drive.FitsPhase c' .body by
    obtain ⟨c', runs, -⟩ := h.runs.inBody (t := u) (stage := c.stage) rfl (course.trans h.runs.stepIn.course) phase
      (by rw [drive]; exact h.runs.stageLawful (by simp) h.still.2.2.2.1 peak) bay ratings store
      (by rw [capture]; exact fun mode state => ⟨mode, state⟩) fits (by simp [h.main])
      (by rw [drive]; exact fun k => absurd free.2.2 k) (fun k => absurd k (Window.not_countsLive_of_span span))
      (by rw [regulation]; exact fun k => absurd h.quiet.2.2.1 k) (by rw [knee]; exact fun k => absurd h.quiet.2.2.2 k)
    exact ⟨c', runs⟩
  intro c' record _
  rw [drive]
  rcases kind with pulse | ⟨gSteady, ramp | trip⟩
  · simpa only [Drive.FitsPhase, record, pulse] using free
  · simpa only [Drive.FitsPhase, record, ramp] using ⟨free, steady (gSteady.clamp _)⟩
  · have both := And.intro free (steady (gSteady.clamp _))
    simp only [Drive.FitsPhase, record]
    cases kind : c.record.kind <;> simp [kind, Kind.tripKind] at trip ⊢ <;> exact both

/-- The level is held at BODY start, beside the window and the detectors of the kind. -/
theorem holds {u : State} {stage : BodyStage} (course : u.engine.course = (.running, none, some (c.record, stage)))
    (phase : u.engine.phase = .body) (motion : u.drive.motion = s.drive.motion) (bay : u.bay = s.bay)
    (ratings : u.engine.ratings = s.engine.ratings) (store : u.store = s.store) (capture : u.acq.capture = s.acq.capture)
    (pulse : stage = .resetPulse → c.record.kind = .recover)
    (window : u.acq.window.CountsLive → c.record.kind = .hold ∨ (c.record.kind = .derate ∧ stage = .reference))
    (regulation : u.acq.detectors.regulation ≠ none → c.record.kind = .recover ∧ stage = .regulationWait)
    (knee : u.acq.detectors.knee = s.acq.detectors.knee) : ∃ c', u.Runs .body c' := by
  have still := h.still.of_motion motion
  obtain ⟨c', runs, -⟩ := h.runs.inBody (t := u) rfl course phase (h.runs.lawful.drive.of_motion motion) bay ratings store
    (by rw [capture]; exact fun mode state => ⟨mode, state⟩) (fun c' _ _ => still.fits (by simp)) pulse
    (fun k => absurd still.2.2.2.2 k) (fun k => (window k).imp id .inr) regulation
    (by rw [knee]; exact fun k => absurd h.quiet.2.2.2 k)
  exact ⟨c', runs⟩

/-- BODY requests what its kind asks for (R127 to R131, R140, R144, R147, R152, R158, R164). -/
theorem startBody : ∃ c', s.startBody.Runs .body c' := by
  obtain ⟨walk, step, noRecord, phase⟩ := h.runs.stepIn
  have course := h.runs.stepIn.course
  have main := h.main
  unfold State.startBody
  rw [h.runs.record]
  dsimp only
  cases body : c.record.body with
  | none => exact ⟨c, h.runs⟩
  | hold iSet =>
    refine h.holds (stage := c.stage) (by simpa using course) (by simpa using phase) rfl rfl rfl rfl rfl (by simp [main])
      (fun _ => .inl (by simp [StepRecord.kind_eq, body, StepBody.kind])) ?_ rfl
    simp [Acquisition.openWindow, Acquisition.armCollapse, Acquisition.armAlarm, h.quiet.2.2.1]
  | ramp iFrom iTo slope =>
    refine h.stages (g := .ramp (some iFrom) iTo slope) (by simp [Engine.course, Function.comp_def]) (by simpa using phase) rfl rfl (by simp) rfl rfl
      (Acquisition.openWindow_mode _ _ _ _ _) rfl rfl (by simp [body, StepBody.peak, GenSet.peak])
      (.inr ⟨.ramp _ _ _, .inl (by simp [StepRecord.kind_eq, body, StepBody.kind])⟩)
  | pulse lo hi period high cycles =>
    have peak : lo ≤ hi := by simpa [body, StepBody.start, StepBody.peak] using h.runs.start
    refine h.stages (g := .pulse lo hi period high cycles) (by simp [Engine.course, Function.comp_def]) (by simpa using phase) rfl rfl (by simp) rfl rfl
      (Acquisition.openWindow_mode _ _ _ _ _) rfl rfl (by simp [body, StepBody.peak, GenSet.peak, peak])
      (.inl (by simp [StepRecord.kind_eq, body, StepBody.kind]))
  | tripSearch iFrom slope iCeiling detect threshold tripLo tripHi =>
    have peak : iFrom ≤ iCeiling := by simpa [body, StepBody.start, StepBody.peak] using h.runs.start
    obtain ⟨regulation, knee, capture⟩ := s.armTripDetectors_detectors detect threshold
    refine h.stages (g := .ramp (some iFrom) iCeiling slope) (by simp [Engine.course, Function.comp_def]) (by simpa using phase) rfl rfl (by simp) rfl
      (by simpa [Acquisition.openWindow] using capture)
      (Acquisition.openWindow_mode _ _ _ _ _) (by simpa [Acquisition.openWindow] using regulation)
      (by simpa [Acquisition.openWindow] using knee) (by simp [body, StepBody.peak, GenSet.peak, peak])
      (.inr ⟨.ramp _ _ _, .inr (by simp [StepRecord.kind_eq, body, StepBody.kind, Kind.tripKind])⟩)
  | tripTime iPre iOver detect threshold tMin tMax =>
    obtain ⟨regulation, knee, capture⟩ := s.armTripDetectors_detectors detect threshold
    refine h.stages (g := GenSet.levelAt iOver) (by simp [Engine.course, Function.comp_def]) (by simpa using phase) rfl rfl (by simp) rfl
      (by simpa [Acquisition.openWindow] using capture)
      (Acquisition.openWindow_mode _ _ _ _ _) (by simpa [Acquisition.openWindow] using regulation)
      (by simpa [Acquisition.openWindow] using knee) (by simp [body, StepBody.peak, GenSet.peak, GenSet.levelAt])
      (.inr ⟨.level _, .inr (by simp [StepRecord.kind_eq, body, StepBody.kind, Kind.tripKind])⟩)
  | recover iRest resetPulse =>
    have kind : c.record.kind = .recover := by simp [StepRecord.kind_eq, body, StepBody.kind]
    dsimp only
    split
    · exact h.holds (stage := .regulationWait) (by simp [Engine.course, walk, step, noRecord]) (by simpa using phase) rfl rfl
        (by simp) rfl rfl (by simp) (fun k => absurd k h.window) (fun _ => ⟨kind, rfl⟩) rfl
    · exact h.holds (stage := .resetPulse) (by simp [Engine.course, walk, step, noRecord]) (by simpa using phase) rfl rfl
        (by simp) rfl rfl (fun _ => kind) (fun k => absurd k h.window) (fun k => absurd h.quiet.2.2.1 k) rfl
  | derate curveV curveT iFrom slope iCeiling kneeDrop tolLo tolHi =>
    refine h.holds (stage := .reference) (by simp [Engine.course, walk, step, noRecord]) (by simpa using phase) rfl rfl (by simp) rfl rfl (by simp)
      (fun _ => .inr ⟨by simp [StepRecord.kind_eq, body, StepBody.kind], rfl⟩) ?_ rfl
    simp [Acquisition.openWindow, Acquisition.armCollapse, Acquisition.armAlarm, h.quiet.2.2.1]
  | dropout iHold lead dropout restore vMin =>
    have kind : c.record.kind = .dropout := by simp [StepRecord.kind_eq, body, StepBody.kind]
    have coupled : ∃ coupling enable, s.drive.startCoupling lead dropout restore
        = { s.drive with coupling := coupling, lineEnable := enable } := by
      unfold Drive.startCoupling
      split <;> exact ⟨_, _, rfl⟩
    obtain ⟨coupling, enable, coupled⟩ := coupled
    obtain ⟨c', runs, record, stage⟩ := h.runs.inBody
      (t := (s.setDrive (s.drive.startCoupling lead dropout restore)).armDetectors) (stage := c.stage) rfl
      (by simpa using course) (by simpa using phase)
      (by simp only [State.armDetectors_drive, State.setDrive_drive, coupled]
          exact ⟨h.runs.lawful.drive.covered, h.runs.lawful.drive.inRange, h.runs.lawful.drive.down⟩) rfl rfl rfl
      (fun mode state => ⟨mode, state⟩)
      (fun c' record _ => by
        simp only [Drive.FitsPhase, record, kind, State.armDetectors_drive, State.setDrive_drive, coupled]
        exact ⟨h.still.1, h.still.2.1, h.still.2.2.1, h.still.2.2.2.1⟩) (by simp [main]) (fun _ => kind)
      (fun k => absurd k h.window) (fun k => absurd h.quiet.2.2.1 k) (fun k => absurd h.quiet.2.2.2 k)
    have kind' : c'.record.kind = .dropout := by rw [record]; exact kind
    dsimp only
    split
    · obtain ⟨c'', opened, -⟩ := runs.inBody
        (t := ((s.setDrive (s.drive.startCoupling lead dropout restore)).armDetectors).openDropoutWindow) (stage := c'.stage) rfl
        (by simpa [State.openDropoutWindow] using runs.stepIn.course) (by simpa [State.openDropoutWindow] using phase) runs.lawful.drive rfl rfl rfl
        (fun mode state => ⟨mode, state⟩)
        (fun c'' record' stage' => by
          have fits := runs.fits
          simp only [Drive.FitsPhase, kind', record'] at fits ⊢
          exact fits) (by simp [stage, main]) (fun _ => kind')
        (fun k => absurd k (Window.not_countsLive_of_span (Acquisition.openWindow_mode _ _ _ _ _)))
        (fun k => absurd h.quiet.2.2.1 k) (fun k => absurd h.quiet.2.2.2 k)
      exact ⟨c'', opened⟩
    · exact ⟨c', runs⟩

end State.Runs.Entered

namespace State.Runs

variable {s : State} {p : Phase} {c : StepContext} (h : s.Runs p c)
include h

theorem enterBody (settle : p = .settle) : ∃ c', s.enterBody.Runs .body c' := by
  obtain ⟨c', entered, -⟩ := h.entered settle
  exact entered.startBody

/-- An alarm that the BODY start sample finds is delivered in the same event (R102). -/
theorem deliverFound (rest : s.LinesRest) : s.deliverFound.LoadCovered := by
  unfold State.deliverFound
  split
  next due =>
    refine (h.deliverTrip (.inr (Bool.and_eq_true_iff.1 due).1)).goOn ?_
    exact (rest.inStep h.stepIn.stepping).deliverTrip
  · exact h.loadCovered

theorem checkSettle (settle : p = .settle) (rest : s.LinesRest) : s.checkSettle.LoadCovered := by
  unfold State.checkSettle
  split
  · split
    · obtain ⟨c', runs⟩ := h.enterBody settle
      exact runs.deliverFound (rest.inStep h.stepIn.stepping).enterBody.linesRest
    · exact h.loadCovered
  · exact h.loadCovered

end State.Runs

end Sys2Proof.Machine

/-! ## The claim law and the clamp law: the events of a step in progress -/

namespace Sys2Proof.Machine

/-- An event keeps the claim law and the clamp law, beside the rest between walks. -/
def EventCovers (event : State → Option State) : Prop :=
  ∀ s t : State, s.LinesRest → s.LoadCovered → event s = some t → t.LoadCovered

theorem EventCovers.guarded (due : State → Prop) [DecidablePred due] (taken : State → State)
    (keeps : ∀ s : State, s.LinesRest → s.LoadCovered → due s → (taken s).LoadCovered) :
    EventCovers (fun s => if due s then some (taken s) else none) := by
  intro s t rest covered some_eq
  dsimp only at some_eq
  split at some_eq
  next isDue => cases some_eq; exact keeps s rest covered isDue
  · cases some_eq

/-- An event that asks for a step in progress. -/
theorem EventCovers.stepping (due : State → Bool) (taken : State → State)
    (needs : ∀ s, due s = true → s.engine.stepping = true)
    (keeps : ∀ (s : State) (p : Phase) (c : StepContext), s.LinesRest → s.Runs p c → due s = true → (taken s).LoadCovered) :
    EventCovers (fun s => if due s then some (taken s) else none) :=
  .guarded (fun s => due s = true) taken fun s rest covered isDue => by
    obtain ⟨c, stepIn⟩ := State.stepIn_of_stepping (needs s isDue)
    exact keeps s _ c rest (covered.runs stepIn) isDue

theorem Engine.record_of_course {e : Engine} {r : StepRecord} {stage : BodyStage}
    (course : e.course = (.running, none, some (r, stage))) : e.record = r := by
  simp only [Engine.course, Prod.mk.injEq, Option.map_eq_some_iff] at course
  obtain ⟨-, -, c, step, record, -⟩ := course
  rw [Engine.record_of_step step, record]

theorem Bay.releaseAttempt_drivenClaim (b : Bay) (settle : Nat) : (b.releaseAttempt settle).drivenClaim = b.drivenClaim := by
  unfold Bay.releaseAttempt
  split
  · exact (Bay.releaseUnit_spec _ _).2.1
  · rfl

namespace State.Runs

variable {s : State} {p : Phase} {c : StepContext} (h : s.Runs p c)
include h

/-! ### The ends of BODY -/

/-- BODY ends with a return set staged at once or discarded under drop hold (R145, R147, R161). -/
theorem returns (body : p = .body) (free : s.drive.Free) (steady : s.drive.Steady) {v : State} {g : GenSet}
    (course : v.engine.course = s.engine.course) (phase : v.engine.phase = .exiting) (drive : v.drive = s.drive)
    (bay : v.bay = s.bay) (ratings : v.engine.ratings = s.engine.ratings) (store : v.store = s.store)
    (capture : v.acq.capture.mode = .trip → v.acq.capture.state = .collecting →
      s.acq.capture.mode = .trip ∧ s.acq.capture.state = .collecting)
    (window : ¬ v.acq.window.CountsLive) (regulation : v.acq.detectors.regulation = none)
    (knee : v.acq.detectors.knee = none) (noPulse : c.stage ≠ .resetPulse) (gSteady : g.Steady)
    (peak : g.peak ≤ c.record.body.peak) : (v.stageStep g .plain).LoadCovered := by
  subst body
  have clamp : v.clampFor g .plain = s.clampFor g .plain := by simp [State.clampFor, ratings, drive]
  obtain ⟨freed, steadied⟩ := free.stage steady (s.clampFor g .plain)
  have staged : (v.stageStep g .plain).drive = s.drive.stage (s.clampFor g .plain) .plain := by
    rw [State.stageStep_drive, clamp, drive]
  obtain ⟨c', exits, -⟩ := h.exits (t := v.stageStep g .plain) (.inl rfl)
    (by rw [← course]; simp [Engine.course, Function.comp_def]) (by simp [phase])
    (by rw [staged]; exact h.stageLawful (by simp) free.2.1 peak) (by simp [bay]) (by simp [bay]) (by simp [ratings]) (by simp [store])
    (by rw [staged]; exact freed) (fun _ => by rw [staged]; exact steadied (gSteady.clamp _)) noPulse
    (fun kind mode state => by
      obtain ⟨mode, state⟩ := capture (by simpa using mode) (by simpa using state)
      exact absurd (h.capture kind mode state).1 (by simp))
    (by simpa using window) (by simpa using regulation) (by simpa using knee)
  exact exits.loadCovered

theorem endKneeRamp (body : p = .body) (kind : c.record.kind = .derate) (free : s.drive.Free) (steady : s.drive.Steady)
    (vs : List Verdict) : (s.endKneeRamp vs).LoadCovered := by
  subst body
  obtain ⟨regulation, noPulse⟩ : s.acq.detectors.regulation = none ∧ c.stage ≠ .resetPulse := by
    refine ⟨?_, fun k => by simpa [kind] using (h.pulse k).2⟩
    by_contra k
    simpa [kind] using (h.regulation k).2.1
  unfold State.endKneeRamp
  extract_lets src v
  have course : v.endBody.engine.course = s.engine.course := by simp [v, Engine.course, Function.comp_def]
  have record : v.endBody.engine.record = c.record := Engine.record_of_course (course.trans h.stepIn.course)
  unfold State.stageReturn
  rw [record]
  refine h.returns rfl free steady course (by simp) (by simp [v]) (by simp [v])
    (by simp [v]) (by simp [v]) ?_ (by simp [v, Window.CountsLive, Window.close]) (by simpa [v, src, Acquisition.disarmKnee] using regulation)
    (by simp [v, src, Acquisition.disarmKnee]) noPulse (.ramp _ _ _) (by simpa [GenSet.peak] using h.start)
  simp only [State.endBody_acq, State.bodyEndCapture]
  split
  next terminal => exact fun mode => by simp [State.finishedCapture_mode, terminal] at mode
  · exact fun mode state => ⟨mode, state⟩

/-- The knee ramp is in force when the knee is found. -/
theorem knee_of_due (due : s.acq.detectors.kneeDue = true) : s.knee.LoadCovered := by
  have armed : s.acq.detectors.knee ≠ none := by
    simp only [Detectors.kneeDue, Bool.and_eq_true] at due
    exact Option.isSome_iff_ne_none.1 due.1
  obtain ⟨body, kind, stage⟩ := h.knee armed
  subst body
  have fits := h.fits
  simp only [Drive.FitsPhase, kind, stage, if_true] at fits
  unfold State.knee
  split
  next r c₀ latest step =>
    dsimp only
    generalize outputPower r.average.vOut r.average.iOut = pKnee
    obtain ⟨c', same, record, -⟩ := h.of_inPlay (t := s.mapFigures fun g => { g with pKnee := some pKnee })
      (by simp [Engine.course, Function.comp_def]) rfl (by simp [State.inPlay])
    exact same.endKneeRamp rfl (by rw [record]; exact kind) fits.1 fits.2 _
  · exact h.loadCovered

theorem takeRegulation (due : s.acq.detectors.regulationDue = true) : s.takeRegulation.LoadCovered := by
  have armed : s.acq.detectors.regulation ≠ none := by
    intro none
    simp [Detectors.regulationDue, none] at due
  obtain ⟨body, kind, stage⟩ := h.regulation armed
  subst body
  have still : s.drive.Still := by
    have fits := h.fits
    simpa only [Drive.FitsPhase, kind, stage, reduceCtorEq, if_false] using fits
  have noKnee : s.acq.detectors.knee = none := by
    by_contra k
    simpa [kind] using (h.knee k).2.1
  have noWindow : ¬ s.acq.window.CountsLive := fun k => by simpa [kind, stage] using (h.window k).2
  obtain ⟨walk, step, noRecord, phase⟩ := h.stepIn
  unfold State.takeRegulation
  split
  next c₀ iRest resetPulse step' record =>
    rw [h.record] at record
    extract_lets u v
    obtain ⟨free, steady⟩ := still.stage (s.clampFor (.ramp none iRest s.engine.safeSlope) .plain)
    have clamp : v.clampFor (.ramp none iRest v.engine.safeSlope) .plain
        = s.clampFor (.ramp none iRest s.engine.safeSlope) .plain := by simp [v, u, State.clampFor]
    obtain ⟨c', runs, -⟩ := h.inBody (t := (v.stageStep (.ramp none iRest v.engine.safeSlope) .plain).setStage .restRamp)
      (stage := .restRamp) rfl (by simp [Engine.course, v, u, walk, step, noRecord]) (by simp [v, u, phase])
      (by simp only [State.setStage_drive, State.stageStep_drive, clamp]
          exact h.stageLawful (by simp) still.2.2.2.1 (by simp [GenSet.peak, record, StepBody.peak])) (by simp [v, u]) (by simp [v, u]) (by simp [v, u])
      (by simpa [v, u, Acquisition.armFromNext, Acquisition.disarmRegulation] using fun mode state => ⟨mode, state⟩)
      (fun c' same stage => by
        simp only [Drive.FitsPhase, same, kind, stage, if_true, State.setStage_drive, State.stageStep_drive, clamp]
        exact ⟨free, steady (GenSet.Steady.clamp (.ramp _ _ _) _)⟩) (by simp)
      (by simp only [State.setStage_drive, State.stageStep_drive, clamp]; exact fun k => absurd free.2.2 k)
      (by simpa [v, u, Acquisition.armFromNext, Acquisition.disarmRegulation] using fun k => absurd k noWindow)
      (by simp [v, u, Acquisition.armFromNext, Acquisition.disarmRegulation])
      (by simp [v, u, Acquisition.armFromNext, Acquisition.disarmRegulation, noKnee])
    exact runs.loadCovered
  next other =>
    have recovers : ∃ iRest resetPulse, c.record.body = .recover iRest resetPulse := by
      rw [StepRecord.kind_eq] at kind
      cases body : c.record.body <;> simp_all [StepBody.kind]
    obtain ⟨iRest, resetPulse, body⟩ := recovers
    exact absurd (h.record ▸ body) (other c iRest resetPulse step)

/-- The reference window of DERATE is DONE: the step ends on a missing curve, and otherwise the ramp starts (R159, R160). -/
theorem derateFigures (body : p = .body) (still : s.drive.Still) {curveV : Nat} {curveT : Option Nat}
    {iFrom slope iCeiling kneeDrop tolLo tolHi : Nat}
    (derate : c.record.body = .derate curveV curveT iFrom slope iCeiling kneeDrop tolLo tolHi) :
    (s.derateFigures curveV curveT iFrom slope iCeiling kneeDrop tolLo tolHi).LoadCovered := by
  subst body
  have kind : c.record.kind = .derate := by simp [StepRecord.kind_eq, derate, StepBody.kind]
  have peak : iFrom ≤ iCeiling := by simpa [derate, StepBody.start, StepBody.peak] using h.start
  have noRegulation : s.acq.detectors.regulation = none := by
    by_contra k
    simpa [kind] using (h.regulation k).2.1
  obtain ⟨walk, step, noRecord, phase⟩ := id h.stepIn
  unfold State.derateFigures
  extract_lets vRef yV yT pExp figured limited ramped
  split
  · exact h.endAfter (by simp [Engine.course, Function.comp_def]) (by simp) (by simp) (by simp) (by simp) (.inl still) _ _
  · obtain ⟨free, steady⟩ := still.stage (s.clampFor (.ramp (some iFrom) iCeiling slope) .plain)
    have clamp : limited.clampFor (.ramp (some iFrom) iCeiling slope) .plain
        = s.clampFor (.ramp (some iFrom) iCeiling slope) .plain := by simp [limited, figured, State.clampFor]
    have drive : ramped.drive = s.drive.stage (s.clampFor (.ramp (some iFrom) iCeiling slope) .plain) .plain := by
      simp only [ramped, State.stageStep_drive, clamp]
      simp [limited, figured]
    have acq : ramped.acq = s.acq := by simp [ramped, limited, figured]
    obtain ⟨c', runs, -⟩ := h.inBody (t := ramped.setAcq ((ramped.acq.armKnee (vRef - kneeDrop)).openWindowNext ramped.store.channels))
      (stage := .kneeRamp) rfl (by simp [Engine.course, ramped, limited, figured, walk, step, noRecord])
      (by simp [ramped, limited, figured, phase])
      (by simp only [State.setAcq_drive, drive]
          exact h.stageLawful (by simp) still.2.2.2.1 (by simp [GenSet.peak, derate, StepBody.peak, peak]))
      (by simp [ramped, limited, figured]) (by simp [ramped, limited, figured]) (by simp [ramped, limited, figured])
      (by simpa [acq, Acquisition.armKnee, Acquisition.openWindowNext] using fun mode state => ⟨mode, state⟩)
      (fun c' same stage => by
        simp only [Drive.FitsPhase, same, kind, stage, if_true, State.setAcq_drive, drive]
        exact ⟨free, steady (GenSet.Steady.clamp (.ramp _ _ _) _)⟩) (by simp)
      (by simp only [State.setAcq_drive, drive]; exact fun k => absurd free.2.2 k)
      (by simp [acq, Acquisition.armKnee, Acquisition.openWindowNext, Window.CountsLive, Window.request])
      (by simp [acq, Acquisition.armKnee, Acquisition.openWindowNext, noRegulation])
      (fun _ => ⟨kind, rfl⟩)
    exact runs.loadCovered

/-- A COUNTED window is DONE where the level is held (R99). -/
theorem windowDone (complete : s.acq.window.complete = true) : s.windowDone.LoadCovered := by
  have live : s.acq.window.CountsLive := by
    simp only [Window.complete, Bool.and_eq_true, beq_iff_eq] at complete
    exact ⟨complete.1.1, .inl complete.1.2⟩
  obtain ⟨body, kinds⟩ := h.window live
  subst body
  have still : s.drive.Still := by
    have fits := h.fits
    simp only [Drive.FitsPhase] at fits
    rcases kinds with kind | ⟨kind, stage⟩ | ⟨kind, stage⟩ <;> simpa [kind, *] using fits
  have course : s.evaluateWindow.engine.course = s.engine.course := by simp [Engine.course, Function.comp_def]
  have record : s.evaluateWindow.engine.record = c.record := Engine.record_of_course (course.trans h.stepIn.course)
  obtain ⟨c', stepIn, same, stageEq⟩ := State.stepIn_of_course (course.trans h.stepIn.course)
  have evaluated : s.evaluateWindow.Runs .body c' := by
    refine ⟨by simpa [h.stepIn.2.2.2] using stepIn, h.lawful.of_same rfl rfl (by simp) rfl, by rw [same]; exact h.start, ?_, ?_, ?_, ?_, ?_, ?_,
      fun k => ?_, fun _ => .inl rfl, ?_, ?_⟩
    · exact still.fits (by simp)
    · rw [same]; simpa using h.claim
    · rw [same, stageEq]; exact h.pulse
    · rw [same]; exact h.capture
    · exact fun k => absurd (h.idle (by simp)) k
    · rw [same]; exact h.coupling
    · simp [Window.CountsLive] at k
    · rw [same, stageEq]; exact h.regulation
    · rw [same, stageEq]; exact h.knee
  have still' : s.evaluateWindow.drive.Still := still
  unfold State.windowDone
  extract_lets low u
  split
  · exact evaluated.endAfter (by simp [u, Engine.course, Function.comp_def]) (by simp [u]) (by simp [u]) (by simp [u]) (by simp [u]) (.inl still') _ _
  · exact evaluated.endAfter (by simp [u, Engine.course, Function.comp_def]) (by simp [u]) (by simp [u]) (by simp [u]) (by simp [u]) (.inl still') _ _
  next derate =>
    refine evaluated.derateFigures rfl still' ?_
    rw [same, ← record]
    exact derate
  · exact evaluated.loadCovered

/-! ### The waits of a trip step, and the stop of a pulse -/

/-- The wait of a trip step that has run out ends BODY with NO_TRIP, and a return set is staged (R145, R147). -/
theorem waitEnds (body : p = .body) (kind : c.record.kind = .tripSearch ∨ c.record.kind = .tripTime) {g : GenSet}
    (gSteady : g.Steady) (peak : g.peak ≤ c.record.body.peak) : (s.endWait.stageStep g .plain).LoadCovered := by
  subst body
  obtain ⟨noPulse, regulation, knee⟩ := h.noStage (by rcases kind with k | k <;> simp [k])
  have fits := h.fits
  have both : s.drive.Free ∧ s.drive.Steady := by
    rcases kind with k | k <;> simpa only [Drive.FitsPhase, k] using fits
  exact h.returns rfl both.1 both.2 (by simp [State.endWait, Engine.course, Function.comp_def]) rfl (by simp [State.endWait]) (by simp [State.endWait])
    (by simp [State.endWait]) (by simp [State.endWait]) (by simpa [State.endWait] using fun mode state => ⟨mode, state⟩)
    (by simp [State.endWait, Window.CountsLive, Window.close]) (by simpa [State.endWait] using regulation)
    (by simpa [State.endWait] using knee) noPulse gSteady peak

theorem endWait_record : s.endWait.engine.record = c.record := by
  refine Engine.record_of_course (Eq.trans ?_ h.stepIn.course)
  simp [State.endWait, Engine.course, Function.comp_def]

theorem pulseStop (body : p = .body) (kind : c.record.kind = .pulse) :
    (s.endBody.setDrive s.endBody.drive.stopPulse).LoadCovered := by
  subst body
  obtain ⟨noPulse, regulation, knee⟩ := h.noStage (by simp [kind])
  have free : s.drive.Free := by simpa only [Drive.FitsPhase, kind] using h.fits
  have window : ¬ s.acq.window.CountsLive := fun k => by simpa [kind] using (h.window k).2
  obtain ⟨c', exits, -⟩ := h.exits (t := s.endBody.setDrive s.endBody.drive.stopPulse) (.inl rfl)
    (by simp [Engine.course]) (by simp)
    (by simp only [State.setDrive_drive, State.endBody_drive]; exact h.lawful.drive.of_motion (by rfl)) (by simp) (by simp) (by simp) (by simp)
    (by simp only [State.setDrive_drive, State.endBody_drive]; exact free) (fun other => absurd kind other) noPulse (fun trip => by simp [kind, Kind.tripKind] at trip)
    (by simpa using window) (by simpa using regulation) (by simpa using knee)
  exact exits.loadCovered

/-! ### Ends by time limit and ABORT -/

theorem stopStep : s.stopStep.Lawful ∧ s.stopStep.drive.Unrequested := by
  unfold State.stopStep
  split
  · exact ⟨⟨h.lawful.drive.halt, h.lawful.slots⟩, s.drive.halt_unrequested⟩
  next early =>
    rw [h.stepIn.2.2.2] at early
    have unrequested : s.drive.Unrequested := by
      have fits := h.fits
      cases p <;> simp [Phase.drives] at early <;> exact fits
    refine ⟨⟨?_, h.lawful.slots⟩, unrequested⟩
    change s.drive.Lawful (s.bay.cutOff s.lineSettle).drivenClaim _
    unfold Bay.cutOff
    split
    next raising => exact h.lawful.drive.recover ((h.protocol (by simp [raising])).2 (.inl raising)).2
    · simpa [Bay.idleProtocol, Bay.releaseAttempt_drivenClaim] using h.lawful.drive
    · exact h.lawful.drive

omit h in
theorem stopStep_course (s : State) : s.stopStep.engine = s.engine := by
  unfold State.stopStep
  split <;> rfl

theorem expireStep : s.expireStep.LoadCovered := by
  obtain ⟨lawful, unrequested⟩ := h.stopStep
  have engine := stopStep_course s
  exact State.endStep_loadCovered (by rw [engine]; exact h.stepIn.1) (by rw [engine]; exact h.stepIn.2.1) lawful unrequested _ _

theorem abortStep : s.abortStep.LoadCovered := by
  obtain ⟨lawful, unrequested⟩ := h.stopStep
  have engine := stopStep_course s
  unfold State.abortStep
  generalize stopped : s.stopStep.setEngine _ = u
  have lawful' : u.Lawful := by
    rw [← stopped]
    exact lawful.of_same rfl rfl (by simp) rfl
  have walk : u.engine.walk = .running := by rw [← stopped]; simp [engine, h.stepIn.1]
  have step : u.engine.step = some c := by rw [← stopped]; simp [engine, h.stepIn.2.1]
  exact State.endStep_loadCovered walk step lawful' (by rw [← stopped]; exact unrequested) _ _

/-! ### The protocol -/

/-- A protocol that does not stand in IDLE stands in the phase of its step, where nothing is requested of the drive. -/
theorem protocolPhase {q : Protocol} (protocol : s.bay.protocol = q) (busy : q ≠ .idle) :
    p = q.phase ∧ s.drive.Unrequested ∧ c.stage ≠ .resetPulse := by
  have phase : q.phase = p := by
    rw [← protocol]
    exact (h.protocol (by rw [protocol]; exact busy)).1
  subst phase
  obtain ⟨body, -⟩ := q.phase_ne
  refine ⟨rfl, ?_, fun k => body (h.pulse k).1⟩
  have fits := h.fits
  cases q <;> simp at busy <;> exact fits

/-- A move of the protocol to another state of its own, under the claim as it stands or the prior claim. -/
theorem moves {t : State} {b : Bay} {q : Phase} (bay : t = (s.setBay b).setPhase q) (early : p ≠ .body ∧ p ≠ .exiting)
    (unrequested : s.drive.Unrequested) (stage : c.stage ≠ .resetPulse)
    (lawful : s.drive.Lawful b.drivenClaim s.engine.ratings.vNom) (busy : b.protocol ≠ .idle) (phase : b.protocol.phase = q)
    (raises : b.protocol ≠ .raising)
    (claim : q ≠ .backoff → Covers b.drivenClaim s.engine.ratings.vNom c.record.body.peak)
    (prior : b.protocol = .backoff → b.priorClaim ≤ claimOf c.record.body.peak s.engine.ratings.vNom
        ∧ s.drive.CoveredBy b.priorClaim s.engine.ratings.vNom) : t.LoadCovered := by
  subst bay
  obtain ⟨walk, step, noRecord, -⟩ := h.stepIn
  obtain ⟨quiet, window⟩ := h.quiet early
  have fits : s.drive.FitsPhase c q := by
    rw [← phase]
    cases protocol : b.protocol <;> simp [protocol] at busy <;> exact unrequested
  have moved : ((s.setBay b).setPhase q).Runs q c := by
    refine ⟨⟨walk, step, noRecord, rfl⟩, ⟨lawful, h.lawful.slots⟩, h.start, fits, ?_, fun k => absurd k stage,
      fun kind mode state => absurd (h.capture kind mode state).1 early.2, fun _ => ⟨phase, fun k => prior (k.resolve_left raises)⟩,
      fun k => absurd unrequested.coupling k, fun k => absurd k window, fun k => ?_, fun k => absurd quiet.2.2.1 k,
      fun k => absurd quiet.2.2.2 k⟩
    · rintro (⟨-, k⟩ | k)
      · exact claim k
      · exact absurd k raises
    · rcases k with k | k
      · exact absurd quiet.1 k
      · simp [quiet.2.1] at k
  exact moved.loadCovered

/-- The step's end with another bay interface, under whose claim the drive unit is lawful. -/
theorem endWith (b : Bay) (lawful : s.drive.Lawful b.drivenClaim s.engine.ratings.vNom) (unrequested : s.drive.Unrequested)
    (cause : EndCause) (vs : List Verdict) : ((s.setBay b).endStep cause vs).LoadCovered := by
  have moved : (s.setBay b).Lawful := ⟨lawful, h.lawful.slots⟩
  exact State.endStep_loadCovered (s := s.setBay b) h.stepIn.1 h.stepIn.2.1 moved unrequested cause vs

theorem decideAdmission (raising : s.bay.protocol = .raising) : s.decideAdmission.LoadCovered := by
  obtain ⟨rfl, unrequested, stage⟩ := h.protocolPhase raising (by simp)
  obtain ⟨prior, covered⟩ := (h.protocol (by simp [raising])).2 (.inl raising)
  unfold State.decideAdmission
  split
  · exact h.admitted (by simp [Protocol.phase]) unrequested (h.claim (.inr raising)) stage
  split
  · exact h.moves rfl (by simp [Protocol.phase]) unrequested stage (h.lawful.drive.recover covered) (by simp [Bay.enterBackoff])
      rfl (by simp [Bay.enterBackoff]) (fun k => absurd rfl k) (fun _ => ⟨prior, covered⟩)
  · exact h.endWith s.bay.withdraw.idleProtocol (h.lawful.drive.recover covered) unrequested _ _

theorem backoffEnd (backoff : s.bay.protocol = .backoff) : s.beginAttempt.LoadCovered := by
  obtain ⟨rfl, unrequested, stage⟩ := h.protocolPhase backoff (by simp)
  obtain ⟨prior, covered⟩ := (h.protocol (by simp [backoff])).2 (.inr backoff)
  exact h.beginAttempt (by simp [Protocol.phase]) unrequested prior covered stage

theorem quietWaitEnd (quiet : s.bay.protocol = .quiet) : (s.setBay (s.bay.enterAsserting s.lineSettle)).LoadCovered := by
  obtain ⟨rfl, unrequested, stage⟩ := h.protocolPhase quiet (by simp)
  refine h.moves (q := .gate) (b := s.bay.enterAsserting s.lineSettle) ?_ (by simp [Protocol.phase]) unrequested stage
    h.lawful.drive (by simp [Bay.enterAsserting]) rfl (by simp [Bay.enterAsserting]) (fun _ => h.covers (by simp [Protocol.phase]))
    (fun k => by simp [Bay.enterAsserting] at k)
  refine State.ext_inner rfl ?_ rfl rfl rfl rfl
  have phase := h.stepIn.2.2.2
  simp only [State.setBay_engine, State.setPhase_engine]
  cases engine : s.engine with
  | mk => rw [engine] at phase; simp at phase; simp [phase, Protocol.phase]

theorem gateBackoffEnd (backoff : s.bay.protocol = .gateBackoff) : s.enterGate.LoadCovered := by
  obtain ⟨rfl, unrequested, stage⟩ := h.protocolPhase backoff (by simp)
  exact h.moves (q := .gate) (b := s.bay.enterQuiet) rfl (by simp [Protocol.phase]) unrequested stage h.lawful.drive
    (by simp [Bay.enterQuiet]) rfl (by simp [Bay.enterQuiet]) (fun _ => h.covers (by simp [Protocol.phase]))
    (fun k => by simp [Bay.enterQuiet] at k)

theorem decideGate (asserting : s.bay.protocol = .asserting) : s.decideGate.LoadCovered := by
  obtain ⟨rfl, unrequested, stage⟩ := h.protocolPhase asserting (by simp)
  have claim := s.bay.releaseAttempt_drivenClaim s.lineSettle
  have covers := h.covers (by simp [Protocol.phase])
  unfold State.decideGate
  dsimp only
  split
  · have held : (s.setBay (s.bay.assertUnit .gate).idleProtocol).Runs Protocol.asserting.phase c :=
      { stepIn := h.stepIn, lawful := ⟨h.lawful.drive, h.lawful.slots⟩, start := h.start, fits := h.fits, claim := fun _ => covers,
        pulse := h.pulse, capture := h.capture, protocol := fun k => absurd rfl k, coupling := h.coupling, window := h.window,
        trips := h.trips, regulation := h.regulation, knee := h.knee }
    exact held.enterApply (by simp [Protocol.phase]) unrequested covers rfl stage
  split
  · exact h.moves (q := .gateBackoff) (b := (s.bay.releaseAttempt s.lineSettle).enterGateBackoff s.slotSamples) rfl
      (by simp [Protocol.phase]) unrequested stage (by simpa [Bay.enterGateBackoff, claim] using h.lawful.drive) (by simp [Bay.enterGateBackoff]) rfl
      (by simp [Bay.enterGateBackoff]) (fun _ => by simpa [Bay.enterGateBackoff, claim] using covers) (fun k => by simp [Bay.enterGateBackoff] at k)
  · exact h.endWith (s.bay.releaseAttempt s.lineSettle).idleProtocol (by simpa [Bay.idleProtocol, claim] using h.lawful.drive)
      unrequested _ _

end State.Runs

end Sys2Proof.Machine

/-! ## The claim law and the clamp law: the events of the drive unit, of capture and of the waits -/

namespace Sys2Proof.Machine

theorem Engine.stepping_eq_false_of_walk {e : Engine} (walk : e.walk ≠ .running) : e.stepping = false := by
  cases h : e.stepping with
  | false => rfl
  | true => exact absurd ((Engine.stepping_iff e).1 h).1 walk

/-- What moves neither the engine nor what is in play keeps the laws. -/
theorem State.LoadCovered.of_same {s t : State} (h : s.LoadCovered) (engine : t.engine = s.engine)
    (same : t.inPlay = s.inPlay) : t.LoadCovered := by
  cases stepping : s.engine.stepping with
  | true =>
    obtain ⟨c, stepIn⟩ := State.stepIn_of_stepping stepping
    exact ((h.runs stepIn).of_same (by simpa only [State.StepIn, engine] using stepIn) rfl rfl same).loadCovered
  | false =>
    have noStep := State.not_stepIn_of_not_stepping stepping
    obtain ⟨protocol, coupling, window, detectors⟩ := h.unattended noStep
    have lawful := h.lawful
    obtain ⟨-, -, -, -, -, -, -, -, -, -, -, unrequested, restFits⟩ := h
    simp only [State.inPlay, Prod.mk.injEq] at same
    obtain ⟨motion, ⟨claim, -, protocolEq⟩, ratings, store, ⟨mode, state⟩, detectorsEq, -, -⟩ := same
    have moved := motion
    simp only [Drive.motion, Prod.mk.injEq] at moved
    obtain ⟨level, range, change, active, status, staged, couplingEq⟩ := moved
    refine State.loadCovered_of_unattended (lawful.of_same motion claim ratings store)
      ⟨protocolEq.trans protocol, couplingEq.trans coupling, ?_, detectorsEq ▸ detectors⟩ ?_ ?_ ?_
    · rwa [Window.CountsLive, mode, state]
    · simpa only [State.StepIn, engine] using noStep
    · rw [engine]
      exact fun k => (unrequested k).of_motion motion
    · rw [engine]
      intro k
      have fits := restFits k
      simpa only [State.RestFits, engine, Drive.Free, Drive.Steady, Drive.Still, level, change, active, status, staged,
        couplingEq] using fits

theorem State.LoadCovered.setDrive_of_motion {s : State} (h : s.LoadCovered) {d : Drive}
    (motion : d.motion = s.drive.motion) : (s.setDrive d).LoadCovered :=
  h.of_same rfl (by simp [State.inPlay, motion])

/-- What PAUSED, a waiting record and PAGE_WAIT ask of the drive unit. -/
theorem State.LoadCovered.unrequested {s : State} (h : s.LoadCovered)
    (walk : s.engine.walk = .paused ∨ (s.engine.walk = .running ∧ s.engine.waiting ≠ none)) : s.drive.Unrequested :=
  h.2.2.2.2.2.2.2.2.2.2.2.1 walk

theorem State.LoadCovered.restFits {s : State} (h : s.LoadCovered) (walk : s.engine.walk = .pageWait) : s.RestFits :=
  h.2.2.2.2.2.2.2.2.2.2.2.2 walk

/-- In PAGE_WAIT no set waits. -/
theorem State.RestFits.staged {s : State} (h : s.RestFits) : s.drive.staged = none := by
  unfold State.RestFits at h
  split at h
  exacts [h.elim, h.2.1, h.1.1, h.2.2.1, h.2.2.1]

/-- With no step in progress another drive unit in its place keeps the laws, where PAUSED, a waiting record and PAGE_WAIT
allow it. -/
theorem State.LoadCovered.setDrive_of_noStep {s : State} (h : s.LoadCovered) (stepping : s.engine.stepping = false)
    {d : Drive} (lawful : d.Lawful s.bay.drivenClaim s.engine.ratings.vNom) (coupling : d.coupling = s.drive.coupling)
    (unrequested : s.drive.Unrequested → d.Unrequested) (restFits : s.RestFits → (s.setDrive d).RestFits) :
    (s.setDrive d).LoadCovered := by
  have noStep := State.not_stepIn_of_not_stepping stepping
  obtain ⟨protocol, noCoupling, window, detectors⟩ := h.unattended noStep
  exact State.loadCovered_of_unattended ⟨lawful, h.lawful.slots⟩ ⟨protocol, coupling.trans noCoupling, window, detectors⟩ noStep
    (fun k => unrequested (h.unrequested k)) (fun k => restFits (h.restFits k))

/-! ### A waiting set goes on -/

theorem Drive.releaseStaged_of_none {d : Drive} (h : d.staged = none) : d.releaseStaged = d := by
  simp [Drive.releaseStaged, h]

theorem Drive.releaseStaged_of_busy {d : Drive} (h : d.busy = true) : d.releaseStaged = d := by
  unfold Drive.releaseStaged
  split
  · simp [h]
  · rfl

theorem Drive.releaseStaged_coupling (d : Drive) : d.releaseStaged.coupling = d.coupling := by
  unfold Drive.releaseStaged Drive.proceed Drive.takeForce Drive.beginRangeChange
  (repeat' split) <;> rfl

/-- In a step in progress a set waits for a range change alone. -/
theorem Drive.FitsPhase.releaseStaged {d : Drive} {c : StepContext} {p : Phase} (fits : d.FitsPhase c p) :
    d.releaseStaged = d := by
  cases p with
  | applying =>
    obtain ⟨-, -, -, -, ⟨change, -⟩ | ⟨-, staged, -⟩⟩ := fits
    · exact Drive.releaseStaged_of_busy (by simp [Drive.busy, change])
    · exact Drive.releaseStaged_of_none staged
  | settle | body | exiting => exact Drive.releaseStaged_of_none (fits.noChange (by simp)).2
  | _ => exact Drive.releaseStaged_of_none (Drive.Unrequested.staged fits)

theorem State.LoadCovered.releaseStaged {s : State} (h : s.LoadCovered) :
    (s.setDrive s.drive.releaseStaged).LoadCovered := by
  cases stepping : s.engine.stepping with
  | true =>
    obtain ⟨c, stepIn⟩ := State.stepIn_of_stepping stepping
    rw [(h.runs stepIn).fits.releaseStaged]
    exact h
  | false =>
    refine h.setDrive_of_noStep stepping h.lawful.drive.releaseStaged s.drive.releaseStaged_coupling (fun k => ?_) (fun k => ?_)
    · rwa [Drive.releaseStaged_of_none k.staged]
    · rwa [Drive.releaseStaged_of_none k.staged]

/-! ### The end of a set -/

theorem State.reachRest_loadCovered {s : State} (lawful : s.Lawful) (unattended : s.Unattended)
    (walk : s.engine.walk = .pageWait) (still : s.drive.Still) : s.reachRest.LoadCovered := by
  obtain ⟨protocol, coupling, window, detectors⟩ := unattended
  have covered : s.drive.CoveredBy (min s.bay.drivenClaim (claimOf (s.drive.level / 1000) s.engine.ratings.vNom))
      s.engine.ratings.vNom := by
    have level : Covers (min s.bay.drivenClaim (claimOf (s.drive.level / 1000) s.engine.ratings.vNom))
        s.engine.ratings.vNom (s.drive.level / 1000) := le_min lawful.drive.covered.1 le_rfl
    exact ⟨level, by rw [still.1]; exact level, by simp [still.2.2.1]⟩
  refine State.loadCovered_of_unattended ⟨?_, by simpa using lawful.slots⟩
    ⟨by simpa [Bay.lowerClaim] using protocol, by simpa using coupling, by simpa using window, by simpa using detectors⟩
    (State.not_stepIn_of_walk (by simp [walk])) (by simp [walk]) (fun _ => ?_)
  · simpa [Bay.lowerClaim] using lawful.drive.recover covered
  · simpa [State.RestFits] using still

theorem State.makeReleases_loadCovered {s : State} (covered : s.LoadCovered) (walk : s.engine.walk = .winddown)
    (landed : s.drive.winddownReleases.AtRest) : s.makeReleases.LoadCovered := by
  obtain ⟨-, -, window, detectors⟩ := covered.unattended (State.not_stepIn_of_walk (by simp [walk]))
  have coupling : s.drive.winddownReleases.coupling = .none := landed.2.2.2.2.2.2.1
  unfold State.makeReleases
  exact State.offerSummary_loadCovered (State.loadCovered_of_off ⟨landed.lawful _ _, covered.lawful.slots⟩
    ⟨rfl, coupling, window, detectors⟩ (by simp [walk])) (by simpa using walk)

namespace State.Runs

variable {s : State} {p : Phase} {c : StepContext} (h : s.Runs p c)
include h

/-- A step in BODY or EXIT whose set has ended, or whose pulse has, holds the level. -/
theorem hold {d : Drive} (phase : p = .body ∨ p = .exiting) (still : d.Still)
    (lawful : d.Lawful s.bay.drivenClaim s.engine.ratings.vNom) : (s.setDrive d).Runs p c where
  stepIn := h.stepIn
  lawful := ⟨lawful, h.lawful.slots⟩
  start := h.start
  fits := still.fits (by rcases phase with rfl | rfl <;> simp)
  claim := h.claim
  pulse := h.pulse
  capture kind mode state := ⟨(h.capture kind mode state).1, still⟩
  protocol k := absurd (h.idle (by rcases phase with rfl | rfl <;> simp)) k
  coupling k := absurd still.2.2.2.2 k
  window := h.window
  trips := h.trips
  regulation := h.regulation
  knee := h.knee

theorem setEndInBody (body : p = .body) (still : s.drive.Still) : s.setEndInBody.LoadCovered := by
  subst body
  have record := h.record
  unfold State.setEndInBody
  split
  · exact h.endAfter (by simp [Engine.course, Function.comp_def]) (by simp) (by simp) (by simp) (by simp) (.inl still) _ _
  · exact h.endAfter (by simp [Engine.course, Function.comp_def]) (by simp) (by simp) (by simp) (by simp) (.inl still) _ _
  · obtain ⟨c', same, -⟩ := h.of_inPlay (t := s.mapStep fun c => { c with wait := some Config.ceilingHold })
      (by simp [Engine.course, Function.comp_def]) rfl (by simp [State.inPlay])
    exact same.loadCovered
  next c₀ recover step =>
    obtain rfl : c = c₀ := Option.some.inj (h.stepIn.2.1.symm.trans step)
    have kind : c.record.kind = .recover := by rw [StepRecord.kind_eq, ← record, recover]; rfl
    have knee : s.acq.detectors.knee = none := by
      by_contra k
      simpa [kind] using (h.knee k).2.1
    split
    next ramping =>
      have regulation : s.acq.detectors.regulation = none := by
        by_contra k
        simpa [ramping] using (h.regulation k).2.2
      obtain ⟨walk, -, noRecord, phase⟩ := h.stepIn
      obtain ⟨c', runs, -⟩ := h.inBody (t := (s.openWindow .counted Config.watchLength
          (windowChannels [.measured .vOut] s.engine.record)).setStage .watch) (stage := .watch) rfl
        (by simp [Engine.course, walk, step, noRecord]) phase h.lawful.drive rfl (by simp) rfl
        (fun mode state => ⟨mode, state⟩) (fun _ _ _ => still.fits (by simp)) (by simp) (fun k => absurd still.2.2.2.2 k)
        (fun _ => .inr (.inl ⟨kind, rfl⟩)) (fun k => absurd regulation k) (fun k => absurd knee k)
      exact runs.loadCovered
    · exact h.loadCovered
  next c₀ derate step =>
    have kind : c.record.kind = .derate := by rw [StepRecord.kind_eq, ← record, derate]; rfl
    split
    · exact h.endKneeRamp rfl kind still.free still.steady _
    · exact h.loadCovered
  · exact h.loadCovered

theorem setEndInExit (still : s.drive.Still) : s.setEndInExit.LoadCovered := by
  have ends : (s.endStep .normal []).LoadCovered := h.endStep (.inl still) _ _
  unfold State.setEndInExit
  split
  · exact h.endAfter (by simp [Engine.course, Function.comp_def]) (by simp) (by simp) (by simp) (by simp) (.inl still) _ _
  · split
    · exact ends
    · exact h.loadCovered
  · split
    · exact ends
    · exact h.loadCovered
  · exact ends
  · exact h.loadCovered

/-- APPLY completes under the claim lowered to the step claim (R26, R49). -/
theorem completeApply (applying : p = .applying) (rest : s.LinesRest) {d : Drive} {stop : Nat} (still : d.Still)
    (lawful : d.Lawful s.bay.drivenClaim s.engine.ratings.vNom) (le : stop ≤ c.record.body.peak)
    (level : d.level = stop * 1000) (span : d.span ≤ s.drive.span) : (s.setDrive d).completeApply.LoadCovered := by
  subst applying
  have claimed : (s.setDrive d).stepClaim = claimOf c.record.body.peak s.engine.ratings.vNom := by
    have record : (s.setDrive d).engine.record = c.record := h.record
    rw [State.stepClaim, record]
    rfl
  have covers := h.covers (by simp)
  have claim : min s.bay.drivenClaim (claimOf c.record.body.peak s.engine.ratings.vNom)
      = claimOf c.record.body.peak s.engine.ratings.vNom := min_eq_right covers
  obtain ⟨quiet, window⟩ := h.quiet (by simp)
  obtain ⟨walk, step, noRecord, -⟩ := h.stepIn
  have covered : d.CoveredBy (claimOf c.record.body.peak s.engine.ratings.vNom) s.engine.ratings.vNom := by
    have load : Covers (claimOf c.record.body.peak s.engine.ratings.vNom) s.engine.ratings.vNom (d.level / 1000) :=
      claimOf_mono _ (by omega)
    exact ⟨load, by rw [still.1]; exact load, by simp [still.2.2.1]⟩
  unfold State.completeApply
  extract_lets u
  have bay : u.bay = { s.bay with drivenClaim := claimOf c.record.body.peak s.engine.ratings.vNom } := by
    simp [u, Bay.lowerClaim, claimed, claim]
  have inStep : u.InStep := ((rest.inStep h.stepIn.stepping).setDrive span).setBay _
  generalize settled : (u.setAcq _).setPhase .settle = v
  have runs : v.Runs .settle c := by
    have acq : v.acq.detectors = s.acq.detectors ∧ v.acq.window = s.acq.window ∧ v.acq.capture = s.acq.capture := by
      rw [← settled]
      exact ⟨rfl, rfl, rfl⟩
    have store : v.store = s.store := by rw [← settled]; rfl
    have drive : v.drive = d := by rw [← settled]; rfl
    have engine : v.engine = { s.engine with phase := .settle } := by rw [← settled]; rfl
    have bayEq : v.bay = { s.bay with drivenClaim := claimOf c.record.body.peak s.engine.ratings.vNom } := by
      rw [← settled]; exact bay
    have ratings : v.engine.ratings = s.engine.ratings := by rw [engine]; rfl
    refine ⟨⟨by rw [engine]; exact walk, by rw [engine]; exact step, by rw [engine]; exact noRecord, by rw [engine]⟩,
      ⟨by rw [drive, bayEq, ratings]; exact lawful.recover covered, by rw [store]; exact h.lawful.slots⟩, h.start, by rw [drive]; exact still,
      fun _ => by rw [bayEq, ratings]; exact le_rfl,
      fun k => by simpa using (h.pulse k).1, ?_, ?_, by rw [drive]; exact fun k => absurd still.2.2.2.2 k, ?_, ?_, ?_, ?_⟩
    · rw [acq.2.2]
      exact fun kind mode state => absurd (h.capture kind mode state).1 (by simp)
    · rw [bayEq]
      exact fun k => absurd (h.idle (by simp)) k
    · rw [acq.2.1]
      exact fun k => absurd k window
    · rw [acq.1]
      simp [quiet.1, quiet.2.1]
    · rw [acq.1]
      exact fun k => absurd quiet.2.2.1 k
    · rw [acq.1]
      exact fun k => absurd quiet.2.2.2 k
  exact runs.checkSettle rfl (by rw [← settled]; exact ((inStep.setAcq _).setPhase _).linesRest)

/-- The set of a step in progress has ended, and the step takes the end (R26, R129 to R132, R145, R154, R161). -/
theorem takeSetEnd (rest : s.LinesRest) (ended : s.drive.status = .ended) :
    (s.setDrive s.drive.holdLevel).takeSetEnd.LoadCovered := by
  have noChange := h.lawful.drive.noChange_of_ended ended
  have lawful := h.lawful.drive.holdLevel noChange
  have fits := h.fits
  obtain ⟨walk, step, noRecord, phase⟩ := id h.stepIn
  have stepping := h.stepIn.stepping
  have notStill : ¬ s.drive.Still := fun still => by simp [still.2.1] at ended
  have notUnrequested : ¬ s.drive.Unrequested := fun k => notStill (k.still noChange)
  have free (k : p = .body ∨ p = .exiting) : s.drive.Free := by
    rcases k with rfl | rfl
    · rcases fits.body_cases with still | ⟨free, -⟩ | ⟨-, free⟩ | ⟨-, -, status, -⟩
      · exact absurd still notStill
      · exact free
      · exact free
      · simp [ended] at status
    · exact fits.1
  unfold State.takeSetEnd
  simp only [State.setDrive_engine, walk, stepping, phase, if_true]
  cases p with
  | applying =>
    obtain ⟨coupling, stop, slope, le, ⟨change, -⟩ | ⟨-, staged, active, status⟩⟩ := fits
    · exact absurd noChange change
    · have level : s.drive.level = stop * 1000 := by simpa [ended] using status
      have still : s.drive.holdLevel.Still := Drive.Free.hold ⟨staged, noChange, coupling⟩
      dsimp only
      rw [if_pos (by simp [staged])]
      exact h.completeApply rfl rest still lawful le level s.drive.span_holdLevel_le
  | body => exact (h.hold (.inl rfl) (free (.inl rfl)).hold lawful).setEndInBody rfl (free (.inl rfl)).hold
  | exiting => exact (h.hold (.inr rfl) (free (.inr rfl)).hold lawful).setEndInExit (free (.inr rfl)).hold
  | settle => exact absurd fits notStill
  | _ => exact absurd fits notUnrequested

end State.Runs

theorem Drive.proceed_coupling (d : Drive) (g : GenSet) (range : Option LoadRange) :
    (d.proceed g range).coupling = d.coupling := by
  unfold Drive.proceed
  (repeat' split) <;> rfl

theorem Drive.endCycle_coupling (d : Drive) : d.endCycle.coupling = d.coupling := by
  unfold Drive.endCycle
  dsimp only
  (repeat' split) <;> simp [Drive.proceed_coupling]

namespace State.LoadCovered

variable {s : State} (h : s.LoadCovered) (rest : s.LinesRest)
include h rest

theorem reportSetEnd (ended : s.drive.status = .ended) : s.reportSetEnd.LoadCovered := by
  refine State.LoadCovered.releaseStaged (s := (s.setDrive s.drive.holdLevel).takeSetEnd) ?_
  have noChange := h.lawful.drive.noChange_of_ended ended
  have lawful := h.lawful.drive.holdLevel noChange
  cases stepping : s.engine.stepping with
  | true =>
    obtain ⟨c, stepIn⟩ := State.stepIn_of_stepping stepping
    exact (h.runs stepIn).takeSetEnd rest ended
  | false =>
    have notStill : ¬ s.drive.Still := fun still => by simp [still.2.1] at ended
    have ramps (fits : s.RestFits) : s.engine.rest = .ramping ∧ s.drive.Free := by
      unfold State.RestFits at fits
      split at fits
      · exact fits.elim
      · exact absurd noChange fits.1
      next ramping => exact ⟨ramping, fits.1⟩
      · exact absurd fits notStill
      · exact absurd fits notStill
    have held : (s.setDrive s.drive.holdLevel).LoadCovered := by
      refine h.setDrive_of_noStep stepping lawful rfl (fun k => absurd (k.still noChange) notStill) (fun k => ?_)
      obtain ⟨ramping, free⟩ := ramps k
      simpa [State.RestFits, ramping] using ⟨free.hold.free, free.hold.steady⟩
    unfold State.takeSetEnd
    simp only [State.setDrive_engine, stepping, Bool.false_eq_true, if_false]
    split
    next walk =>
      split
      next due =>
        obtain ⟨staged, noRelease⟩ := due
        exact State.makeReleases_loadCovered held walk
          (rest.landed ended walk (by simpa using noRelease) (by simpa using staged))
      · exact held
    next walk =>
      obtain ⟨ramping, free⟩ := ramps (h.restFits walk)
      rw [if_pos ramping]
      exact State.reachRest_loadCovered held.lawful (held.unattended (State.not_stepIn_of_walk (by simp [walk]))) walk free.hold
    · exact held
    · exact held

/-! ### Pulses -/

omit rest in
/-- A pulse in force is that of a PULSE step in BODY or EXIT, or waits out a halt or the way to WINDDOWN's ramp. -/
theorem pulse_cases {lo hi period high cycles : Nat} (active : s.drive.active = .pulse lo hi period high cycles) :
    (∃ p c, s.Runs p c ∧ (p = .body ∨ p = .exiting) ∧ c.record.body.kind = .pulse ∧ s.drive.Free)
      ∨ (s.engine.stepping = false ∧ ¬ s.drive.Unrequested ∧ ¬ s.RestFits) := by
  have noChange : s.drive.rangeChange = .none := by
    by_contra change
    rcases h.lawful.drive.down change with ⟨-, level, -⟩ | ⟨-, ⟨slope, ramp⟩, -⟩
    · simp [active] at level
    · simp [active] at ramp
  have notSteady : ¬ s.drive.Steady := fun k => k lo hi period high cycles active
  have notStill : ¬ s.drive.Still := fun k => notSteady k.steady
  have notUnrequested : ¬ s.drive.Unrequested := fun k => notStill (k.still noChange)
  cases stepping : s.engine.stepping with
  | true =>
    obtain ⟨c, stepIn⟩ := State.stepIn_of_stepping stepping
    have runs := h.runs stepIn
    have fits := runs.fits
    refine .inl ⟨_, c, runs, ?_⟩
    cases phase : s.engine.phase with rw [phase] at fits
    | applying =>
      obtain ⟨-, stop, slope, -, ⟨change, -⟩ | ⟨-, -, ramp, -⟩⟩ := fits
      · exact absurd noChange change
      · simp [active] at ramp
    | body =>
      rcases fits.body_cases with still | ⟨-, steady⟩ | ⟨kind, free⟩ | ⟨-, level, -⟩
      · exact absurd still notStill
      · exact absurd steady notSteady
      · exact ⟨.inl rfl, kind, free⟩
      · simp [active] at level
    | exiting => exact ⟨.inr rfl, by by_contra other; exact notSteady (fits.2 other), fits.1⟩
    | settle => exact absurd fits notStill
    | _ => exact absurd fits notUnrequested
  | false =>
    refine .inr ⟨rfl, notUnrequested, fun k => ?_⟩
    unfold State.RestFits at k
    split at k
    exacts [k, k.1 noChange, notSteady k.2, notStill k, notStill k]

theorem takeCycleEnd : s.takeCycleEnd.LoadCovered := by
  by_cases pulse : ∃ lo hi period high cycles, s.drive.active = .pulse lo hi period high cycles
  · obtain ⟨lo, hi, period, high, cycles, active⟩ := pulse
    have lawful := h.lawful.drive.endCycle
    rcases h.pulse_cases active with ⟨p, c, runs, phase, kind, free⟩ | ⟨stepping, notUnrequested, notRest⟩
    · have record := runs.record
      have pulse : ∃ lo hi period high cycles, c.record.body = .pulse lo hi period high cycles := by
        cases body : c.record.body <;> simp [body, StepBody.kind] at kind
        exact ⟨_, _, _, _, _, rfl⟩
      obtain ⟨lo', hi', period', high', cycles', body⟩ := pulse
      unfold State.takeCycleEnd
      dsimp only
      split
      next last =>
        refine State.LoadCovered.releaseStaged (s := (s.setDrive s.drive.endCycle).takeSetEnd) ?_
        have still : s.drive.endCycle.Still := by
          simp [Drive.Still, Drive.endCycle, active, last, Drive.holdLevel, free.1, free.2]
        have ended := runs.hold phase still lawful
        obtain ⟨walk, -, -, phaseEq⟩ := runs.stepIn
        unfold State.takeSetEnd
        simp only [State.setDrive_engine, walk, runs.stepIn.stepping, phaseEq, if_true]
        rcases phase with rfl | rfl
        · exact ended.setEndInBody rfl still
        · exact ended.setEndInExit still
      next more =>
        refine h.setDrive_of_motion ?_
        simp [Drive.endCycle, active, more, free.1, Drive.motion]
    · have counted : (s.setDrive s.drive.endCycle).LoadCovered :=
        h.setDrive_of_noStep stepping lawful s.drive.endCycle_coupling (fun k => absurd k notUnrequested)
          (fun k => absurd k notRest)
      unfold State.takeCycleEnd
      dsimp only
      split
      next last =>
        have stays : (s.setDrive s.drive.endCycle).takeSetEnd = s.setDrive s.drive.endCycle := by
          unfold State.takeSetEnd
          simp only [State.setDrive_engine, stepping, Bool.false_eq_true, if_false]
          split
          next walk =>
            refine if_neg fun k => ?_
            obtain ⟨staged, noRelease⟩ := k
            obtain ⟨slope, waits⟩ | ⟨-, -, -, slope, ramp, -⟩ := rest.2.2.2.1 walk (by simpa using noRelease)
            · simp [Drive.endCycle, active, last, Drive.holdLevel, waits] at staged
            · simp [active] at ramp
          next walk => exact absurd (h.restFits walk) notRest
          · rfl
          · rfl
        rw [stays]
        exact counted.releaseStaged
      · exact counted
  · have notLast : s.drive.lastCycle = false := by
      unfold Drive.lastCycle
      split
      next active => exact absurd ⟨_, _, _, _, _, active⟩ pulse
      · rfl
    unfold State.takeCycleEnd
    dsimp only
    rw [if_neg (by simp [notLast])]
    refine h.setDrive_of_motion ?_
    unfold Drive.endCycle
    dsimp only
    split
    next active => exact absurd ⟨_, _, _, _, _, active⟩ pulse
    · rfl

end State.LoadCovered

end Sys2Proof.Machine

/-! ## The claim law and the clamp law: range changes, couplings, reset pulses and the rows of the events -/

namespace Sys2Proof.Machine

/-- An operation of the drive unit alone keeps what the laws ask of the drive unit, in a step and between steps. -/
structure Drive.Carries (d d' : Drive) : Prop where
  lawful : ∀ claim vNom, d.Lawful claim vNom → d'.Lawful claim vNom
  span : d'.span ≤ d.span
  fits : ∀ c p, d.FitsPhase c p → d'.FitsPhase c p
  still : d.Still → d'.Still
  unrequested : d.Unrequested → d'.Unrequested
  coupling : d.coupling = .none → d'.coupling = .none

theorem State.LoadCovered.setDrive {s : State} (h : s.LoadCovered) {d : Drive} (carries : s.drive.Carries d)
    (restFits : s.engine.walk = .pageWait → (s.setDrive d).RestFits) : (s.setDrive d).LoadCovered := by
  have lawful := carries.lawful _ _ h.lawful.drive
  cases stepping : s.engine.stepping with
  | true =>
    obtain ⟨c, stepIn⟩ := State.stepIn_of_stepping stepping
    have runs := h.runs stepIn
    have moved : (s.setDrive d).Runs s.engine.phase c :=
      { stepIn := stepIn, lawful := ⟨lawful, h.lawful.slots⟩, start := runs.start, fits := carries.fits _ _ runs.fits,
        claim := runs.claim, pulse := runs.pulse,
        capture := fun kind mode state => (runs.capture kind mode state).imp_right carries.still,
        protocol := fun k => (runs.protocol k).imp_right fun prior raised => (prior raised).imp_right fun covered =>
          covered.of_span_le carries.span,
        coupling := fun k => runs.coupling fun none => k (carries.coupling none),
        window := runs.window, trips := runs.trips, regulation := runs.regulation, knee := runs.knee }
    exact moved.loadCovered
  | false =>
    have noStep := State.not_stepIn_of_not_stepping stepping
    obtain ⟨protocol, noCoupling, window, detectors⟩ := h.unattended noStep
    exact State.loadCovered_of_unattended ⟨lawful, h.lawful.slots⟩ ⟨protocol, carries.coupling noCoupling, window, detectors⟩
      noStep (fun k => carries.unrequested (h.unrequested k)) restFits

/-! ### Range changes -/

/-- In a range change a step is in APPLY, or nothing is requested. -/
theorem Drive.FitsPhase.of_changing {d d' : Drive} {c : StepContext} {p : Phase} (fits : d.FitsPhase c p)
    (changing : d.rangeChange ≠ .none) (applies : d.Applies c.record.body.peak → d'.Applies c.record.body.peak)
    (unrequested : d.Unrequested → d'.Unrequested) : d'.FitsPhase c p :=
  fits.imp applies (fun k => absurd k.2.2.2.1 changing) (fun k => absurd k.2.1 changing)
    (fun k => absurd k.2.1 changing) (fun k => absurd k.2.2.2 changing) unrequested

theorem Drive.endDown_carries {d : Drive} {target : LoadRange} (due : d.rangeChange = .down target true) :
    d.Carries d.endDown := by
  have changing : d.rangeChange ≠ .none := by simp [due]
  have ended : d.endDown = { d with
      loadEnable := false, range := target, relayCount := Config.relayWait, rangeChange := .relayWait } := by
    simp [Drive.endDown, due]
  have unrequested (h : d.Unrequested) : d.endDown.Unrequested := by
    obtain ⟨-, staged, coupling⟩ := h.resolve_left fun still => changing still.2.2.2.1
    rw [ended]
    exact .inr ⟨by simp, staged, coupling⟩
  refine ⟨fun _ _ lawful => lawful.endDown due, d.span_endDown.le, fun c p fits => ?_,
    fun still => absurd still.2.2.2.1 changing, unrequested, fun none => by rw [ended]; exact none⟩
  refine fits.of_changing changing (fun applies => ?_) unrequested
  obtain ⟨coupling, stop, slope, le, ⟨-, staged⟩ | ⟨none, -⟩⟩ := applies
  · rw [ended]
    exact ⟨coupling, stop, slope, le, .inl ⟨by simp, staged⟩⟩
  · exact absurd none changing

theorem rangeDownEnd_covers : EventCovers State.rangeDownEnd := by
  intro s t _ covered due
  unfold State.rangeDownEnd at due
  split at due
  next target reached =>
    cases due
    refine covered.setDrive (Drive.endDown_carries reached) fun walk => ?_
    have fits := covered.restFits walk
    have changing : s.drive.rangeChange ≠ .none := by simp [reached]
    unfold State.RestFits at fits ⊢
    split at fits
    · exact fits.elim
    next deferred =>
      rw [show (s.setDrive s.drive.endDown).engine.rest = .deferred from deferred]
      simpa [Drive.endDown, reached] using fits.2
    · exact absurd fits.1.2.1 changing
    · exact absurd fits.2.2.2.1 changing
    · exact absurd fits.2.2.2.1 changing
  · cases due

/-- With the relay at rest the level stands at 0 (R78). -/
theorem Drive.Lawful.atZero {d : Drive} {claim vNom : Nat} (h : d.Lawful claim vNom) (waits : d.rangeChange = .relayWait) :
    d.level = 0 ∧ d.active = .level 0 ∧ d.status = .rest := by
  rcases h.down (by simp [waits]) with zero | ⟨-, -, target, running⟩
  · exact zero
  · simp [waits] at running

/-- At the relay count's end the set that waits for the range change goes on, and with none the level stands at 0. -/
theorem Drive.relayExpiry_carries {d : Drive} {claim vNom : Nat} (h : d.Lawful claim vNom) (waits : d.rangeChange = .relayWait) :
    d.Carries d.relayExpiry ∧ (d.Unrequested → d.relayExpiry.Still) := by
  have changing : d.rangeChange ≠ .none := by simp [waits]
  obtain ⟨level, active, status⟩ := h.atZero waits
  have expired : d.relayExpiry = ({ d with
      loadEnable := true, loadRequest := false, rangeChange := .none, rangeChanged := true } : Drive).releaseStaged := by
    simp [Drive.relayExpiry, waits]
  have rests (k : d.Unrequested) : d.relayExpiry.Still := by
    rw [expired, Drive.releaseStaged_of_none (by exact k.staged)]
    exact ⟨by simp [active, level], status, k.staged, rfl, k.coupling⟩
  refine ⟨⟨fun _ _ lawful => lawful.relayExpiry, d.span_relayExpiry_le, fun c p fits => ?_,
    fun still => absurd still.2.2.2.1 changing, fun k => .inl (rests k), fun none => by
      rw [expired, Drive.releaseStaged_coupling]; exact none⟩, rests⟩
  refine fits.of_changing changing (fun applies => ?_) fun k => .inl (rests k)
  obtain ⟨coupling, stop, slope, le, ⟨-, range, staged⟩ | ⟨none, -⟩⟩ := applies
  · rw [expired]
    unfold Drive.releaseStaged
    rw [staged]
    dsimp only
    rw [if_neg (by simp [Drive.busy, Drive.pulsing, active, coupling])]
    unfold Drive.proceed
    dsimp only
    split
    · exact ⟨coupling, stop, slope, le, .inr ⟨rfl, rfl, rfl, .inl rfl⟩⟩
    · exact ⟨coupling, stop, slope, le, .inl ⟨by simp [Drive.beginRangeChange], range, rfl⟩⟩
  · exact absurd none changing

theorem State.LoadCovered.takeRelayExpiry {s : State} (h : s.LoadCovered) : s.takeRelayExpiry.LoadCovered := by
  by_cases waits : s.drive.rangeChange = .relayWait
  · have changing : s.drive.rangeChange ≠ .none := by simp [waits]
    obtain ⟨carries, rests⟩ := Drive.relayExpiry_carries h.lawful.drive waits
    unfold State.takeRelayExpiry
    dsimp only
    split
    next deferred =>
      obtain ⟨walk, rest⟩ : s.engine.walk = .pageWait ∧ s.engine.rest = .deferred := by simpa using deferred
      obtain ⟨protocol, coupling, window, detectors⟩ := h.unattended (State.not_stepIn_of_walk (by simp [walk]))
      have fits := h.restFits walk
      simp only [State.RestFits, rest] at fits
      exact State.Between.compareRest ⟨⟨carries.lawful _ _ h.lawful.drive, h.lawful.slots⟩,
        ⟨protocol, carries.coupling coupling, window, detectors⟩, .inl (rests (.inr fits))⟩ walk
    next other =>
      refine h.setDrive carries fun walk => ?_
      have fits := h.restFits walk
      have rest : s.engine.rest ≠ .deferred := fun k => other (by simp [walk, k])
      unfold State.RestFits at fits
      split at fits
      · exact fits.elim
      next deferred => exact absurd deferred rest
      · exact absurd fits.1.2.1 changing
      · exact absurd fits.2.2.2.1 changing
      · exact absurd fits.2.2.2.1 changing
  · have motion : s.drive.relayExpiry.motion = s.drive.motion := by
      unfold Drive.relayExpiry
      split
      next relay => exact absurd relay waits
      · rfl
    have moved := h.setDrive_of_motion motion
    unfold State.takeRelayExpiry
    dsimp only
    split
    next deferred =>
      obtain ⟨walk, rest⟩ : s.engine.walk = .pageWait ∧ s.engine.rest = .deferred := by simpa using deferred
      have fits := moved.restFits walk
      simp only [State.RestFits, State.setDrive_engine, rest] at fits
      exact State.Between.compareRest ⟨moved.lawful, moved.unattended (State.not_stepIn_of_walk (by simp [walk])), .inr fits⟩ walk
    · exact moved

theorem relayCountExpiry_covers : EventCovers State.relayCountExpiry :=
  .guarded _ _ fun _ _ covered _ => covered.takeRelayExpiry

/-! ### The dropout coupling and the reset pulse -/

/-- The level stands with nothing waiting under a coupling, and once it has ended (R73, R86). -/
theorem State.Runs.coupled {s : State} {p : Phase} {c : StepContext} (h : s.Runs p c) (runs : s.drive.coupling ≠ .none) :
    p = .body ∧ c.record.kind = .dropout ∧ ({ s.drive with coupling := .none } : Drive).Still := by
  obtain ⟨body, kind⟩ := h.coupling runs
  subst body
  have fits := h.fits
  simp only [Drive.FitsPhase, kind] at fits
  obtain ⟨active, status, staged, change⟩ := fits
  exact ⟨rfl, kind, active, status, staged, change, rfl⟩

theorem State.LoadCovered.coupled {s : State} (h : s.LoadCovered) (runs : s.drive.coupling ≠ .none) :
    ∃ c, s.Runs .body c ∧ c.record.kind = .dropout ∧ ({ s.drive with coupling := .none } : Drive).Still := by
  obtain ⟨c, stepIn, -⟩ := h.2.2.2.2.2.2.1 runs
  obtain ⟨-, kind, still⟩ := (h.runs stepIn).coupled runs
  exact ⟨c, h.runs stepIn, kind, still⟩

/-- A span of the coupling gives way to the next in the same BODY. -/
theorem State.Runs.nextSpan {s : State} {c : StepContext} (h : s.Runs .body c) (kind : c.record.kind = .dropout)
    (still : ({ s.drive with coupling := .none } : Drive).Still) (next : Coupling) (enable : Bool) :
    (s.setDrive { s.drive with coupling := next, lineEnable := enable }).Runs .body c := by
  have lawful : ({ s.drive with coupling := next, lineEnable := enable } : Drive).Lawful s.bay.drivenClaim
      s.engine.ratings.vNom := ⟨h.lawful.drive.covered, h.lawful.drive.inRange, h.lawful.drive.down⟩
  obtain ⟨active, status, staged, change, -⟩ := still
  have idle := h.idle (by simp)
  refine ⟨h.stepIn, ⟨lawful, h.lawful.slots⟩, h.start, ?_, h.claim, h.pulse,
    fun kind mode state => absurd (h.capture kind mode state).1 (by simp), fun k => absurd idle k,
    fun _ => ⟨rfl, kind⟩, h.window, h.trips, h.regulation, h.knee⟩
  simp only [Drive.FitsPhase, kind]
  exact ⟨active, status, staged, change⟩

theorem State.Runs.openDropoutWindow {s : State} {c : StepContext} (h : s.Runs .body c) (kind : c.record.kind = .dropout) :
    s.openDropoutWindow.LoadCovered := by
  obtain ⟨noPulse, regulation, knee⟩ := h.noStage (by simp [kind])
  obtain ⟨c', runs, -⟩ := h.inBody (t := s.openDropoutWindow) (stage := c.stage) rfl h.stepIn.course h.stepIn.2.2.2
    h.lawful.drive rfl rfl rfl (fun mode state => ⟨mode, state⟩) (fun c' record stage => by
      have fits := h.fits
      simp only [Drive.FitsPhase, record, kind] at fits ⊢
      exact fits)
    (fun k => absurd k noPulse) (fun k => (h.coupling k).2)
    (fun k => absurd k (Window.not_countsLive_of_span (Acquisition.openWindow_mode _ _ _ _ _)))
    (fun k => absurd regulation k) (fun k => absurd knee k)
  exact runs.loadCovered

theorem State.LoadCovered.takeCouplingEnd {s : State} (h : s.LoadCovered) (runs : s.drive.coupling ≠ .none) :
    s.takeCouplingEnd.LoadCovered := by
  obtain ⟨c, body, kind, still⟩ := h.coupled runs
  have ended : (s.setDrive { s.drive with coupling := .none }).Runs .body c := body.nextSpan kind still .none s.drive.lineEnable
  have record : s.engine.record = c.record := body.record
  unfold State.takeCouplingEnd
  rw [Drive.releaseStaged_of_none (by exact still.2.2.1)]
  dsimp only
  split
  · split
    · unfold State.judgeDropout State.evaluateDropout
      dsimp only
      split <;> exact ended.endAfter (by simp [Engine.course, Function.comp_def]) (by simp) (by simp) (by simp) (by simp) (.inl still) _ _
    · exact ended.loadCovered
  · exact ended.loadCovered

theorem couplingSpanEnd_covers : EventCovers State.couplingSpanEnd := by
  intro s t rest covered due
  unfold State.couplingSpanEnd at due
  split at due
  next runs =>
    cases due
    obtain ⟨c, body, kind, still⟩ := covered.coupled (by simp [runs])
    exact (body.nextSpan kind still _ _).openDropoutWindow kind
  next runs =>
    cases due
    obtain ⟨c, body, kind, still⟩ := covered.coupled (by simp [runs])
    exact (body.nextSpan kind still _ _).loadCovered
  next runs =>
    cases due
    exact (covered.takeCouplingEnd (by simp [runs])).goOn (rest.takeCouplingEnd (by simp [runs]))
  · cases due

/-- The regulation wait begins where the shelf reset pulse ran (R153). -/
theorem State.Runs.beginRegulationWait {s : State} {p : Phase} {c : StepContext} (h : s.Runs p c)
    (stage : c.stage = .resetPulse) : s.beginRegulationWait.LoadCovered := by
  obtain ⟨body, kind⟩ := h.pulse stage
  subst body
  have still : s.drive.Still := by
    have fits := h.fits
    simp only [Drive.FitsPhase, kind, stage, reduceCtorEq, if_false] at fits
    exact fits
  have knee : s.acq.detectors.knee = none := by
    by_contra k
    simpa [kind] using (h.knee k).2.1
  have noWindow : ¬ s.acq.window.CountsLive := fun k => by simpa [kind, stage] using (h.window k).2
  obtain ⟨walk, step, noRecord, phase⟩ := h.stepIn
  obtain ⟨c', begun, -⟩ := h.inBody (t := s.beginRegulationWait) (stage := .regulationWait) rfl
    (by simp [State.beginRegulationWait, Engine.course, walk, step, noRecord]) phase h.lawful.drive rfl
    (by simp [State.beginRegulationWait]) rfl
    (fun mode state => ⟨mode, state⟩) (fun _ _ _ => still.fits (by simp)) (by simp) (fun k => absurd still.2.2.2.2 k)
    (fun k => absurd k noWindow) (fun _ => ⟨kind, rfl⟩) (fun k => absurd knee k)
  exact begun.loadCovered

theorem resetPulseEnd_covers : EventCovers State.resetPulseEnd :=
  .guarded _ _ fun s _ covered due => by
    have ended := covered.setDrive_of_motion s.drive.endResetPulse_motion
    split
    next waits =>
      obtain ⟨stepping, stage⟩ := Bool.and_eq_true_iff.1 waits
      obtain ⟨c, stepIn⟩ := State.stepIn_of_stepping stepping
      rw [stepIn.2.1] at stage
      exact (ended.runs stepIn).beginRegulationWait (by simpa using stage)
    · exact ended

/-! ### Captures, blanks and records -/

/-- Acquisition moves on, with no window, detector or capture live that was not before. -/
theorem State.LoadCovered.setAcq {s : State} (h : s.LoadCovered) {a : Acquisition}
    (capture : a.capture.mode = .trip → a.capture.state = .collecting →
      s.acq.capture.mode = .trip ∧ s.acq.capture.state = .collecting)
    (window : a.window.CountsLive → s.acq.window.CountsLive)
    (collapse : a.detectors.collapse ≠ none → s.acq.detectors.collapse ≠ none)
    (alarm : a.detectors.alarmArmed = s.acq.detectors.alarmArmed)
    (regulation : a.detectors.regulation ≠ none → s.acq.detectors.regulation ≠ none)
    (knee : a.detectors.knee ≠ none → s.acq.detectors.knee ≠ none) : (s.setAcq a).LoadCovered := by
  obtain ⟨covered, inRange, down, slots, step, protocol, coupling, counted, trips, regulated, kneed, unrequested, restFits⟩ := h
  refine ⟨covered, inRange, down, slots, fun p c stepIn => ?_, protocol, coupling, fun mode state => ?_, fun k => ?_,
    fun k => regulated (regulation k), fun k => kneed (knee k), unrequested, restFits⟩
  · obtain ⟨start, fits, claim, pulse, captured⟩ := step p c stepIn
    exact ⟨start, fits, claim, pulse, fun kind mode state =>
      let ⟨mode, state⟩ := capture mode state
      captured kind mode state⟩
  · obtain ⟨mode, state⟩ := window ⟨mode, state⟩
    exact counted mode state
  · refine trips (k.imp collapse fun armed => ?_)
    rw [← alarm]
    exact armed

theorem State.LoadCovered.takeBlockOffer {s : State} (h : s.LoadCovered) (due : s.acq.capture.blockDue = true) :
    s.takeBlockOffer.LoadCovered := by
  have collecting : s.acq.capture.state = .collecting := by
    simp only [Capture.blockDue, Bool.and_eq_true, beq_iff_eq] at due
    exact due.1
  have offered : s.offerBlock.LoadCovered :=
    h.of_same (by simp) (by simp [State.inPlay, Capture.afterOffer])
  have done : (s.offerBlock.setCapture { s.offerBlock.acq.capture with state := .done }).LoadCovered :=
    offered.setAcq (fun _ state => nomatch state) id id rfl id id
  unfold State.takeBlockOffer
  dsimp only
  split
  · split
    · exact done
    · exact offered
  next trip =>
    split
    · split
      next ends =>
        obtain ⟨⟨stepping, exiting⟩, kind⟩ : (s.engine.stepping = true ∧ s.engine.phase = .exiting)
            ∧ s.engine.kind.tripKind = true := by simpa using ends
        obtain ⟨c, stepIn⟩ := State.stepIn_of_stepping stepping
        have runs := h.runs stepIn
        rw [runs.kind] at kind
        obtain ⟨-, still⟩ := runs.capture kind (by simpa [Capture.afterOffer] using trip) collecting
        exact runs.endAfter (by simp) (by simp) (by simp) (by simp) (by simp) (.inl still) _ _
      · exact done
    · exact offered
  · exact offered

theorem captureBlockOffer_covers : EventCovers State.captureBlockOffer :=
  .guarded _ _ fun _ rest covered due => (covered.takeBlockOffer due).goOn rest.takeBlockOffer

theorem State.LoadCovered.checkSettle {s : State} (h : s.LoadCovered) (rest : s.LinesRest) : s.checkSettle.LoadCovered := by
  cases stepping : s.engine.stepping with
  | true =>
    obtain ⟨c, stepIn⟩ := State.stepIn_of_stepping stepping
    by_cases settle : s.engine.phase = .settle
    · exact (h.runs stepIn).checkSettle settle rest
    · unfold State.checkSettle
      split
      next phase _ => exact absurd phase settle
      · exact h
  | false =>
    unfold State.checkSettle
    split
    next c phase step =>
      obtain ⟨-, -, -, -, -, -, waits, noStep, -⟩ := rest
      have running : s.engine.walk = .running := by
        by_contra walk
        simp [noStep walk] at step
      have noRecord : s.engine.waiting = none := by
        by_contra k
        obtain ⟨r, waiting⟩ := Option.ne_none_iff_exists'.1 k
        simp [(waits r waiting).2] at phase
      have stepIn : s.StepIn .settle c := ⟨running, step, noRecord, phase⟩
      simp [stepIn.stepping] at stepping
    · exact h

theorem blankClose_covers (channel : Channel) : EventCovers (State.blankClose channel) :=
  .guarded _ _ fun _ rest covered _ =>
    State.LoadCovered.checkSettle (covered.of_same (by rfl) (by rfl)) (rest.setAcq _)

theorem releaseSpanEnd_covers : EventCovers State.releaseSpanEnd :=
  .guarded _ _ fun _ _ covered _ => covered.of_same rfl rfl

theorem pageWaitExpiry_covers : EventCovers State.pageWaitExpiry :=
  .guarded _ _ fun s _ covered due => by
    have walk : s.engine.walk = .pageWait := by simp at due; exact due.1
    exact State.enterWinddown_loadCovered covered.lawful (covered.unattended (State.not_stepIn_of_walk (by simp [walk]))) _

theorem stalledRecordPlaced_covers : EventCovers State.stalledRecordPlaced :=
  .guarded _ _ fun _ rest covered _ => covered.goOn rest

theorem generatorSetEnd_covers : EventCovers State.generatorSetEnd :=
  .guarded _ _ fun _ rest covered due => (covered.reportSetEnd rest due).goOn (rest.reportSetEnd due)

theorem applyComplete_covers : EventCovers State.applyComplete :=
  .guarded _ _ fun _ rest covered due => by
    simp only [Bool.and_eq_true, beq_iff_eq] at due
    exact covered.reportSetEnd rest due.1.2

theorem pulseCycleEnd_covers : EventCovers State.pulseCycleEnd :=
  .guarded _ _ fun _ rest covered due => (covered.takeCycleEnd rest).goOn (rest.takeCycleEnd due)

/-! ### The events of a step -/

theorem State.Runs.takeStopRequest {s : State} {p : Phase} {c : StepContext} (h : s.Runs p c) (due : s.stopDue = true) :
    (s.endBody.setDrive s.endBody.drive.stopPulse).LoadCovered := by
  obtain ⟨-, step, -, phase⟩ := id h.stepIn
  unfold State.stopDue at due
  rw [step] at due
  dsimp only at due
  split at due
  next pulse =>
    simp only [Bool.and_eq_true, beq_iff_eq] at due
    exact h.pulseStop (phase.symm.trans due.1.1.2) (by rw [StepRecord.kind_eq, pulse]; rfl)
  · cases due

theorem stepEvents_cover : ∀ event ∈ stepEvents, event ≠ State.applyComplete → EventCovers event := by
  have first {a b : Bool} (h : (a && b) = true) : a = true := (Bool.and_eq_true_iff.1 h).1
  simp only [stepEvents, List.forall_mem_cons]
  refine ⟨fun _ => .stepping _ _ (fun _ => first) fun s p c rest h due => ?_,
    fun _ => .stepping _ _ (fun _ => first) fun s p c rest h due => ?_,
    fun _ => .stepping _ _ (fun _ => first) fun s p c rest h due => ?_,
    fun _ => .stepping _ _ (fun _ => first) fun s p c rest h due => ?_,
    fun _ => .stepping _ _ (fun _ => first) fun s p c rest h due => ?_,
    fun _ => .stepping _ _ (fun _ => first) fun s p c rest h due => ?_,
    fun _ => .stepping _ _ (fun _ d => State.stepping_of_waitOver (first d)) fun s p c rest h due => ?_,
    fun _ => .stepping _ _ (fun _ d => State.stepping_of_waitOver (first d)) fun s p c rest h due => ?_,
    fun _ => .stepping _ _ (fun _ => State.stepping_of_stopDue) fun s p c rest h due => h.takeStopRequest due,
    fun _ => .stepping _ _ (fun _ d => first (first d)) fun s p c rest h due => ?_,
    fun _ => .stepping _ _ (fun _ d => first (first d)) fun s p c rest h due => ?_,
    fun _ => .stepping _ _ (fun _ d => first (first d)) fun s p c rest h due => ?_,
    fun _ => .stepping _ _ (fun _ d => first (first d)) fun s p c rest h due => ?_,
    fun _ => .stepping _ _ (fun _ d => first (first d)) fun s p c rest h due => ?_,
    fun other => absurd rfl other, fun _ mem => nomatch mem⟩
  all_goals have inStep := rest.inStep h.stepIn.stepping
  all_goals simp only [State.waitOver, Bool.and_eq_true, beq_iff_eq] at due
  · exact (h.deliverTrip (.inl due.2)).goOn inStep.deliverTrip
  · exact (h.deliverTrip (.inr due.2)).goOn inStep.deliverTrip
  · exact h.knee_of_due due.2
  · exact h.takeRegulation due.2
  · exact (h.windowDone due.2).goOn inStep.windowDone
  · exact h.expireStep.goOn inStep.expireStep
  · have kind := h.kind ▸ due.2
    unfold State.stageReturn
    rw [h.endWait_record]
    exact h.waitEnds (h.stepIn.2.2.2.symm.trans due.1.1.2) (.inl kind) (.ramp _ _ _) (by simpa [GenSet.peak] using h.start)
  · have kind := h.kind ▸ due.2
    rw [h.record]
    exact h.waitEnds (h.stepIn.2.2.2.symm.trans due.1.1.2) (.inr kind) (.level _) (by simpa [GenSet.levelAt, GenSet.peak] using h.start)
  · exact (h.decideAdmission due.1.2).goOn inStep.decideAdmission
  · exact h.backoffEnd due.1.2
  · exact h.quietWaitEnd due.1.2
  · exact (h.decideGate due.1.2).goOn inStep.decideGate
  · exact h.gateBackoffEnd due.1.2

theorem rowEvents_cover : ∀ event ∈ rowEvents, EventCovers event := by
  have known : ∀ event ∈ rowEvents, event ∈ stepEvents ∨ EventCovers event := by
    simp [rowEvents, dueEvents, stepEvents, captureBlockOffer_covers, blankClose_covers, generatorSetEnd_covers,
      pulseCycleEnd_covers, rangeDownEnd_covers, relayCountExpiry_covers, couplingSpanEnd_covers, resetPulseEnd_covers,
      releaseSpanEnd_covers, pageWaitExpiry_covers, stalledRecordPlaced_covers]
  intro event mem
  by_cases apply_eq : event = State.applyComplete
  · exact apply_eq ▸ applyComplete_covers
  · exact (known event mem).elim (fun ofStep => stepEvents_cover event ofStep apply_eq) id

end Sys2Proof.Machine

/-! ## The examination of fields and the slots of the plan store -/

namespace Sys2Proof.Machine

theorem between_iff {lo hi v : Nat} : between lo hi v = true ↔ lo ≤ v ∧ v ≤ hi := decide_eq_true_iff

theorem firstFailure_eq_none {fields : List (Nat × Bool)} : firstFailure fields = none ↔ ∀ f ∈ fields, f.2 = true := by
  induction fields with
  | nil => simp [firstFailure]
  | cons f rest ih =>
    obtain ⟨n, ok⟩ := f
    cases ok <;> simp [firstFailure, ih]

theorem fieldRefusal_eq_none {fields : List (Nat × Bool)} : fieldRefusal fields = none ↔ ∀ f ∈ fields, f.2 = true := by
  simp [fieldRefusal, firstFailure_eq_none]

/-- A slot after a write is the stored record or the slot before. -/
theorem PlanStore.slot_putSlot (p : PlanStore) (page other : Page) (index k : Nat) (r : StepRecord) :
    (p.putSlot page index r).slot other k = r ∨ (p.putSlot page index r).slot other k = p.slot other k := by
  have slots (v : Vector StepRecord 32) :
      ((v.setIfInBounds index r)[k]?).getD StepRecord.empty = r
        ∨ ((v.setIfInBounds index r)[k]?).getD StepRecord.empty = v[k]?.getD StepRecord.empty := by
    rw [Vector.getElem?_setIfInBounds]
    split
    · split
      · exact .inl rfl
      next same out => exact .inr (by rw [Vector.getElem?_eq_none (by omega)])
    · exact .inr rfl
  cases page <;> cases other
  · exact slots p.pageA
  · exact .inr rfl
  · exact .inr rfl
  · exact slots p.pageB

theorem PlanStore.reset_slot (page : Page) (index : Nat) : PlanStore.reset.slot page index = StepRecord.empty := by
  have slots : ((Vector.replicate 32 StepRecord.empty)[index]?).getD StepRecord.empty = StepRecord.empty := by
    rw [Vector.getElem?_replicate]
    split <;> rfl
  cases page <;> exact slots

/-- An accepted record starts at or below its peak (R5 to R7). -/
theorem storedBody_start_le_peak {store : PlanStore} {f : StepFields} {k : Kind}
    (accepted : ∀ field ∈ kindFields store f k, field.2 = true) : (storedBody f k).start ≤ (storedBody f k).peak := by
  cases k
  case pulse =>
    have field := between_iff.1 (accepted (25, between f.k24.toNat 12000 f.k25.toNat) (by simp [kindFields]))
    exact field.1
  case tripSearch =>
    have field := between_iff.1 (accepted (26, between (f.k24.toNat + 1) 12000 f.k26.toNat) (by simp [kindFields]))
    exact Nat.le_of_succ_le field.1
  case tripTime =>
    have field := between_iff.1 (accepted (25, between (f.k24.toNat + 1) 12000 f.k25.toNat) (by simp [kindFields]))
    exact Nat.le_of_succ_le field.1
  case derate =>
    have field := between_iff.1 (accepted (28, between (f.k26.toNat + 1) 12000 f.k28.toNat) (by simp [kindFields]))
    exact Nat.le_of_succ_le field.1
  case ramp => exact le_max_left _ _
  case recover => exact Nat.zero_le _
  all_goals exact le_rfl

theorem storedStep_start_le_peak {e : Engine} {store : PlanStore} {f : StepFields}
    (accepted : writeStepRefusal e store f = none) : (storedStep f).body.start ≤ (storedStep f).body.peak := by
  unfold storedStep
  split
  · exact le_rfl
  · exact le_rfl
  next k other kind =>
    refine storedBody_start_le_peak (store := store) fun field mem => ?_
    have fields : fieldRefusal (stepFieldList store f k) = none := by
      unfold writeStepRefusal at accepted
      split at accepted
      · cases accepted
      · split at accepted
        · cases accepted
        · split at accepted
          · cases accepted
          · rw [kind] at accepted
            split at accepted
            next none => cases none
            next none => exact absurd (Option.some.inj none) other
            next same => exact (Option.some.inj same) ▸ accepted
    exact fieldRefusal_eq_none.1 fields field (by simp [stepFieldList, mem])

end Sys2Proof.Machine

/-! ## The claim law and the clamp law: samples, the interlock and the commands -/

namespace Sys2Proof.Machine

/-! ### Samples -/

theorem Drive.update_carries (d : Drive) : d.Carries d.update where
  lawful _ _ lawful := lawful.update
  span := d.span_update_le
  fits _ _ fits := fits.update
  still still := still.update
  unrequested unrequested := unrequested.update
  coupling none := by simp [none, Coupling.tick]

theorem State.RestFits.update {s : State} (h : s.RestFits) : (s.setDrive s.drive.update).RestFits := by
  unfold State.RestFits at h ⊢
  split at h
  · exact h.elim
  next deferred =>
    obtain ⟨change, staged, coupling⟩ := h
    rw [show (s.setDrive s.drive.update).engine.rest = _ from deferred]
    exact ⟨Drive.update_rangeChange_ne change, by simp [staged], by simp [coupling, Coupling.tick]⟩
  next ramping =>
    rw [show (s.setDrive s.drive.update).engine.rest = _ from ramping]
    exact ⟨h.1.update, h.2.update h.1.2.1⟩
  next next =>
    rw [show (s.setDrive s.drive.update).engine.rest = _ from next]
    exact h.update
  next reached =>
    rw [show (s.setDrive s.drive.update).engine.rest = _ from reached]
    exact h.update

/-- A window that counts after a sample counted before it. -/
theorem Window.CountsLive.of_take {w : Window} {r : SampleRecord} (h : (w.take r).CountsLive) : w.CountsLive := by
  have counted : (w.take r).mode = w.mode := by
    unfold Window.take
    (repeat' split) <;> rfl
  refine ⟨counted.symm.trans h.1, ?_⟩
  cases state : w.state with
  | opened => exact .inl rfl
  | waiting => exact .inr rfl
  | _ =>
    have same : w.take r = w := by simp [Window.take, state]
    simpa [same, state] using h.2

theorem Capture.take_mode_state (c : Capture) (p : RawSample) : (c.take p).mode = c.mode ∧ (c.take p).state = c.state := by
  unfold Capture.take
  split <;> exact ⟨rfl, rfl⟩

theorem State.LoadCovered.tickEngine {s : State} (h : s.LoadCovered) : s.tickEngine.LoadCovered := by
  unfold State.tickEngine
  dsimp only
  split
  next stepping =>
    obtain ⟨c, stepIn⟩ := State.stepIn_of_stepping stepping
    obtain ⟨c', runs, -⟩ := (h.runs stepIn).of_inPlay
      (t := s.mapStep (fun c => { c with timeLeft := c.timeLeft - 1, wait := c.wait.map (· - 1) }))
      (by simp [Engine.course, Function.comp_def]) rfl (by simp [State.inPlay])
    exact runs.loadCovered
  · split
    next walk =>
      have ticked : (s.setEngine { s.engine with pageWaitLeft := s.engine.pageWaitLeft - 1 }).LoadCovered := h
      split
      next due =>
        have still := ticked.restFits walk
        rw [State.RestFits, due] at still
        exact State.reachRest_loadCovered ticked.lawful
          (ticked.unattended (State.not_stepIn_of_walk (s := s.setEngine _) (by simp [walk]))) walk still
      · exact ticked
    · exact h

theorem State.LoadCovered.takeSample {s : State} (h : s.LoadCovered) (i : SampleInput) : (s.takeSample i).LoadCovered := by
  obtain ⟨claim, prior, -, protocol, -⟩ := s.bay.sample_spec i s.lineSettle
  have read : (s.setBay (s.bay.sample i s.lineSettle)).LoadCovered :=
    h.of_same (by rfl) (by simp [State.inPlay, claim, prior, protocol])
  have moved : ((s.setBay (s.bay.sample i s.lineSettle)).setDrive s.drive.update).LoadCovered :=
    read.setDrive s.drive.update_carries fun walk => (read.restFits walk).update
  unfold State.takeSample
  dsimp only
  refine State.LoadCovered.tickEngine (moved.setAcq ?_ Window.CountsLive.of_take (fun k none => k ?_) rfl (fun k none => k ?_) id)
  · obtain ⟨mode, state⟩ := s.acq.capture.take_mode_state
      (s.acq.nextRecord s.store.channels s.store.config i (s.bay.sample i s.lineSettle).censusOthers s.drive.update.range
        (dacValue s.drive.update.level)).pair
    exact fun k l => ⟨mode.symm.trans k, state.symm.trans l⟩
  · simpa [Acquisition.sample, Detectors.test] using none
  · simpa [Acquisition.sample, Detectors.test] using none

/-! ### The interlock -/

theorem State.LoadCovered.interlockInWinddown {s : State} (h : s.LoadCovered) (walk : s.engine.walk = .winddown) :
    s.dropAll.interlockInWinddown.LoadCovered := by
  obtain ⟨-, -, window, detectors⟩ := h.unattended (State.not_stepIn_of_walk (by simp [walk]))
  have zero : s.drive.immediateDrop.Lawful 0 s.engine.ratings.vNom := .of_zero rfl rfl rfl rfl _ _
  have dropped (e : Engine) (ratings : e.ratings = s.engine.ratings) (stays : e.walk = .winddown) :
      (s.dropAll.setEngine e).LoadCovered :=
    State.loadCovered_of_off ⟨by simpa [ratings, State.dropAll] using zero.mono (Nat.zero_le _), h.lawful.slots⟩
      ⟨rfl, rfl, window, detectors⟩ (by simp [stays])
  cases done : s.engine.releasesDone with
  | true =>
    obtain ⟨waiting, -, after⟩ := s.dropAll.interlockInWinddown_of_released done
    rw [after]
    exact dropped _ (by simp) (by simpa using walk)
  | false =>
    rw [s.dropAll.interlockInWinddown_of_not_released done]
    refine State.makeReleases_loadCovered (dropped _ (by simp) (by simpa using walk)) (by simpa using walk) ?_
    simp [Drive.AtRest, Drive.immediateDrop, Drive.holdLevel, Drive.winddownReleases]

theorem State.LoadCovered.interlockWalk {s : State} (h : s.LoadCovered) (rest : s.LinesRest) :
    s.interlockWalk.LoadCovered := by
  have zero (claim : Nat) : s.drive.immediateDrop.Lawful claim s.engine.ratings.vNom := .of_zero rfl rfl rfl rfl _ _
  have lawful : s.dropAll.Lawful := ⟨zero _, h.lawful.slots⟩
  unfold State.interlockWalk
  dsimp only
  split
  next winddown => exact (h.interlockInWinddown winddown).goOn (rest.interlockInWinddown winddown)
  next other =>
    split
    next stepping =>
      obtain ⟨c, stepIn⟩ := State.stepIn_of_stepping (s := s) stepping
      have dropped : s.dropAll.StepIn s.engine.phase c := stepIn
      have ended : (s.dropAll.endStep .interlock [.aborted]).LoadCovered :=
        State.endStep_loadCovered (s := s.dropAll) dropped.1 dropped.2.1 lawful (.inl s.drive.immediateDrop_still) _ _
      have noStep : ∀ p c, ¬ (s.dropAll.endStep .interlock [.aborted]).StepIn p c := by
        refine State.not_stepIn_of_waiting ?_
        rw [State.endStep_engine _ _ _ c dropped.2.1]
        simp
      exact (State.enterWinddown_loadCovered ended.lawful (ended.unattended noStep) _).goOn (rest.interlockStep stepping)
    next idle =>
      obtain ⟨-, -, window, detectors⟩ := h.unattended (State.not_stepIn_of_not_stepping (by simpa using idle))
      refine (State.enterWinddown_loadCovered lawful ⟨rfl, rfl, window, detectors⟩ _).goOn ?_
      refine State.enterWinddown_linesRest _ rfl (rest.noSummary other) ?_
      simp [Drive.within_iff, Drive.span_immediateDrop]

/-! ### Commands -/

namespace State.LoadCovered

variable {s : State} (h : s.LoadCovered)
include h

theorem reply (code : Byte) (a : Answer) : (s.reply code a).LoadCovered := h

/-- A write that keeps every record starting at or below its peak keeps the laws. -/
theorem setStore {x : PlanStore}
    (slots : ∀ page index, (x.slot page index).body.start ≤ (x.slot page index).body.peak) : (s.setStore x).LoadCovered := by
  obtain ⟨covered, inRange, down, -, others⟩ := h
  exact ⟨covered, inRange, down, slots, others⟩

theorem takeWriteStep (f : StepFields) : (s.takeWriteStep f).LoadCovered := by
  unfold State.takeWriteStep
  split
  · exact h.reply _ _
  next accepted =>
    refine (h.setStore fun page index => ?_).reply _ _
    rcases s.store.slot_putSlot ((Page.ofCode f.page).getD .a) page f.index.toNat index (storedStep f) with same | same
    · rw [same]
      exact storedStep_start_le_peak accepted
    · rw [same]
      exact h.lawful.slots page index

theorem between_of_paused (walk : s.engine.walk = .paused) : s.Between :=
  ⟨h.lawful, h.unattended (State.not_stepIn_of_walk (by simp [walk])), h.unrequested (.inl walk)⟩

variable (rest : s.LinesRest)
include rest

theorem startWalk (header : WalkHeader) (walk : s.engine.walk = .idle) : (s.startWalk header).LoadCovered := by
  obtain ⟨-, atRest⟩ := rest.1 (.inl walk)
  have noRelease := rest.notReleased (by simp [walk])
  have noRecord := rest.noRecord (by simp [walk]) (by simp [walk])
  obtain ⟨protocol, -, window, detectors⟩ := h.unattended (State.not_stepIn_of_walk (by simp [walk]))
  obtain ⟨level, active, status, staged, cycle, change, coupling, noPulse, -⟩ := id atRest
  unfold State.startWalk
  extract_lets r u
  have engine : u.engine = s.engine.beginWalk header r := by simp [u]
  have drive : (u.drive.startWalk r.lineNominal).motion = s.drive.motion := by simp [u, Drive.startWalk, Drive.motion]
  have between : (u.setDrive (u.drive.startWalk r.lineNominal)).Between := by
    refine ⟨⟨(atRest.lawful _ _).of_motion drive, by simpa [u] using h.lawful.slots⟩,
      ⟨by simpa [u] using protocol, ?_, by simpa [u] using window, by simpa [u] using detectors⟩,
      Drive.Unrequested.of_motion drive (.inl ⟨by simp [level, active], status, staged, change, coupling⟩)⟩
    simpa [u, Drive.startWalk] using coupling
  have ready : (u.setDrive (u.drive.startWalk r.lineNominal)).Ready := by
    refine ⟨?_, ?_, ?_, ?_⟩
    · simpa [engine, Engine.beginWalk] using noRelease
    · simpa [engine, Engine.beginWalk] using noRecord
    · simpa [u, Drive.startWalk] using noPulse
    · simp [u, Drive.startWalk, Drive.Within, level, active, staged, GenSet.peak]
  exact (between.enterAdmit ready.noRecord _).goOn (ready.enterAdmit _)

theorem takeStartWalk (f : StartFields) : (s.takeStartWalk f).LoadCovered := by
  unfold State.takeStartWalk
  split
  · exact h.reply _ _
  next accepted =>
    refine (h.startWalk rest _ ?_).reply _ _
    unfold startRefusal at accepted
    cases walk : s.engine.walk <;> simp [walk, WalkState.active] at accepted ⊢

theorem takeResume : s.takeResume.LoadCovered := by
  unfold State.takeResume
  split
  next walk =>
    obtain ⟨lawful, unattended, unrequested⟩ := h.between_of_paused walk
    have ready := rest.ready (.inl walk)
    have between : (s.setEngine { s.engine with walk := .running }).Between := ⟨⟨lawful.drive, lawful.slots⟩,
      ⟨unattended.protocol, unattended.coupling, unattended.window, unattended.detectors⟩, unrequested⟩
    have running : (s.setEngine { s.engine with walk := .running }).Ready := ⟨ready.1, ready.2, ready.3, ready.4⟩
    exact ((between.enterAdmit ready.noRecord _).goOn (running.enterAdmit _)).reply _ _
  · split
    · exact State.LoadCovered.reply (s := s.setEngine { s.engine with pausePending := false }) h _ _
    · exact h.reply _ _
  all_goals exact h.reply _ _

omit rest in
/-- A halt leaves PAGE_WAIT with nothing requested (R36, R40). -/
theorem halted (walk : s.engine.walk = .pageWait) : (s.setDrive s.drive.halt).Between := by
  obtain ⟨protocol, -, window, detectors⟩ := h.unattended (State.not_stepIn_of_walk (by simp [walk]))
  exact ⟨⟨h.lawful.drive.halt, h.lawful.slots⟩, ⟨protocol, s.drive.halt_unrequested.coupling, window, detectors⟩,
    s.drive.halt_unrequested⟩

theorem takeAbort : s.takeAbort.LoadCovered := by
  unfold State.takeAbort
  split
  · refine State.LoadCovered.reply ?_ _ _
    unfold State.abortRunning
    split
    next stepping =>
      obtain ⟨c, stepIn⟩ := State.stepIn_of_stepping stepping
      exact (h.runs stepIn).abortStep.goOn (rest.inStep stepping).abortStep
    · exact h
  next walk => exact ((h.between_of_paused walk).enterWinddown _).reply _ _
  next walk => exact ((h.halted walk).enterWinddown _).reply _ _
  all_goals exact h.reply _ _

omit rest in
theorem takeRelease : s.takeRelease.LoadCovered := by
  unfold State.takeRelease
  split
  next walk =>
    have unattended := h.unattended (State.not_stepIn_of_walk (by simp [walk]))
    exact State.LoadCovered.reply (s := s.setEngine { s.engine with walk := .idle })
      (State.loadCovered_of_off ⟨h.lawful.drive, h.lawful.slots⟩
        ⟨unattended.protocol, unattended.coupling, unattended.window, unattended.detectors⟩ (by simp)) _ _
  all_goals exact h.reply _ _

theorem takeArmChain : s.takeArmChain.LoadCovered := by
  have marked : (s.setEngine { s.engine with chain := some s.engine.otherPage }).LoadCovered := h
  unfold State.takeArmChain
  split
  case h_6 walk =>
    split
    · exact h.reply _ _
    · obtain ⟨lawful, unattended, unrequested⟩ := h.halted walk
      have ready := rest.halted walk
      have between : ((s.setDrive s.drive.halt).setEngine { s.engine with pageWaitLeft := 0, rest := .none }).Between :=
        ⟨⟨lawful.drive, lawful.slots⟩,
          ⟨unattended.protocol, unattended.coupling, unattended.window, unattended.detectors⟩, unrequested⟩
      have stands : ((s.setDrive s.drive.halt).setEngine { s.engine with pageWaitLeft := 0, rest := .none }).Ready :=
        ⟨ready.1, ready.2, ready.3, ready.4⟩
      refine State.LoadCovered.reply (State.LoadCovered.goOn ?_ ?_) _ _
      · exact between.swapTo _
      · exact stands.swapTo _
  case h_1 | h_2 => exact h.reply _ _
  all_goals
    split
    · exact h.reply _ _
    · exact marked.reply _ _

omit rest in
theorem takePauseCommand : s.takePauseCommand.LoadCovered := by
  have paused : (s.setEngine { s.engine with pausePending := true }).LoadCovered := h
  unfold State.takePauseCommand
  split
  case h_1 | h_2 =>
    split
    · exact h.reply _ _
    · exact paused.reply _ _
  all_goals exact h.reply _ _

omit rest h in
/-- After a reset nothing is driven (R69, R89). -/
theorem resetBlocks (s : State) (straps : BitVec 4)
    (slots : ∀ page index, (s.store.slot page index).body.start ≤ (s.store.slot page index).body.peak) :
    (s.resetBlocks straps).LoadCovered :=
  State.loadCovered_of_off ⟨Drive.reset_atRest.lawful _ _, slots⟩
    ⟨rfl, rfl, by simp [State.resetBlocks, Acquisition.reset, Window.reset, Window.CountsLive], rfl, rfl, rfl, rfl⟩
    (by simp [State.resetBlocks, Engine.reset])

theorem takeCommand (c : Instr) : (s.takeCommand c).LoadCovered := by
  unfold State.takeCommand
  split
  case h_5 f => exact h.takeWriteStep f
  case h_4 | h_6 | h_7 | h_8 =>
    simp only [State.takeConfigure, State.takeWriteCurve, State.takeWriteProfile, State.takeWriteChannel]
    split
    · exact h.reply _ _
    · refine State.LoadCovered.reply ?_ _ _
      exact h.setStore h.lawful.slots
  case h_9 f => exact h.takeStartWalk rest f
  case h_10 => exact h.takePauseCommand
  case h_11 => exact h.takeResume rest
  case h_12 => exact h.takeAbort rest
  case h_13 => exact h.takeRelease
  case h_14 => exact h.takeArmChain rest
  case h_15 => exact State.LoadCovered.reply (s := s.setEngine { s.engine with chain := none }) h _ _
  case h_16 straps => exact resetBlocks s straps h.lawful.slots
  all_goals exact h

end State.LoadCovered

theorem stepKeeps_loadCovered : StepKeeps (fun s => s.LinesRest ∧ s.LoadCovered) where
  events event mem s t h due := ⟨rowEvents_keepLinesRest event mem s t h.1 due, rowEvents_cover event mem s t h.1 h.2 due⟩
  sample i _ h := ⟨h.1.takeSample i, h.2.takeSample i⟩
  port _ _ h := ⟨h.1.congr rfl rfl rfl rfl, h.2⟩
  queue _ _ h := ⟨h.1.congr rfl rfl rfl rfl, h.2⟩
  interlock _ _ h := ⟨h.1.congr rfl rfl rfl rfl, h.2⟩
  pending _ _ h := ⟨h.1.congr rfl rfl rfl rfl, h.2⟩
  goOn _ h := ⟨h.1.goOn, h.2.goOn h.1⟩
  opening _ h _ := ⟨h.1.interlockWalk, h.2.interlockWalk h.1⟩
  command _ c h := ⟨h.1.takeCommand c, h.2.takeCommand h.1 c⟩
  pinReset s straps h := by
    refine ⟨(State.LinesRest.resetBlocks s straps).congr rfl rfl rfl rfl, ?_⟩
    have reset := State.LoadCovered.resetBlocks s straps h.2.lawful.slots
    exact reset.setStore fun page index => by simp [PlanStore.reset_slot, StepRecord.empty, StepBody.start]

/-- Settles O59: the first part by the claim that covers the level, the second by `StepKeeps`, beside `LinesRest`. -/
theorem claimCoversLoad : Obligations.ClaimCoversLoad :=
  ⟨fun s covered => by
      obtain ⟨⟨⟨claim, -⟩, ⟨level, -⟩, -⟩, -⟩ := covered.lawful
      refine ⟨claim, fun low => by simpa [low, LoadRange.limit] using level, level.trans ?_⟩
      cases s.drive.range <;> simp [LoadRange.limit],
    fun _ _ rest covered run => (stepKeeps_loadCovered.step_keeps ⟨rest, covered⟩ run).2⟩

end Sys2Proof.Machine

/-! ## The invariants after a reset -/

namespace Sys2Proof.Machine

/-- Settles O60: the queue is empty, and with nothing driven the two laws hold of the walk in IDLE. -/
theorem invariantsHoldAtReset : Obligations.InvariantsHoldAtReset := by
  refine ⟨⟨Nat.zero_le _, Nat.zero_le _⟩, State.linesRest_of_idle (.inl rfl) ⟨rfl, rfl⟩ Drive.reset_atRest rfl rfl rfl, ?_⟩
  have slots (page : Page) (index : Nat) :
      (State.reset.store.slot page index).body.start ≤ (State.reset.store.slot page index).body.peak := by
    simp [State.reset, PlanStore.reset_slot, StepRecord.empty, StepBody.start]
  exact State.loadCovered_of_off ⟨Drive.reset_atRest.lawful _ _, slots⟩
    ⟨rfl, rfl, by simp [State.reset, Acquisition.reset, Window.reset, Window.CountsLive], rfl, rfl, rfl, rfl⟩
    (by simp [State.reset, Engine.reset])

end Sys2Proof.Machine

/-! ## Every command: its next state, and what it leaves alone beside the port -/

namespace Sys2Proof.Machine

/-! ### Beside the port: plan store, interlock input and waiting commands -/

@[simp] theorem State.reply_outer (s : State) (code : Byte) (a : Answer) : (s.reply code a).outer.2 = s.outer.2 := (rfl)

section
variable (s : State)

theorem State.takePauseCommand_outer : s.takePauseCommand.outer.2 = s.outer.2 := by
  unfold State.takePauseCommand
  (repeat' split) <;> simp

theorem State.takeResume_outer : s.takeResume.outer.2 = s.outer.2 := by
  unfold State.takeResume
  (repeat' split) <;> simp

theorem State.takeAbort_outer : s.takeAbort.outer.2 = s.outer.2 := by
  unfold State.takeAbort
  split <;> simp

theorem State.takeRelease_outer : s.takeRelease.outer.2 = s.outer.2 := by
  unfold State.takeRelease
  split <;> simp

theorem State.takeArmChain_outer : s.takeArmChain.outer.2 = s.outer.2 := by
  unfold State.takeArmChain
  (repeat' split) <;> simp

theorem State.takeStartWalk_outer (f : StartFields) : (s.takeStartWalk f).outer.2 = s.outer.2 := by
  unfold State.takeStartWalk
  split <;> simp

end

/-- A command that is not a write leaves the plan store, the interlock input and the waiting commands alone. -/
theorem State.takeCommand_outer (s : State) {c : Instr} (noWrite : c.writesStore = false) :
    (s.takeCommand c).outer.2 = s.outer.2 := by
  unfold State.takeCommand
  split
  case h_4 | h_5 | h_6 | h_7 | h_8 => cases noWrite
  case h_9 f => exact s.takeStartWalk_outer f
  case h_10 => exact s.takePauseCommand_outer
  case h_11 => exact s.takeResume_outer
  case h_12 => exact s.takeAbort_outer
  case h_13 => exact s.takeRelease_outer
  case h_14 => exact s.takeArmChain_outer
  all_goals rfl

theorem State.takeCommand_pending (s : State) (c : Instr) : (s.takeCommand c).pending = s.pending := by
  by_cases noWrite : c.writesStore = false
  · exact congrArg (fun x => x.2.2) (s.takeCommand_outer noWrite)
  · cases c <;> simp [Instr.writesStore] at noWrite <;>
      simp only [State.takeCommand, State.takeConfigure, State.takeWriteStep, State.takeWriteCurve, State.takeWriteProfile,
        State.takeWriteChannel]
    all_goals split <;> rfl

theorem State.consume_outer (s : State) : s.consume.outer.2 = s.outer.2 := by
  unfold State.consume
  split
  · rfl
  · simp
  · rfl
  · rfl

/-! ### Every command -/

/-- Settles O1: `step` runs the front of the queue. -/
theorem stepTakesFront : Obligations.StepTakesFront := by
  intro i rest s front
  simp only [step, front]

/-- Settles O2: the event of a row is not due in a settled state with no record waiting. -/
theorem nothingDueChangesNothing : Obligations.NothingDueChangesNothing := by
  refine fun s => ⟨fun empty => by simp only [step, empty], fun settled noRecord c row noSample noOpen noClose => ?_⟩
  obtain ⟨event, mem, ran⟩ := exec_eventRow row noSample noOpen noClose s
  suffices notDue : event s = none by rw [ran, notDue]; rfl
  simp only [rowEvents, List.mem_cons] at mem
  rcases mem with rfl | rfl | due
  · have notEnded : s.drive.status ≠ .ended := by
      have notDue := settled State.generatorSetEnd (by simp [dueEvents])
      simpa [State.generatorSetEnd] using notDue
    simp [State.applyComplete, notEnded]
  · simp [State.stalledRecordPlaced, noRecord]
  · exact settled event due

theorem exec_next (c : Instr) (s : State) : ∃ t, exec c s = .next t := by
  cases c <;> exact ⟨_, rfl⟩

theorem State.endTransaction_pending (s : State) {ended : State} (n : Nat) (same : ended.pending = s.pending) :
    (s.endTransaction n ended).pending = s.pending := by
  unfold State.endTransaction
  split
  · exact same
  · rfl
  · rfl

theorem State.completeTransaction_pending (s : State) (bytes : List Byte) (straps : BitVec 4) :
    (s.completeTransaction bytes straps).pending = s.pending :=
  (State.takeCommand_pending _ _).trans (congrArg (fun x => x.2.2) s.consume_outer)

/-- The outer part of an interlock row: the input alone moves. -/
theorem exec_interlock_outer {c : Instr} {s t : State} (row : c = .interlockOpen ∨ c = .interlockClose)
    (run : exec c s = .next t) : t.port = s.port ∧ t.store = s.store ∧ t.pending = s.pending := by
  rcases row with rfl | rfl
  · cases run
    split
    next active =>
      obtain ⟨port, store, -, pending⟩ := State.outer_eq (State.interlockWalk_outer (s.setInterlock true))
      exact ⟨port, store, pending⟩
    · exact ⟨rfl, rfl, rfl⟩
  · cases run
    exact ⟨rfl, rfl, rfl⟩

/-- A sample or an event of the part moves of the outer part at most the interlock input. -/
theorem exec_event_beside {c : Instr} {s t : State} (row : c.isEvent = true) (run : exec c s = .next t) :
    t.port = s.port ∧ t.store = s.store ∧ t.pending = s.pending
      ∧ (c ≠ .interlockOpen → c ≠ .interlockClose → t.interlockOpen = s.interlockOpen) := by
  by_cases interlock : c = .interlockOpen ∨ c = .interlockClose
  · obtain ⟨port, store, pending⟩ := exec_interlock_outer interlock run
    exact ⟨port, store, pending, fun noOpen noClose => (interlock.elim noOpen noClose).elim⟩
  · obtain ⟨noOpen, noClose⟩ := not_or.1 interlock
    obtain ⟨port, store, input, pending⟩ := State.outer_eq (exec_event_outer row noOpen noClose run)
    exact ⟨port, store, pending, fun _ _ => input⟩

theorem exec_pending {c : Instr} {s t : State} (run : exec c s = .next t) : t.pending = s.pending := by
  by_cases row : c.isEvent = true
  · exact (exec_event_beside row run).2.2.1
  by_cases answered : c.isAnswered = true
  · cases (exec_of_isAnswered answered s).symm.trans run
    exact s.takeCommand_pending c
  cases c with
  | transactionComplete bytes straps =>
    cases run
    refine s.endTransaction_pending _ ?_
    split
    · rfl
    · exact s.completeTransaction_pending bytes straps
  | transactionIncomplete n => cases run; exact s.endTransaction_pending n rfl
  | transactionBegin | nop | pinReset _ => cases run; rfl
  | _ => simp [Instr.isEvent, Instr.isAnswered] at row answered

/-- Settles O3, by cases on the command. -/
theorem everyCommandCompletes : Obligations.EveryCommandCompletes := by
  intro c s
  obtain ⟨t, run⟩ := exec_next c s
  exact ⟨t, run, exec_pending run⟩

theorem exec_store {c : Instr} {s t : State} (noWrite : c.writesStore = false) (run : exec c s = .next t) :
    t.store = s.store := by
  by_cases row : c.isEvent = true
  · exact (exec_event_beside row run).2.1
  by_cases answered : c.isAnswered = true
  · cases (exec_of_isAnswered answered s).symm.trans run
    exact congrArg (fun x => x.1) (s.takeCommand_outer noWrite)
  cases c with
  | transactionIncomplete n =>
    cases run
    unfold State.endTransaction
    split <;> rfl
  | transactionBegin | nop => cases run; rfl
  | _ => simp [Instr.isEvent, Instr.isAnswered, Instr.writesStore] at row answered noWrite

/-- Settles O4, by the outer part of an event's row and of each command. -/
theorem portAndStoreAreKept : Obligations.PortAndStoreAreKept := by
  refine ⟨fun c s t row run => ?_, fun c s t noWrite run => exec_store noWrite run⟩
  obtain ⟨port, store, -, input⟩ := exec_event_beside row run
  exact ⟨port, store, input⟩

/-! ### The guards of the plan store -/

theorem PlanStore.putSlot_page_of_ne (p : PlanStore) {page other : Page} (ne : page ≠ other) (index : Nat) (r : StepRecord) :
    (p.putSlot page index r).page other = p.page other := by
  cases page <;> cases other
  · exact absurd rfl ne
  · rfl
  · rfl
  · exact absurd rfl ne

theorem PlanStore.putSlot_tables (p : PlanStore) (page : Page) (index : Nat) (r : StepRecord) :
    (p.putSlot page index r).curves = p.curves ∧ (p.putSlot page index r).profiles = p.profiles
      ∧ (p.putSlot page index r).channels = p.channels := by
  cases page <;> exact ⟨rfl, rfl, rfl⟩

/-- An accepted WRITE_STEP names a page that is not the current page of an active walk (R16). -/
theorem writeStepRefusal_page {e : Engine} {store : PlanStore} {f : StepFields} (accepted : writeStepRefusal e store f = none) :
    ∃ p, Page.ofCode f.page = some p ∧ ¬ (e.walk.active = true ∧ e.page = some p) := by
  unfold writeStepRefusal at accepted
  split at accepted
  · cases accepted
  next p page =>
    refine ⟨p, page, fun current => ?_⟩
    split at accepted
    · cases accepted
    · simp [pageGuard, current] at accepted

theorem tableRefusal_of_active {e : Engine} (active : e.walk.active = true) (fields : List (Nat × Bool)) :
    tableRefusal e fields = some .inUse := by simp [tableRefusal, active]

theorem exec_isAnswered_of_writesStore {c : Instr} (writes : c.writesStore = true)
    (noTransaction : ∀ bytes straps, c ≠ .transactionComplete bytes straps) (noReset : ∀ straps, c ≠ .pinReset straps) :
    c.isAnswered = true := by
  cases c <;> simp [Instr.writesStore] at writes <;> simp [Instr.isAnswered] at noTransaction noReset ⊢

/-- Settles O5: the page guards and the table guards refuse every write to what an active walk reads. -/
theorem currentPageIsGuarded : Obligations.CurrentPageIsGuarded := by
  intro c s t p active current noTransaction noReset run
  by_cases writes : c.writesStore = true
  · cases (exec_of_isAnswered (exec_isAnswered_of_writesStore writes noTransaction noReset) s).symm.trans run
    cases c <;> simp [Instr.writesStore] at writes
    case configure f =>
      simp only [State.takeCommand, State.takeConfigure]
      split <;> exact ⟨rfl, rfl, rfl, rfl⟩
    case writeStep f =>
      simp only [State.takeCommand, State.takeWriteStep]
      split
      · exact ⟨rfl, rfl, rfl, rfl⟩
      next accepted =>
        obtain ⟨q, page, other⟩ := writeStepRefusal_page accepted
        have ne : q ≠ p := fun same => other ⟨active, same ▸ current⟩
        obtain ⟨curves, profiles, channels⟩ := s.store.putSlot_tables q f.index.toNat (storedStep f)
        rw [page]
        exact ⟨s.store.putSlot_page_of_ne ne _ _, curves, profiles, channels⟩
    case transactionComplete bytes straps => exact absurd rfl (noTransaction bytes straps)
    case pinReset straps => exact absurd rfl (noReset straps)
    all_goals
      simp only [State.takeCommand, State.takeWriteCurve, State.takeWriteProfile, State.takeWriteChannel,
        tableRefusal_of_active active]
      exact ⟨rfl, rfl, rfl, rfl⟩
  · have store := exec_store (by simpa using writes) run
    rw [store]
    exact ⟨rfl, rfl, rfl, rfl⟩

/-! ### Answers -/

@[simp] theorem OwnUnit.asserted_eq_false {u : OwnUnit} : u.asserted = false ↔ u = .released := by
  cases u <;> simp [OwnUnit.asserted]

/-- Settles O21, by the walk state. -/
theorem pauseAndResumeAnswers : Obligations.PauseAndResumeAnswers := by
  refine fun s => ⟨fun walk => ⟨fun held => ?_, fun free => ?_⟩, fun walk => ?_, fun walk => ?_, fun walk pending => ?_, fun walk => ?_⟩
  · have asserted : s.bay.ownUnit.asserted = true := by
      by_contra free
      exact held (OwnUnit.asserted_eq_false.1 (by simpa only [Bool.not_eq_true] using free))
    change Host.Outcome.next s.takePauseCommand = _
    rcases walk with walk | walk <;> simp [State.takePauseCommand, walk, asserted]
  · change Host.Outcome.next s.takePauseCommand = _
    rcases walk with walk | walk <;> simp [State.takePauseCommand, walk, free, OwnUnit.asserted]
  · change Host.Outcome.next s.takePauseCommand = _
    simp [State.takePauseCommand, walk]
  · change Host.Outcome.next s.takePauseCommand = _
    rcases walk with walk | walk | walk <;> simp [State.takePauseCommand, walk]
  · change Host.Outcome.next s.takeResume = _
    simp [State.takeResume, walk, pending]
  · change Host.Outcome.next s.takeResume = _
    rcases walk with ⟨walk, pending⟩ | walk | walk | walk | walk <;> simp [State.takeResume, *]

end Sys2Proof.Machine

/-! ## The writes and their tables (R1)

The model examines a list of fields with a Boolean for each; the statements list the fields with what each accepts. The
two examine alike when the lists agree field for field, where a later field has to agree only once the earlier ones are
accepted. -/

namespace Sys2Proof.Machine

/-- A list of fields with Booleans is examined as a table of what the fields accept. -/
structure Examines (fields : List (Nat × Bool)) (table : List (Nat × Prop)) : Prop where
  accepts : firstFailure fields = none ↔ Accepts table
  fails : ∀ n, firstFailure fields = some n → FirstFailing table n

theorem accepts_append (t u : List (Nat × Prop)) : Accepts (t ++ u) ↔ Accepts t ∧ Accepts u := by
  induction t with
  | nil => simp [Accepts]
  | cons p t ih => simp [Accepts, ih, and_assoc]

theorem firstFailure_append (f g : List (Nat × Bool)) :
    firstFailure (f ++ g) = (firstFailure f).orElse fun _ => firstFailure g := by
  induction f with
  | nil => simp [firstFailure]
  | cons p f ih =>
    obtain ⟨n, ok⟩ := p
    cases ok <;> simp [firstFailure, ih]

theorem firstFailing_append_of_first {t : List (Nat × Prop)} (u : List (Nat × Prop)) {n : Nat} (failed : FirstFailing t n) :
    FirstFailing (t ++ u) n := by
  induction t with
  | nil => exact failed.elim
  | cons p t ih => exact failed.imp_right fun k => ⟨k.1, ih k.2⟩

theorem firstFailing_append_of_accepts {t u : List (Nat × Prop)} {n : Nat} (passed : Accepts t) (failed : FirstFailing u n) :
    FirstFailing (t ++ u) n := by
  induction t with
  | nil => exact failed
  | cons p t ih => exact .inr ⟨passed.1, ih passed.2⟩

namespace Examines

theorem nil : Examines [] [] := ⟨by simp [firstFailure, Accepts], by simp [firstFailure]⟩

theorem cons {n : Nat} {ok : Bool} {accepted : Prop} {fields : List (Nat × Bool)} {table : List (Nat × Prop)}
    (same : ok = true ↔ accepted) (rest : accepted → Examines fields table) :
    Examines ((n, ok) :: fields) ((n, accepted) :: table) := by
  cases ok with
  | true =>
    have accepted := same.1 rfl
    refine ⟨?_, fun k failed => .inr ⟨accepted, (rest accepted).fails k failed⟩⟩
    simpa [firstFailure, Accepts, accepted] using (rest accepted).accepts
  | false =>
    have refused : ¬ accepted := fun k => by simpa using same.2 k
    refine ⟨by simp [firstFailure, Accepts, refused], fun k failed => .inl ⟨refused, ?_⟩⟩
    exact (Option.some.inj failed).symm

/-- A field that accepts any value is not in the table. -/
theorem skip {n : Nat} {fields : List (Nat × Bool)} {table : List (Nat × Prop)} (rest : Examines fields table) :
    Examines ((n, true) :: fields) table := ⟨rest.accepts, rest.fails⟩

theorem append {fields more : List (Nat × Bool)} {table others : List (Nat × Prop)} (first : Examines fields table)
    (next : Accepts table → Examines more others) : Examines (fields ++ more) (table ++ others) := by
  cases failed : firstFailure fields with
  | none =>
    have passed := first.accepts.1 failed
    refine ⟨?_, fun n k => firstFailing_append_of_accepts passed ((next passed).fails n ?_)⟩
    · simpa [firstFailure_append, failed, accepts_append, passed] using (next passed).accepts
    · simpa [firstFailure_append, failed] using k
  | some n =>
    have refused : ¬ Accepts table := fun k => by simpa [failed] using first.accepts.2 k
    refine ⟨by simp [firstFailure_append, failed, accepts_append, refused], fun k some_eq => firstFailing_append_of_first _ (first.fails k ?_)⟩
    simpa [firstFailure_append, failed] using some_eq

/-- A part of the fields that is examined under a condition. -/
theorem ite {p : Prop} [Decidable p] {fields : List (Nat × Bool)} {table : List (Nat × Prop)} (h : p → Examines fields table) :
    Examines (if p then fields else []) (if p then table else []) := by
  split
  next k => exact h k
  · exact nil

theorem refusal_eq_none {fields : List (Nat × Bool)} {table : List (Nat × Prop)} (h : Examines fields table)
    (accepted : Accepts table) : fieldRefusal fields = none := by
  simp [fieldRefusal, h.accepts.2 accepted]

theorem refusal_eq_badField {fields : List (Nat × Bool)} {table : List (Nat × Prop)} (h : Examines fields table)
    (refused : ¬ Accepts table) : ∃ n, FirstFailing table n ∧ fieldRefusal fields = some (.badField n) := by
  cases failed : firstFailure fields with
  | none => exact absurd (h.accepts.1 failed) refused
  | some n => exact ⟨n, h.fails n failed, by simp [fieldRefusal, failed]⟩

end Examines

/-! ### Each table -/

/-- A last field of a table. -/
theorem Examines.last {n : Nat} {ok : Bool} {accepted : Prop} (same : ok = true ↔ accepted) :
    Examines [(n, ok)] [(n, accepted)] := .cons same fun _ => .nil

theorem between_zero_iff {hi v : Nat} : between 0 hi v = true ↔ v ≤ hi := by simp [between_iff]

theorem Polarity.ofCode_isSome {b : Byte} : (Polarity.ofCode b).isSome = true ↔ b.toNat ≤ 1 := by
  unfold Polarity.ofCode
  split <;> simp_all
  omega

theorem yesOfCode_isSome {b : Byte} : (yesOfCode b).isSome = true ↔ b.toNat ≤ 1 := by
  unfold yesOfCode
  split <;> simp_all
  omega

theorem examines_config (f : ConfigFields) : Examines (configFieldList f) (configAccepts f) :=
  .cons between_iff fun _ => .cons between_iff fun _ => .cons between_iff fun _ => .cons between_iff fun _ =>
    .cons between_zero_iff fun _ => .last Polarity.ofCode_isSome

theorem examines_profile (f : ProfileFields) : Examines (profileFieldList f) (profileAccepts f) :=
  .cons between_zero_iff fun _ => .cons between_iff fun _ => .cons between_iff fun _ =>
    .cons (by rw [between_iff]; omega) fun _ => .cons (by rw [between_iff]; omega) fun _ => .cons between_iff fun _ =>
      .last between_iff

theorem examines_channel (f : ChannelFields) : Examines (channelFieldList f) (channelAccepts f) := by
  refine .cons Iff.rfl fun known => .cons between_iff fun _ => .cons ?_ fun _ => .cons (by simp) fun _ =>
    .cons between_zero_iff fun _ => .cons between_zero_iff fun _ => .last Iff.rfl
  obtain ⟨c, channel⟩ := Option.isSome_iff_exists.1 known
  have span : 0 ≤ (channelRange c).2 - (channelRange c).1 := by cases c <;> decide
  simp only [channel, Option.getD_some, Option.some.injEq, forall_eq', channelSpan, decide_eq_true_iff, Int.abs_eq_natAbs]
  omega

theorem examines_start (store : PlanStore) (f : StartFields) : Examines (startFieldList store f) (startAccepts store f) :=
  .cons Iff.rfl fun _ => .cons between_zero_iff fun _ => .cons (by simp [between_iff]) fun _ => .cons between_zero_iff fun _ =>
    .cons between_iff fun _ => .cons between_iff fun _ => .cons yesOfCode_isSome fun _ => .last yesOfCode_isSome

theorem examines_points (x : Axis) (points : List (BitVec 16 × BitVec 16)) (k : Nat) (before : Option Int) :
    Examines (pointFields (axisRange x) k before points) (pointAccepts x k before points) := by
  induction points generalizing k before with
  | nil => exact .nil
  | cons p points ih =>
    refine .cons ?_ fun _ => .cons between_zero_iff fun _ => ih (k + 1) _
    cases before <;> simp [and_assoc]

theorem examines_curve (f : CurveFields) : Examines [(1, between 0 7 f.curve.toNat), (2, (Axis.ofCode f.axis).isSome),
    (3, f.n.toNat == 0 || between 2 12 f.n.toNat)] (curveAccepts f) :=
  .cons between_zero_iff fun _ => .cons Iff.rfl fun _ => .last (by simp [between_iff])

theorem examines_check (k : Nat) (c : CheckFields) : Examines (checkFields k c) (checkAccepts k c) := by
  refine .cons Iff.rfl fun known => ?_
  obtain ⟨ch, channel⟩ := Option.isSome_iff_exists.1 known
  exact .cons Iff.rfl fun _ => .cons (by simp [channel]) fun _ => .last (by simp [channel])

theorem curveRefOk_iff {store : PlanStore} {id : Nat} {wrong : Axis} :
    curveRefOk store id wrong = true ↔ CurveRefAcceptable store id wrong := by
  simp [curveRefOk, CurveRefAcceptable]

theorem examines_kind (store : PlanStore) (f : StepFields) (k : Kind) : Examines (kindFields store f k) (kindAccepts store f k) := by
  have above (lo hi v : Nat) : between (lo + 1) hi v = true ↔ lo < v ∧ v ≤ hi := between_iff
  cases k with
  | none => exact .nil
  | hold => exact .last between_zero_iff
  | ramp => exact .cons between_zero_iff fun _ => .cons between_zero_iff fun _ => .last between_iff
  | pulse =>
    exact .cons between_zero_iff fun _ => .cons between_iff fun _ => .cons between_iff fun _ =>
      .cons (by rw [between_iff]; omega) fun _ => .skip .nil
  | tripSearch =>
    exact .cons between_zero_iff fun _ => .cons between_iff fun _ => .cons (above _ _ _) fun _ => .cons Iff.rfl fun _ =>
      .cons between_iff fun _ => .cons between_zero_iff fun _ => .last between_iff
  | tripTime =>
    have word (v : BitVec 16) : v.toNat ≤ 65535 := Nat.le_of_lt_succ v.isLt
    exact .cons between_zero_iff fun _ => .cons (above _ _ _) fun _ => .cons Iff.rfl fun _ => .cons between_iff fun _ =>
      .cons (by simp [between_iff, word]) fun _ => .last (by simp [between_iff, word])
  | recover => exact .cons between_zero_iff fun _ => .last between_zero_iff
  | derate =>
    exact .cons curveRefOk_iff fun _ => .cons (by simp [curveRefOk_iff]) fun _ => .cons between_zero_iff fun _ =>
      .cons between_iff fun _ => .cons (above _ _ _) fun _ => .cons between_iff fun _ => .cons between_zero_iff fun _ =>
        .last between_zero_iff
  | dropout =>
    exact .cons between_zero_iff fun _ => .cons between_zero_iff fun _ => .cons between_iff fun _ => .cons between_iff fun _ =>
      .last between_zero_iff

theorem examines_step (store : PlanStore) (f : StepFields) (k : Kind) : Examines (stepFieldList store f k) (stepAccepts store f k) := by
  have common : Examines [ (5, between 0 33 f.nextPass.toNat), (6, between 0 33 f.nextFail.toNat),
      (7, between 1 600000 f.timeLimit.toNat), (8, lineSetpointOk k f.lineSetpoint.toNat),
      (9, (k != .hold && k != .derate) || f.window.toNat != 0),
      (11, between 0 (if k.tripKind then 0 else 3) f.checkCount.toNat) ]
      [ (5, f.nextPass.toNat ≤ 33), (6, f.nextFail.toNat ≤ 33),
        (7, 1 ≤ f.timeLimit.toNat ∧ f.timeLimit.toNat ≤ 600000),
        (8, (1800 ≤ f.lineSetpoint.toNat ∧ f.lineSetpoint.toNat ≤ 3050) ∨ (f.lineSetpoint.toNat = 0 ∧ k ≠ .derate)),
        (9, k = .hold ∨ k = .derate → f.window.toNat ≠ 0),
        (11, f.checkCount.toNat ≤ 3 ∧ (k = .tripSearch ∨ k = .tripTime → f.checkCount.toNat = 0)) ] := by
    refine .cons between_zero_iff fun _ => .cons between_zero_iff fun _ => .cons between_iff fun _ =>
      .cons (by simp [lineSetpointOk, between_iff]) fun _ => .cons ?_ fun _ => .last ?_
    · cases k <;> simp
    · rw [between_zero_iff]
      cases k <;> simp [Kind.tripKind] <;> omega
  unfold stepFieldList stepAccepts checkListFields
  rw [← List.append_assoc, ← List.append_assoc]
  exact (((common.append fun _ => .ite fun _ => examines_check 12 _).append fun _ => .ite fun _ => examines_check 16 _).append
    fun _ => .ite fun _ => examines_check 20 _).append fun _ => examines_kind store f k

end Sys2Proof.Machine

/-! ## The writes, CONFIGURE and the refusals of START_WALK -/

namespace Sys2Proof.Machine

/-! ### The outcome of each by its refusal -/

section
variable {s : State}

theorem exec_configure_of_refusal {f : ConfigFields} {a : Answer} (h : configureRefusal s.store f = some a) :
    exec (.configure f) s = .next (s.reply 0x08 a) := by
  change Host.Outcome.next (s.takeConfigure f) = _
  simp [State.takeConfigure, h]

theorem exec_configure_of_accepted {f : ConfigFields} (h : configureRefusal s.store f = none) :
    exec (.configure f) s = .next ((s.setStore { s.store with config := some (storedConfig f) }).reply 0x08 .ok) := by
  change Host.Outcome.next (s.takeConfigure f) = _
  simp [State.takeConfigure, h]

theorem exec_writeStep_of_refusal {f : StepFields} {a : Answer} (h : writeStepRefusal s.engine s.store f = some a) :
    exec (.writeStep f) s = .next (s.reply 0x10 a) := by
  change Host.Outcome.next (s.takeWriteStep f) = _
  simp [State.takeWriteStep, h]

theorem exec_writeStep_of_accepted {f : StepFields} {p : Page} (page : Page.ofCode f.page = some p)
    (h : writeStepRefusal s.engine s.store f = none) :
    exec (.writeStep f) s = .next ((s.setStore (s.store.putSlot p f.index.toNat (storedStep f))).reply 0x10 .ok) := by
  change Host.Outcome.next (s.takeWriteStep f) = _
  simp [State.takeWriteStep, h, page]

theorem exec_writeCurve_of_refusal {f : CurveFields} {a : Answer} (h : tableRefusal s.engine (curveFieldList f) = some a) :
    exec (.writeCurve f) s = .next (s.reply 0x11 a) := by
  change Host.Outcome.next (s.takeWriteCurve f) = _
  simp [State.takeWriteCurve, h]

theorem exec_writeCurve_of_accepted {f : CurveFields} (h : tableRefusal s.engine (curveFieldList f) = none) :
    exec (.writeCurve f) s = .next ((s.setStore { s.store with
      curves := s.store.curves.setIfInBounds f.curve.toNat (storedCurve f) }).reply 0x11 .ok) := by
  change Host.Outcome.next (s.takeWriteCurve f) = _
  simp [State.takeWriteCurve, h]

theorem exec_writeProfile_of_refusal {f : ProfileFields} {a : Answer} (h : tableRefusal s.engine (profileFieldList f) = some a) :
    exec (.writeProfile f) s = .next (s.reply 0x12 a) := by
  change Host.Outcome.next (s.takeWriteProfile f) = _
  simp [State.takeWriteProfile, h]

theorem exec_writeProfile_of_accepted {f : ProfileFields} (h : tableRefusal s.engine (profileFieldList f) = none) :
    exec (.writeProfile f) s = .next ((s.setStore { s.store with
      profiles := s.store.profiles.setIfInBounds f.profile.toNat (storedProfile f) }).reply 0x12 .ok) := by
  change Host.Outcome.next (s.takeWriteProfile f) = _
  simp [State.takeWriteProfile, h]

theorem exec_writeChannel_of_refusal {f : ChannelFields} {a : Answer} (h : tableRefusal s.engine (channelFieldList f) = some a) :
    exec (.writeChannel f) s = .next (s.reply 0x13 a) := by
  change Host.Outcome.next (s.takeWriteChannel f) = _
  simp [State.takeWriteChannel, h]

theorem exec_writeChannel_of_accepted {f : ChannelFields} {c : Channel} (channel : channelOfCode f.channel = some c)
    (h : tableRefusal s.engine (channelFieldList f) = none) :
    exec (.writeChannel f) s = .next ((s.setStore { s.store with
      channels := s.store.channels.put c (storedChannel f) }).reply 0x13 .ok) := by
  change Host.Outcome.next (s.takeWriteChannel f) = _
  simp [State.takeWriteChannel, h, channel]

theorem exec_startWalk_of_refusal {f : StartFields} {a : Answer} (h : startRefusal s f = some a) :
    exec (.startWalk f) s = .next (s.reply 0x20 a) := by
  change Host.Outcome.next (s.takeStartWalk f) = _
  simp [State.takeStartWalk, h]

theorem exec_startWalk_of_accepted {f : StartFields} (h : startRefusal s f = none) :
    exec (.startWalk f) s = .next ((s.startWalk (storedHeader f)).reply 0x20 .ok) := by
  change Host.Outcome.next (s.takeStartWalk f) = _
  simp [State.takeStartWalk, h]

end

/-! ### CONFIGURE -/

theorem storedConfig_of_accepts {f : ConfigFields} (accepted : Accepts (configAccepts f)) :
    storedConfig f = ⟨f.limit.toNat, f.lineSettle.toNat, f.backoffUnit.toNat, f.attemptLimit.toNat, f.gateQuiet.toNat,
      if f.alarmPolarity.toNat = 0 then .activeHigh else .activeLow⟩ := by
  obtain ⟨-, -, -, -, -, polarity, -⟩ := accepted
  have code : f.alarmPolarity.toNat = 0 ∨ f.alarmPolarity.toNat = 1 := by omega
  rcases code with code | code <;> simp [storedConfig, Polarity.ofCode, code]

/-- Settles O14, by the table of CONFIGURE. -/
theorem configureStoresOrRefuses : Obligations.ConfigureStoresOrRefuses := by
  refine fun f s => ⟨fun set => ?_, fun unset accepted => ?_, fun unset refused => ?_⟩
  · exact exec_configure_of_refusal (by simp [configureRefusal, set])
  · rw [exec_configure_of_accepted, storedConfig_of_accepts accepted]
    simp [configureRefusal, unset, (examines_config f).refusal_eq_none accepted]
  · obtain ⟨n, first, refusal⟩ := (examines_config f).refusal_eq_badField refused
    exact ⟨n, first, exec_configure_of_refusal (by simp [configureRefusal, unset, refusal])⟩

/-! ### WRITE_STEP -/

theorem pageGuard_of_free {e : Engine} {p : Page} (current : e.walk.active = true → e.page ≠ some p) (target : e.chain ≠ some p) :
    pageGuard e p = none := by
  have free : ¬ (e.walk.active = true ∧ e.page = some p) := fun h => current h.1 h.2
  simp only [pageGuard, if_neg free, if_neg target]

section
variable {e : Engine} (store : PlanStore) {f : StepFields} {p : Page} (page : Page.ofCode f.page = some p)
  (index : f.index.toNat ≤ 31) (guard : pageGuard e p = none)
include page index guard

/-- Past its guards WRITE_STEP is refused by its kind and then its fields (R3, R16). -/
theorem writeStepRefusal_of_badKind (kind : Kind.ofCode f.kind = none) : writeStepRefusal e store f = some (.badField 3) := by
  simp [writeStepRefusal, page, Nat.not_lt.2 index, guard, kind]

theorem writeStepRefusal_of_noKind (kind : Kind.ofCode f.kind = some .none) : writeStepRefusal e store f = none := by
  simp [writeStepRefusal, page, Nat.not_lt.2 index, guard, kind]

theorem writeStepRefusal_of_kind {k : Kind} (kind : Kind.ofCode f.kind = some k) (some_kind : k ≠ .none) :
    writeStepRefusal e store f = fieldRefusal (stepFieldList store f k) := by
  cases k with
  | none => exact absurd rfl some_kind
  | _ => simp [writeStepRefusal, page, Nat.not_lt.2 index, guard, kind]

end

theorem storedStep_of_kind {f : StepFields} {k : Kind} (kind : Kind.ofCode f.kind = some k) (some_kind : k ≠ .none) :
    storedStep f =
      { tag := f.tag.toNat
        nextPass := f.nextPass.toNat
        nextFail := f.nextFail.toNat
        timeLimit := f.timeLimit.toNat
        lineSetpoint := f.lineSetpoint.toNat
        window := f.window.toNat
        captureBlocks := f.captureBlocks.toNat
        checks := (presentChecks f).map storedCheck
        body := storedBody f k } := by
  cases k with
  | none => exact absurd rfl some_kind
  | _ => simp [storedStep, kind]

/-- Settles O15, by the table of WRITE_STEP for the kind. -/
theorem writeStepStoresOrRefuses : Obligations.WriteStepStoresOrRefuses := by
  intro f s p k page index current target kind
  have guard := pageGuard_of_free current target
  refine ⟨fun noKind => ?_, fun some_kind accepted => ?_, fun some_kind refused => ?_⟩
  · subst noKind
    rw [exec_writeStep_of_accepted page (writeStepRefusal_of_noKind s.store page index guard kind)]
    simp [storedStep, kind]
  · rw [exec_writeStep_of_accepted page, storedStep_of_kind kind some_kind]
    exact (writeStepRefusal_of_kind s.store page index guard kind some_kind).trans
      ((examines_step s.store f k).refusal_eq_none accepted)
  · obtain ⟨n, first, failing⟩ := (examines_step s.store f k).refusal_eq_badField refused
    exact ⟨n, first, exec_writeStep_of_refusal
      ((writeStepRefusal_of_kind s.store page index guard kind some_kind).trans failing)⟩

/-- Settles O16: each guard refuses before the next is looked at. -/
theorem writeGuards : Obligations.WriteGuards := by
  refine fun s => ⟨fun f page => ?_, fun f p page => ⟨fun index => ?_, fun index active current => ?_,
    fun index current target => ?_, fun index current target kind => ?_⟩, fun active => ⟨fun f => ?_, fun f => ?_, fun f => ?_⟩⟩
  · exact exec_writeStep_of_refusal (by simp [writeStepRefusal, page])
  · exact exec_writeStep_of_refusal (by simp [writeStepRefusal, page, index])
  · exact exec_writeStep_of_refusal (by simp [writeStepRefusal, page, Nat.not_lt.2 index, pageGuard, active, current])
  · have free : ¬ (s.engine.walk.active = true ∧ s.engine.page = some p) := fun h => current h.1 h.2
    refine exec_writeStep_of_refusal ?_
    simp only [writeStepRefusal, page, if_neg (Nat.not_lt.2 index), pageGuard, if_neg free, if_pos target]
  · exact exec_writeStep_of_refusal (writeStepRefusal_of_badKind _ page index (pageGuard_of_free current target) kind)
  · exact exec_writeCurve_of_refusal (tableRefusal_of_active active _)
  · exact exec_writeProfile_of_refusal (tableRefusal_of_active active _)
  · exact exec_writeChannel_of_refusal (tableRefusal_of_active active _)

/-! ### WRITE_CURVE, WRITE_PROFILE and WRITE_CHANNEL -/

theorem tableRefusal_of_inactive {e : Engine} (inactive : e.walk.active = false) (fields : List (Nat × Bool)) :
    tableRefusal e fields = fieldRefusal fields := by simp [tableRefusal, inactive]

theorem fieldRefusal_append_of_accepted {fields : List (Nat × Bool)} (more : List (Nat × Bool)) (h : fieldRefusal fields = none) :
    fieldRefusal (fields ++ more) = fieldRefusal more := by
  have passed : firstFailure fields = none := by simpa [fieldRefusal] using h
  simp [fieldRefusal, firstFailure_append, passed]

theorem fieldRefusal_append_of_refused {fields : List (Nat × Bool)} {a : Answer} (more : List (Nat × Bool))
    (h : fieldRefusal fields = some a) : fieldRefusal (fields ++ more) = some a := by
  obtain ⟨n, failed, answer⟩ : ∃ n, firstFailure fields = some n ∧ Answer.badField n = a := by simpa [fieldRefusal] using h
  simp [fieldRefusal, firstFailure_append, failed, answer]

/-- Settles O17, by the table of WRITE_CURVE and then that of its points. -/
theorem writeCurveStores : Obligations.WriteCurveStores := by
  intro f s inactive
  have outside := tableRefusal_of_inactive inactive (curveFieldList f)
  refine ⟨fun refused => ?_, fun x accepted axis => ?_⟩
  · obtain ⟨n, first, failing⟩ := (examines_curve f).refusal_eq_badField refused
    exact ⟨n, first, exec_writeCurve_of_refusal (outside.trans (fieldRefusal_append_of_refused _ failing))⟩
  · have points : tableRefusal s.engine (curveFieldList f) = fieldRefusal (pointFields (axisRange x) 1 none (f.points.take f.n.toNat)) := by
      refine outside.trans ((fieldRefusal_append_of_accepted _ ((examines_curve f).refusal_eq_none accepted)).trans ?_)
      rw [axis]
      rfl
    refine ⟨fun empty => ?_, fun filled accepted => ?_, fun filled refused => ?_⟩
    · rw [exec_writeCurve_of_accepted]
      · simp [storedCurve, empty]
      · rw [points, empty]
        rfl
    · rw [exec_writeCurve_of_accepted]
      · simp [storedCurve, filled, axis, carriedPoints]
      · rw [points, (examines_points x _ 1 none).refusal_eq_none accepted]
    · obtain ⟨n, first, failing⟩ := (examines_points x _ 1 none).refusal_eq_badField refused
      exact ⟨n, first, exec_writeCurve_of_refusal (points.trans failing)⟩

/-- Settles O18, by the tables of the two writes. -/
theorem writeProfileAndChannelStore : Obligations.WriteProfileAndChannelStore := by
  refine fun s inactive => ⟨fun f accepted => ?_, fun f refused => ?_, fun f c p channel policy accepted => ?_, fun f refused => ?_⟩
  · rw [exec_writeProfile_of_accepted]
    · rfl
    · rw [tableRefusal_of_inactive inactive, (examines_profile f).refusal_eq_none accepted]
  · obtain ⟨n, first, failing⟩ := (examines_profile f).refusal_eq_badField refused
    exact ⟨n, first, exec_writeProfile_of_refusal ((tableRefusal_of_inactive inactive _).trans failing)⟩
  · rw [exec_writeChannel_of_accepted channel]
    · simp [storedChannel, policy]
    · rw [tableRefusal_of_inactive inactive, (examines_channel f).refusal_eq_none accepted]
  · obtain ⟨n, first, failing⟩ := (examines_channel f).refusal_eq_badField refused
    exact ⟨n, first, exec_writeChannel_of_refusal ((tableRefusal_of_inactive inactive _).trans failing)⟩

/-! ### START_WALK -/

section
variable {s : State} {f : StartFields} (walk : s.engine.walk = .idle) (config : s.store.config.isSome = true)
include walk config

/-- From IDLE, with a configuration, START_WALK is refused by its header first. -/
theorem startRefusal_of_header {a : Answer} (refused : fieldRefusal (startFieldList s.store f) = some a) :
    startRefusal s f = some a := by
  have set : s.store.config ≠ none := Option.isSome_iff_ne_none.1 config
  simp [startRefusal, walk, WalkState.active, set, refused]

/-- Past its header START_WALK is refused by the interlock input and then by an empty start slot. -/
theorem startRefusal_of_accepts (accepted : Accepts (startAccepts s.store f)) :
    startRefusal s f = if s.interlockOpen then some .interlock
      else if (s.store.slot (storedHeader f).startPage f.index.toNat).kind = .none then some .emptyStep
      else none := by
  have set : s.store.config ≠ none := Option.isSome_iff_ne_none.1 config
  simp [startRefusal, walk, WalkState.active, set, (examines_start s.store f).refusal_eq_none accepted]

end

theorem storedHeader_startPage {f : StartFields} {p : Page} (page : Page.ofCode f.page = some p) :
    (storedHeader f).startPage = p := by simp [storedHeader, page]

/-- Settles O19, by the order of the refusals. -/
theorem startWalkRefusalOrder : Obligations.StartWalkRefusalOrder := by
  refine fun f s => ⟨fun walk => ?_, fun active => ?_, fun walk unset => ?_, fun walk config => ?_⟩
  · exact exec_startWalk_of_refusal (by simp [startRefusal, walk])
  · have other : s.engine.walk ≠ .held := fun held => by simp [held, WalkState.active] at active
    exact exec_startWalk_of_refusal (by simp [startRefusal, other, active])
  · exact exec_startWalk_of_refusal (by simp [startRefusal, walk, WalkState.active, unset])
  · refine ⟨fun refused => ?_, fun accepted opened => ?_, fun p accepted closed page empty => ?_⟩
    · obtain ⟨n, first, failing⟩ := (examines_start s.store f).refusal_eq_badField refused
      exact ⟨n, first, exec_startWalk_of_refusal (startRefusal_of_header walk config failing)⟩
    · exact exec_startWalk_of_refusal ((startRefusal_of_accepts walk config accepted).trans (by simp [opened]))
    · refine exec_startWalk_of_refusal ((startRefusal_of_accepts walk config accepted).trans ?_)
      simp [closed, storedHeader_startPage page, empty]

end Sys2Proof.Machine

/-! ## The station port and the resets -/

namespace Sys2Proof.Machine

/-! ### Transactions -/

/-- Settles O6, by the record the frame is chosen from. -/
theorem transactionBeginChoosesFrame : Obligations.TransactionBeginChoosesFrame := by
  refine fun s => ⟨fun a answer => ?_, fun r rest answer queue => ?_, fun answer empty => ?_⟩
  all_goals change Host.Outcome.next s.beginTransaction = _
  · simp [State.beginTransaction, State.outgoingFrame, State.chosenRecord, answer]
  · simp [State.beginTransaction, State.outgoingFrame, State.chosenRecord, answer, queue]
  · simp [State.beginTransaction, State.outgoingFrame, State.chosenRecord, answer, empty]

theorem frameCommand_taken (frame : List Byte) (straps : BitVec 4) (s : State) :
    exec (frameCommand frame straps) s = .next (s.takeCommand (frameCommand frame straps)) := by
  unfold frameCommand
  split <;> rfl

theorem Port.driven_of_active {p : Port} {source : FrameSource} {frame : List Byte} (active : p.select = .active)
    (latched : p.outgoing = some (source, frame)) (n : Nat) :
    p.driven n = frame.take n ++ List.replicate (n - frame.length) 0 := by
  simp [Port.driven, active, latched]

/-- The state on which a completed transaction takes its command, from the state that has consumed the frame sent. -/
def State.received (s consumed : State) (bytes : List Byte) : State :=
  consumed.setPort { consumed.port with
    select := .inactive
    command := bytes.take 64
    outgoing := none
    dataOut := s.port.driven bytes.length }

theorem exec_transactionComplete_of_active {s : State} {bytes : List Byte} (straps : BitVec 4) (active : s.port.select = .active)
    (long : 64 ≤ bytes.length) :
    exec (.transactionComplete bytes straps) s = exec (frameCommand (bytes.take 64) straps) (s.received s.consume bytes) := by
  rw [frameCommand_taken]
  change Host.Outcome.next (s.endTransaction _ _) = _
  have whole : ¬ bytes.length < Config.frameBytes := Nat.not_lt.2 long
  simp only [State.endTransaction, active, if_neg whole]
  rfl

/-- Settles O8, by the source of the frame sent. -/
theorem completionConsumesThenTakes : Obligations.CompletionConsumesThenTakes := by
  intro bytes frame carried straps s active long driven
  have completed := exec_transactionComplete_of_active straps active long
  refine ⟨fun latched => ?_, fun latched noRecord => ?_, fun latched => ?_⟩
  · rw [completed, driven, ← Port.driven_of_active active latched]
    simp [State.received, State.consume, latched]
  · have consumed : s.consume = s.setQueue s.queue.tail := by
      simp [State.consume, latched, State.goOn_of_none, noRecord]
    rw [completed, driven, ← Port.driven_of_active active latched, consumed]
    simp [State.received]
  · rw [completed, driven, ← Port.driven_of_active active latched]
    simp [State.received, State.consume, latched]

/-- Settles O11, by the select for the transactions and by definition for the commands. -/
theorem portOnlyCommands : Obligations.PortOnlyCommands := by
  refine fun s => ⟨fun n source frame active short latched => ?_, fun bytes straps void => ?_, fun n void short => ?_, rfl,
    fun code => rfl, rfl⟩
  · change Host.Outcome.next (s.endTransaction n (s.dropTransaction n)) = _
    simp [State.endTransaction, active, State.dropTransaction, Port.driven, latched]
  · change Host.Outcome.next (s.endTransaction bytes.length _) = _
    simp [State.endTransaction, void, State.dropTransaction, Port.driven]
  · change Host.Outcome.next (s.endTransaction n (s.dropTransaction n)) = _
    simp [State.endTransaction, void, State.dropTransaction, Port.driven]

/-! ### Refusals -/

/-- A command is answered OK, or refused with nothing but the answer. -/
def State.AnswersOrRefuses (s t : State) : Prop :=
  (∃ code a, t = s.reply code a) ∨ ∃ a, t.port.answer = some a ∧ a.answer = .ok

theorem State.AnswersOrRefuses.refused (s : State) (code : Byte) (a : Answer) : s.AnswersOrRefuses (s.reply code a) :=
  .inl ⟨code, a, rfl⟩

theorem State.AnswersOrRefuses.ok (s t : State) (code : Byte) : s.AnswersOrRefuses (t.reply code .ok) :=
  .inr ⟨⟨code, .ok, none⟩, rfl, rfl⟩

section
variable (s : State)

theorem State.takeStartWalk_answers (f : StartFields) : s.AnswersOrRefuses (s.takeStartWalk f) := by
  unfold State.takeStartWalk
  split
  · exact .refused _ _ _
  · exact .ok _ _ _

theorem State.takePauseCommand_answers : s.AnswersOrRefuses s.takePauseCommand := by
  unfold State.takePauseCommand
  split
  case h_1 | h_2 =>
    split
    · exact .refused _ _ _
    · exact .ok _ _ _
  all_goals exact .refused _ _ _

theorem State.takeResume_answers : s.AnswersOrRefuses s.takeResume := by
  unfold State.takeResume
  split
  · exact .ok _ _ _
  · split
    · exact .ok _ _ _
    · exact .refused _ _ _
  all_goals exact .refused _ _ _

theorem State.takeAbort_answers : s.AnswersOrRefuses s.takeAbort := by
  unfold State.takeAbort
  split
  case h_5 | h_6 => exact .refused _ _ _
  all_goals exact .ok _ _ _

theorem State.takeRelease_answers : s.AnswersOrRefuses s.takeRelease := by
  unfold State.takeRelease
  split
  · exact .ok _ _ _
  all_goals exact .refused _ _ _

theorem State.takeArmChain_answers : s.AnswersOrRefuses s.takeArmChain := by
  unfold State.takeArmChain
  split
  case h_1 | h_2 => exact .refused _ _ _
  all_goals
    split
    · exact .refused _ _ _
    · exact .ok _ _ _

theorem State.takeCommand_answers {c : Instr} (answered : c.isAnswered = true) : s.AnswersOrRefuses (s.takeCommand c) := by
  cases c <;> simp [Instr.isAnswered] at answered <;> simp only [State.takeCommand]
  case badCommand code => exact .refused _ _ _
  case status => exact .inr ⟨_, rfl, rfl⟩
  case startWalk f => exact s.takeStartWalk_answers f
  case pause => exact s.takePauseCommand_answers
  case resume => exact s.takeResume_answers
  case abort => exact s.takeAbort_answers
  case release => exact s.takeRelease_answers
  case armChain => exact s.takeArmChain_answers
  case disarmChain => exact .ok _ _ _
  case reset straps => exact .ok _ _ _
  all_goals
    simp only [State.takeConfigure, State.takeWriteStep, State.takeWriteCurve, State.takeWriteProfile, State.takeWriteChannel]
    split
    · exact .refused _ _ _
    · exact .ok _ _ _

end

/-- Settles O12: every answered command replies OK, or replies and does nothing else. -/
theorem refusedCommandOnlyAnswers : Obligations.RefusedCommandOnlyAnswers := by
  intro c s t a answered run answer notOk
  cases (exec_of_isAnswered answered s).symm.trans run
  rcases s.takeCommand_answers answered with ⟨code, b, same⟩ | ⟨b, placed, ok⟩
  · rw [same] at answer ⊢
    cases answer
    rfl
  · cases placed.symm.trans answer
    exact absurd ok notOk

/-! ### Resets -/

/-- What a line may still show after a contribution has moved to its present value and then to 0 (R45, R69). -/
theorem Contribution.fades_move_zero (c : Contribution) (driven settle : Nat) :
    c.Fades driven settle ((c.move driven settle).move 0 settle).fading := by
  intro v left
  unfold Contribution.move
  by_cases moved : driven = c.current
  · by_cases zero : (0 : Nat) = c.current
    · simp [moved, ← zero]
    · simp [moved, zero, Ne.symm zero, or_comm, and_comm]
  · by_cases zero : (0 : Nat) = driven
    · subst zero
      simp [moved, Ne.symm moved, or_comm, and_comm]
    · simp [moved, zero, Ne.symm zero, Ne.symm moved, and_comm]
      tauto

theorem Contribution.move_zero (c : Contribution) (settle : Nat) :
    c.move 0 settle = ⟨0, (c.move 0 settle).fading⟩ := by
  have current := c.move_current 0 settle
  cases moved : c.move 0 settle with
  | mk value fading => rw [moved] at current; simp only at current; rw [current]

theorem Bay.censusUnits_eq (b : Bay) : b.censusUnits = if b.ownUnit = .released then 0 else 1 := by
  unfold Bay.censusUnits
  cases b.ownUnit <;> rfl

/-- The bay interface after a reset: its reset values, beside the values the lines may still show. -/
theorem Bay.resetFrom_eq (b : Bay) (address settle : Nat) :
    b.resetFrom address settle = { Bay.reset address with
      claimOnLine := ⟨0, ((b.claimOnLine.move b.drivenClaim settle).move 0 settle).fading⟩
      censusOnLine := ⟨0, ((b.censusOnLine.move b.censusUnits settle).move 0 settle).fading⟩ } := by
  unfold Bay.resetFrom
  dsimp only [Bay.moveLines]
  rw [Contribution.move_zero (b.claimOnLine.move _ _), Contribution.move_zero (b.censusOnLine.move _ _)]

/-- Settles O27, by the two contributions that fade. -/
theorem resetsSetEveryBlock : Obligations.ResetsSetEveryBlock := by
  intro straps s
  have blocks := s.bay.resetFrom_eq straps.toNat s.lineSettle
  refine ⟨((s.bay.claimOnLine.move s.bay.drivenClaim s.lineSettle).move 0 s.lineSettle).fading,
    ((s.bay.censusOnLine.move s.bay.censusUnits s.lineSettle).move 0 s.lineSettle).fading,
    s.bay.claimOnLine.fades_move_zero s.bay.drivenClaim s.lineSettle, ?_, ?_, ?_⟩
  · rw [← Bay.censusUnits_eq]
    exact s.bay.censusOnLine.fades_move_zero s.bay.censusUnits s.lineSettle
  · change Host.Outcome.next (s.takeReset straps) = _
    rw [← blocks]
    rfl
  · change Host.Outcome.next (s.takePinReset straps) = _
    rw [← blocks]
    unfold State.takePinReset
    cases s.port.select <;> rfl

theorem PlanStore.reset_curve (i : Nat) : PlanStore.reset.curve i = ⟨none, []⟩ := by
  change ((Vector.replicate 8 _)[i]?).getD _ = _
  rw [Vector.getElem?_replicate]
  split <;> rfl

theorem PlanStore.reset_profile (i : Nat) : PlanStore.reset.profile i = ⟨false, ⟨0, 0, 0, 0, 0, 0⟩⟩ := by
  change ((Vector.replicate 4 _)[i]?).getD _ = _
  rw [Vector.getElem?_replicate]
  split <;> rfl

/-- Settles O28, by the reset values of each block. -/
theorem resetValues : Obligations.ResetValues := by
  refine ⟨⟨rfl, rfl, rfl, rfl, rfl, rfl, rfl, rfl, rfl, rfl, rfl, rfl, rfl⟩, ⟨rfl, rfl, rfl, rfl, rfl, rfl, rfl, rfl⟩,
    ⟨rfl, rfl, rfl, rfl, rfl, rfl, rfl, rfl, rfl, rfl, rfl, rfl, rfl, rfl, rfl⟩,
    ⟨rfl, fun c => ?_, fun c => ?_, rfl, rfl, rfl, rfl, rfl, ⟨rfl, rfl, rfl, rfl⟩, rfl, rfl, rfl⟩, ⟨rfl, rfl, rfl, rfl⟩,
    ⟨rfl, PlanStore.reset_slot, PlanStore.reset_curve, PlanStore.reset_profile, rfl, rfl, rfl, rfl, rfl⟩⟩
  · cases c <;> rfl
  · cases c <;> rfl

end Sys2Proof.Machine


/-! ## What halt, drops, requests and the line setting leave, in the words of the statements -/

namespace Sys2Proof.Machine

/-! ### Halt and drops -/

theorem Drive.pulsing_iff (d : Drive) :
    d.pulsing = true ↔ d.status = .acting ∧ ∃ lo hi period high cycles, d.active = .pulse lo hi period high cycles := by
  unfold Drive.pulsing
  split
  next active status => simp [active, status]
  next other =>
    simp only [Bool.false_eq_true, false_iff, not_and, not_exists]
    intro status lo hi period high cycles active
    exact other _ _ _ _ _ active status

theorem Drive.busy_iff (d : Drive) : d.busy = false ↔ d.pulsing = false ∧ d.rangeChange = .none ∧ d.coupling = .none := by
  simp [Drive.busy, and_assoc]

/-- A range change in flight runs on through a halt (R75). -/
theorem Drive.haltSet_of_change {d : Drive} (change : d.rangeChange ≠ .none) : d.haltSet = d := by
  unfold Drive.haltSet
  split
  next quiet _ _ => exact absurd quiet change
  next quiet _ => exact absurd quiet change
  next => rfl

/-- A pulse falls to its low level (R75). -/
theorem Drive.haltSet_of_pulse {d : Drive} {lo hi period high cycles : Nat} (noChange : d.rangeChange = .none)
    (active : d.active = .pulse lo hi period high cycles) (acting : d.status = .acting) :
    d.haltSet = { { d with level := lo * 1000 }.holdLevel with stopPending := false } := by
  unfold Drive.haltSet; rw [noChange, active, acting]

/-- Any other set stops where it stands (R75). -/
theorem Drive.haltSet_of_steady {d : Drive} (noChange : d.rangeChange = .none) (steady : d.pulsing = false) :
    d.haltSet = d.holdLevel := by
  unfold Drive.haltSet
  split
  next active acting => simp [Drive.pulsing, active, acting] at steady
  next => rfl
  next other _ => exact (other noChange).elim

/-- What every halt leaves alone of the drive unit. -/
theorem Drive.haltSet_keeps (d : Drive) : d.haltSet.coupling = d.coupling ∧ d.haltSet.resetPulse = d.resetPulse
    ∧ d.haltSet.shelfEnable = d.shelfEnable ∧ d.haltSet.lineEnable = d.lineEnable ∧ d.KeepsRelay d.haltSet
    ∧ d.haltSet.staged = d.staged ∧ d.haltSet.dropHold = d.dropHold ∧ d.haltSet.rangeChange = d.rangeChange
    ∧ d.haltSet.completed = d.completed := by
  unfold Drive.haltSet
  split <;> exact ⟨rfl, rfl, rfl, rfl, ⟨rfl, rfl, rfl, rfl, rfl⟩, rfl, rfl, rfl, rfl⟩

/-- A halt leaves what R75 says. -/
theorem Drive.haltsTo_halt (d : Drive) : d.HaltsTo d.halt := by
  let u : Drive := { d with staged := none }
  obtain ⟨coupling, pulse, shelf, line, relay, staged, hold, change, -⟩ := Drive.haltSet_keeps u
  have halt : d.halt = { u.haltSet with
      coupling := .none, lineEnable := u.haltSet.lineEnable || u.haltSet.coupling != .none
      resetPulse := none, shelfEnable := u.haltSet.shelfEnable || u.haltSet.resetPulse.isSome } := by
    rw [show d.halt = u.haltSet.endCoupling.endResetPulse from rfl, Drive.endResetPulse_eq, Drive.endCoupling_eq]
  rw [halt, coupling, pulse, shelf, line]
  refine ⟨⟨rfl, rfl⟩, ⟨rfl, rfl⟩, relay, staged, hold, change, fun running => ?_, fun quiet => ?_⟩
  · rw [Drive.haltSet_of_change (d := u) running]
    exact ⟨rfl, rfl, rfl⟩
  · by_cases pulsing : d.pulsing = true
    · obtain ⟨acting, lo, hi, period, high, cycles, active⟩ := (Drive.pulsing_iff d).1 pulsing
      rw [Drive.haltSet_of_pulse (d := u) quiet active acting]
      refine ⟨rfl, rfl, rfl, by simp [pulsing], fun lo' hi' period' high' cycles' active' _ => ?_⟩
      obtain ⟨rfl, -⟩ : lo = lo' ∧ _ := by simpa [active] using active'
      exact ⟨rfl, rfl⟩
    · rw [Drive.haltSet_of_steady (d := u) quiet (Bool.not_eq_true _ ▸ pulsing)]
      exact ⟨rfl, rfl, rfl, fun _ => rfl, fun lo hi period high cycles active acting =>
        absurd ((Drive.pulsing_iff d).2 ⟨acting, lo, hi, period, high, cycles, active⟩) pulsing⟩

/-- A trip drop, field by field (R79). -/
theorem Drive.tripDrop_eq (d : Drive) : d.tripDrop = { d with
    level := 0, active := .level 0, status := .rest, pulse := none, cycleEnded := false, staged := none
    stopPending := false, dropHold := true, coupling := .none, lineEnable := d.lineEnable || d.coupling != .none } := by
  unfold Drive.tripDrop; rw [Drive.endCoupling_eq]; rfl

/-- A trip drop leaves what R79 says. -/
theorem Drive.dropsTo_tripDrop (d : Drive) : d.DropsTo d.tripDrop := by
  rw [Drive.tripDrop_eq]
  exact ⟨⟨rfl, rfl⟩, ⟨rfl, rfl, rfl, rfl, rfl⟩, rfl, rfl, rfl, rfl, rfl, rfl, rfl, rfl, rfl, rfl⟩

/-- An immediate drop leaves what R80 says. -/
theorem Drive.dropsAllTo_immediateDrop (d : Drive) : d.DropsAllTo d.immediateDrop :=
  ⟨rfl, rfl, rfl, rfl, rfl, rfl, rfl, rfl, rfl, rfl, rfl, rfl, rfl, rfl, rfl, rfl, rfl⟩

/-- A drive unit that has dropped drops again to itself. -/
theorem Drive.tripDrop_tripDrop (d : Drive) : d.tripDrop.tripDrop = d.tripDrop := by
  simp [Drive.tripDrop_eq]

/-! ### Requests -/

/-- A set that takes force leaves the level, the enables and the relay (R73). -/
theorem Drive.standsIn_takeForce (d : Drive) (g : GenSet) : d.StandsIn (d.takeForce g) :=
  ⟨rfl, rfl, rfl, rfl, rfl, rfl, rfl, rfl⟩

/-- The winddown ramp takes force, or waits where R73 holds it back (R73, R84). -/
theorem Drive.stage_winddown (d : Drive) (g : GenSet) :
    d.stage g .winddown = if d.busy then { d with staged := some ⟨g, none⟩ } else d.takeForce g := (rfl)

/-- A plain request with drop hold clear takes force, or waits where R73 holds it back (R73). -/
theorem Drive.stage_plain (d : Drive) (g : GenSet) (hold : d.dropHold = false) :
    d.stage g .plain = if d.busy then { d with staged := some ⟨g, none⟩ } else d.takeForce g := by
  unfold Drive.stage; simp only [hold]; rfl

/-- What staging leaves alone: the level, the enables and the relay (R73). -/
theorem Drive.standsIn_stage_winddown (d : Drive) (g : GenSet) : d.StandsIn (d.stage g .winddown) := by
  rw [Drive.stage_winddown]
  split
  · exact ⟨rfl, rfl, rfl, rfl, rfl, rfl, rfl, rfl⟩
  · exact d.standsIn_takeForce g

theorem Drive.standsIn_stage_plain (d : Drive) (g : GenSet) : d.StandsIn (d.stage g .plain) := by
  cases hold : d.dropHold with
  | true =>
    rw [Drive.stage_plain_of_dropHold d g hold]
    exact ⟨rfl, rfl, rfl, rfl, rfl, rfl, rfl, rfl⟩
  | false =>
    rw [Drive.stage_plain d g hold]
    split
    · exact ⟨rfl, rfl, rfl, rfl, rfl, rfl, rfl, rfl⟩
    · exact d.standsIn_takeForce g

/-- An APPLY request by what holds it back and by its range (R73, R77, R78, R82). -/
theorem Drive.appliesTo_stage (d : Drive) (stop slope : Nat) (range : LoadRange) :
    d.AppliesTo (d.stage (.ramp none stop slope) (.applying range)) stop slope range := by
  cases busy : d.busy with
  | true =>
    have staged : d.stage (.ramp none stop slope) (.applying range)
        = { d with dropHold := false, staged := some ⟨.ramp none stop slope, some range⟩ } := by
      unfold Drive.stage; simp [busy]
    rw [staged]
    exact ⟨rfl, rfl, rfl, rfl, by simp [busy], by simp [busy], fun _ => ⟨rfl, rfl, rfl, rfl⟩⟩
  | false =>
    obtain ⟨-, noChange, -⟩ := (Drive.busy_iff d).1 busy
    have staged : d.stage (.ramp none stop slope) (.applying range)
        = { d with dropHold := false }.proceed (.ramp none stop slope) (some range) := by
      unfold Drive.stage; simp [busy]
    rw [staged]
    unfold Drive.proceed
    by_cases same : range = d.range
    · simp only [same, if_true]
      exact ⟨rfl, rfl, rfl, rfl, fun _ _ => ⟨rfl, rfl, rfl, noChange⟩, fun _ other => absurd rfl other, by simp [busy]⟩
    · simp only [same, if_false]
      exact ⟨rfl, rfl, rfl, rfl, fun _ eq => absurd eq.symm same, fun _ _ => ⟨rfl, rfl, rfl, rfl⟩, by simp [busy]⟩

/-! ### The line setpoint -/

theorem Blank.ofCount_eq (n : Nat) : Blank.ofCount n = if n = 0 then .closed else .counting n := (rfl)

theorem Blank.reopened_eq (b : Blank) (average : List Int) (settle : Nat) :
    b.reopened average.isEmpty settle =
      if b = .waiting ∧ average = [] then .waiting else if settle = 0 then .closed else .counting settle := by
  cases b <;> cases average <;> simp [Blank.reopened, Blank.ofCount]

/-- The line is set (R85, R92, R94). -/
theorem State.lineSet_setLine (s : State) (v : Nat) : s.LineSet (s.setLine v) v := by
  refine ⟨by simp, fun same => ?_, fun change ch => ?_⟩
  · unfold State.setLine; rw [if_pos same]; exact ⟨rfl, rfl⟩
  · have set : s.setLine v = (s.setDrive { s.drive with lineSetpoint := v }).setAcq (s.acq.openLineBlanks s.store.channels) := by
      unfold State.setLine; rw [if_neg change]
    rw [set]
    cases ch with
    | vOut | iOut | tInlet => exact ⟨fun _ => ⟨rfl, rfl⟩, fun line => by simp at line⟩
    | vLine | pLine => exact ⟨fun other => by simp at other, fun _ => ⟨rfl, Blank.reopened_eq _ _ _⟩⟩

/-- The line is set for any state that shows the setpoint, blanks and averages of `setLine`. -/
theorem State.lineSet_of_setLine {s t u : State} {v : Nat} (drive : u.drive = s.drive) (blanks : u.acq.blanks = s.acq.blanks)
    (averages : u.acq.averages = s.acq.averages) (store : u.store = s.store)
    (setpoint : t.drive.lineSetpoint = v) (blanks' : t.acq.blanks = (u.setLine v).acq.blanks)
    (averages' : t.acq.averages = (u.setLine v).acq.averages) : s.LineSet t v := by
  have set := u.lineSet_setLine v
  unfold State.LineSet at set ⊢
  rw [drive, blanks, averages, store, ← blanks', ← averages'] at set
  exact ⟨setpoint, set.2⟩

theorem State.setLine_acq (s : State) (v : Nat) :
    (s.setLine v).acq = if v = s.drive.lineSetpoint then s.acq else s.acq.openLineBlanks s.store.channels := by
  unfold State.setLine; split <;> rfl

/-! ### WINDDOWN entry -/

/-- The acquisition at WINDDOWN entry: the line setting is what changes it. -/
theorem State.enterWinddown_acq (s : State) (reason : Reason) :
    (s.enterWinddown reason).acq = (s.setLine s.engine.ratings.lineNominal).acq := by
  unfold State.enterWinddown
  rw [State.setDrive_acq, State.setLine_acq, State.setLine_acq]
  rfl

/-- WINDDOWN is entered (R41, R84, R85). -/
theorem State.entersWinddown_enterWinddown (s : State) (reason : Reason) : s.EntersWinddown (s.enterWinddown reason) reason := by
  have drive := s.enterWinddown_drive reason
  have stands := Drive.standsIn_stage_winddown { s.drive with lineSetpoint := s.engine.ratings.lineNominal }
    (.ramp none 0 s.engine.safeSlope)
  have engine := s.enterWinddown_engine reason
  have line : (s.enterWinddown reason).drive.lineSetpoint = s.engine.ratings.lineNominal := by
    rw [drive, Drive.stage_winddown]; split <;> rfl
  refine ⟨by rw [engine], by rw [engine], by rw [engine], by rw [engine], ?_, ?_, fun free => ?_, fun busy => ?_⟩
  · exact State.lineSet_of_setLine (u := s) rfl rfl rfl rfl line (by rw [State.enterWinddown_acq]) (by rw [State.enterWinddown_acq])
  · rw [drive]; exact stands
  · have unstaged : ({ s.drive with lineSetpoint := s.engine.ratings.lineNominal } : Drive).busy = false := free
    rw [drive, Drive.stage_winddown_of_free _ _ unstaged]
    exact ⟨rfl, rfl, rfl⟩
  · have staged : ({ s.drive with lineSetpoint := s.engine.ratings.lineNominal } : Drive).busy = true := busy
    rw [drive, Drive.stage_winddown, if_pos staged]
    exact ⟨rfl, rfl, rfl, rfl⟩

/-- WINDDOWN entry is read off the drive, the line blanks and the ratings of the state before. -/
theorem State.EntersWinddown.of_same {s u t : State} {reason : Reason} (h : u.EntersWinddown t reason) (drive : u.drive = s.drive)
    (acq : u.acq.blanks = s.acq.blanks ∧ u.acq.averages = s.acq.averages) (store : u.store = s.store)
    (ratings : u.engine.ratings = s.engine.ratings) (slope : u.engine.safeSlope = s.engine.safeSlope) :
    s.EntersWinddown t reason := by
  unfold State.EntersWinddown State.LineSet at h ⊢
  rw [drive, acq.1, acq.2, store, ratings, slope] at h
  exact h

end Sys2Proof.Machine


/-! ## Verdicts, the results a step's end offers, and what the walk goes on to -/

namespace Sys2Proof.Machine

/-! ### Verdicts -/

theorem verdictOf_concat (vs : List Verdict) (v : Verdict) :
    verdictOf (vs ++ [v]) = if v.rank < (verdictOf vs).rank then v else verdictOf vs := by
  unfold verdictOf; rw [List.foldl_append]; rfl

/-- The verdict is PASS or one of the contributions (R29). -/
theorem verdictOf_mem (vs : List Verdict) : verdictOf vs = .pass ∨ verdictOf vs ∈ vs := by
  induction vs using List.reverseRecOn with
  | nil => exact .inl rfl
  | append_singleton vs v ih =>
    rw [verdictOf_concat]
    split
    · exact .inr (by simp)
    · exact ih.imp_right (List.mem_append_left _)

/-- A contribution that ranks above the others is the verdict (R29). -/
theorem verdictOf_concat_of_rank {vs : List Verdict} {v : Verdict} (fails : v.rank < 7) (above : ∀ w ∈ vs, v.rank < w.rank) :
    verdictOf (vs ++ [v]) = v := by
  rw [verdictOf_concat, if_pos]
  rcases verdictOf_mem vs with pass | mem
  · rw [pass]; exact fails
  · exact above _ mem

/-- ABORTED ranks above all others (R29). -/
theorem verdictOf_concat_aborted (vs : List Verdict) : verdictOf (vs ++ [.aborted]) = .aborted := by
  rw [verdictOf_concat]
  cases h : verdictOf vs <;> simp [Verdict.rank]

theorem Verdict.failing_iff (v : Verdict) : v.failing = true ↔ v ≠ .pass := by simp [Verdict.failing]

/-! ### The last block of capture -/

theorem State.finishedCapture_counts (s : State) :
    s.finishedCapture.posted = s.acq.capture.posted + (if s.queue.length ≤ 24 then s.lastBlock.length else 0)
      ∧ s.finishedCapture.dropped = s.acq.capture.dropped + (if s.queue.length ≤ 24 then 0 else s.lastBlock.length) := by
  unfold State.finishedCapture State.lastBlock
  by_cases collecting : s.acq.capture.state = .collecting
  · by_cases fill : s.acq.capture.fill = []
    · simp [collecting, fill]
    · by_cases free : s.queue.length ≤ 24 <;> simp [collecting, fill, free, Capture.afterOffer]
  · simp [collecting]

/-- The last block takes no entry that a step-level record could need (R181). -/
theorem State.queueAtEnd_length (s : State) : s.queueAtEnd.length < 32 ↔ s.queue.length < 32 := by
  have one : s.lastBlock.length ≤ 1 := by unfold State.lastBlock; split <;> simp
  unfold State.queueAtEnd
  split
  · simp only [List.length_append]; omega
  · rfl

/-! ### Placing a record and going on -/

/-- A record has been placed at the tail, and waits no more (R30). -/
def State.placed (s : State) (r : StepLevel) : State :=
  (s.setQueue (s.queue ++ [.stepLevel r])).setEngine { s.engine with waiting := none }

section
variable (s : State) (r : StepLevel)
@[simp] theorem State.placed_engine : (s.placed r).engine = { s.engine with waiting := none } := (rfl)
@[simp] theorem State.placed_bay : (s.placed r).bay = s.bay := (rfl)
@[simp] theorem State.placed_drive : (s.placed r).drive = s.drive := (rfl)
@[simp] theorem State.placed_acq : (s.placed r).acq = s.acq := (rfl)
@[simp] theorem State.placed_store : (s.placed r).store = s.store := (rfl)
@[simp] theorem State.placed_queue : (s.placed r).queue = s.queue ++ [.stepLevel r] := (rfl)
@[simp] theorem State.placed_outer : (s.placed r).outer = s.outer := (rfl)
end

theorem State.afterPlaced_queue_prefix (s : State) (r : StepLevel) : s.queue <+: (s.afterPlaced r).queue :=
  (State.afterPlaced_grows r (QueueGrows.refl _)).1

theorem State.placeRecords_succ (n : Nat) (s : State) : State.placeRecords (n + 1) s =
    match s.engine.waiting with
    | some r => if s.queue.length < 32 then State.placeRecords n ((s.placed r).afterPlaced r) else s
    | none => s := (rfl)

theorem State.placeRecords_of_full (n : Nat) {s : State} (full : 32 ≤ s.queue.length) : State.placeRecords n s = s := by
  cases n with
  | zero => rfl
  | succ n => rw [State.placeRecords_succ]; split <;> simp [Nat.not_lt.2 full]

/-- Enough rounds are as good as more: every round fills an entry. -/
theorem State.placeRecords_enough (n m : Nat) (s : State) (enough : 32 < n + s.queue.length) (more : 32 < m + s.queue.length) :
    State.placeRecords n s = State.placeRecords m s := by
  induction n generalizing m s with
  | zero => rw [State.placeRecords_of_full 0 (by omega), State.placeRecords_of_full m (by omega)]
  | succ n ih =>
    cases m with
    | zero => rw [State.placeRecords_of_full 0 (by omega), State.placeRecords_of_full (n + 1) (by omega)]
    | succ m =>
      rw [State.placeRecords_succ, State.placeRecords_succ]
      cases waiting : s.engine.waiting with
      | none => rfl
      | some r =>
        dsimp only
        split
        · have longer := (State.afterPlaced_queue_prefix (s.placed r) r).length_le
          rw [State.placed_queue, List.length_append, List.length_singleton] at longer
          exact ih m _ (by omega) (by omega)
        · rfl

/-- A record that waits is placed in a free entry, and the engine goes on from what follows it (R30, R180). -/
theorem State.goOn_placed {s : State} {r : StepLevel} (waiting : s.engine.waiting = some r) (free : s.queue.length < 32) :
    s.goOn = ((s.placed r).afterPlaced r).goOn := by
  rw [State.goOn_of_waiting s r waiting free]
  have longer := (State.afterPlaced_queue_prefix (s.placed r) r).length_le
  rw [State.placed_queue, List.length_append, List.length_singleton] at longer
  exact State.placeRecords_enough 32 33 ((s.placed r).afterPlaced r) (by omega) (by omega)

/-- A record that waits is the next of the queue when an entry is free. -/
theorem State.goOn_queue {s : State} {r : StepLevel} (waiting : s.engine.waiting = some r) (free : s.queue.length < 32) :
    ∃ more, s.goOn.queue = s.queue ++ .stepLevel r :: more := by
  rw [State.goOn_placed waiting free]
  obtain ⟨more, eq⟩ := (State.goOn_grows ((State.afterPlaced_grows r (QueueGrows.refl (s.placed r).queue)))).1
  exact ⟨more, by rw [← eq, State.placed_queue, List.append_assoc]; rfl⟩

/-- What the engine goes on to only adds at the tail. -/
theorem State.goOn_queue_prefix (s : State) : s.queue <+: s.goOn.queue := (State.goOn_grows (QueueGrows.refl _)).1

/-! ### The offer of a STEP_RESULT -/

section
variable (s : State) (cause : EndCause) (vs : List Verdict) (c : StepContext)

theorem State.endStep_waiting (step : s.engine.step = some c) :
    (s.endStep cause vs).engine.waiting = some (.stepResult (s.endResult cause vs c)) := by
  rw [s.endStep_engine cause vs c step]

/-- The result of a step that has ended is offered (R30, R106, R180, R181). -/
theorem State.offered_endStep (step : s.engine.step = some c) :
    s.Offered (s.endStep cause vs).goOn (s.endResult cause vs c) := by
  have queue := s.endStep_queue cause vs c step
  have waiting := s.endStep_waiting cause vs c step
  refine ⟨?_, s.finishedCapture_counts⟩
  by_cases free : s.queueAtEnd.length < 32
  · obtain ⟨more, eq⟩ := State.goOn_queue waiting (by rwa [queue])
    exact .inl ⟨free, more, by rw [eq, queue]⟩
  · have full : 32 ≤ s.queueAtEnd.length := Nat.not_lt.1 free
    rw [State.goOn_of_full _ (by rwa [queue])]
    exact .inr ⟨full, queue, waiting, by rw [s.endStep_engine cause vs c step]⟩

theorem State.lastBlock_congr {s u : State} (capture : u.acq.capture = s.acq.capture)
    (tag : u.engine.record.tag = s.engine.record.tag) : u.lastBlock = s.lastBlock := by
  unfold State.lastBlock; rw [capture, tag]

theorem State.queueAtEnd_congr {s u : State} (queue : u.queue = s.queue) (capture : u.acq.capture = s.acq.capture)
    (tag : u.engine.record.tag = s.engine.record.tag) : u.queueAtEnd = s.queueAtEnd := by
  unfold State.queueAtEnd; rw [State.lastBlock_congr capture tag, queue]

/-- The offer is read off the queue, the capture and the record's tag. -/
theorem State.Offered.of_same {s u t : State} {r : StepResult} (h : u.Offered t r) (queue : u.queue = s.queue)
    (capture : u.acq.capture = s.acq.capture) (tag : u.engine.record.tag = s.engine.record.tag) : s.Offered t r := by
  unfold State.Offered at h ⊢
  rwa [State.lastBlock_congr capture tag, State.queueAtEnd_congr queue capture tag, queue, capture] at h

/-- What an answer changes is the answer slot alone. -/
theorem State.Offered.reply {s t : State} {r : StepResult} (h : s.Offered t r) (code : Byte) (a : Answer) :
    s.Offered (t.reply code a) r := h

end

theorem Detectors.tripDue_disarmed : Detectors.disarmed.tripDue = false := (rfl)

theorem Drive.endResetPulse_of_none {d : Drive} (pulse : d.resetPulse = none) : d.endResetPulse = d := by
  unfold Drive.endResetPulse; rw [pulse]

/-! ### What the walk goes on to leaves of the drive unit -/

theorem Drive.StandsIn.refl (d : Drive) : d.StandsIn d := ⟨rfl, rfl, rfl, rfl, rfl, rfl, rfl, rfl⟩

theorem Drive.StandsIn.trans {d d' d'' : Drive} (h : d.StandsIn d') (k : d'.StandsIn d'') : d.StandsIn d'' := by
  obtain ⟨h1, h2, h3, h4, h5, h6, h7, h8⟩ := h
  obtain ⟨k1, k2, k3, k4, k5, k6, k7, k8⟩ := k
  exact ⟨k1.trans h1, k2.trans h2, k3.trans h3, k4.trans h4, k5.trans h5, k6.trans h6, k7.trans h7, k8.trans h8⟩

/-- What stands while the walk goes on: `P` is kept by everything between two steps, and a step's ADMIT entry leaves `Q`,
with `P` when it offers a record. -/
structure WalkKeeps (P Q : State → Prop) : Prop where
  weaken : ∀ s, P s → Q s
  engine : ∀ s e, P s → P (s.setEngine e)
  queue : ∀ s q, P s → P (s.setQueue q)
  winddown : ∀ s reason, P s → P (s.enterWinddown reason)
  rest : ∀ s, P s → P s.compareRest
  admission : ∀ s index, s.engine.waiting = none → P s → Q (s.enterAdmit index)
    ∧ ((s.enterAdmit index).engine.waiting ≠ none → P (s.enterAdmit index))

section
variable {P Q : State → Prop} {s : State}

/-- What an operation of the walk leaves: `Q`, with `P` when a record is offered. -/
def State.Leaves (P Q : State → Prop) (s : State) : Prop := Q s ∧ (s.engine.waiting ≠ none → P s)

theorem WalkKeeps.leaves (keeps : WalkKeeps P Q) (h : P s) : s.Leaves P Q := ⟨keeps.weaken s h, fun _ => h⟩

theorem WalkKeeps.boundary (keeps : WalkKeeps P Q) (h : P s) (none : s.engine.waiting = none) (index : Nat) : (s.boundary index).Leaves P Q := by
  unfold State.boundary
  split
  · exact keeps.leaves (keeps.engine _ _ h)
  · exact keeps.admission s index none h

theorem WalkKeeps.pageEnd (keeps : WalkKeeps P Q) (h : P s) : P s.pageEnd := by
  unfold State.pageEnd
  split
  · exact keeps.engine _ _ (keeps.engine _ _ h)
  · exact keeps.rest _ (keeps.engine _ _ h)

theorem WalkKeeps.branch (keeps : WalkKeeps P Q) (h : P s) (none : s.engine.waiting = none) (v : Verdict) (r : StepRecord) : (s.branch v r).Leaves P Q := by
  have winddown (reason : Reason) := keeps.leaves (keeps.winddown s reason h)
  unfold State.branch
  extract_lets next
  split
  · exact winddown _
  · split
    · exact winddown _
    · split
      · exact winddown _
      · split
        · exact keeps.leaves (keeps.pageEnd h)
        · split
          · exact winddown _
          · exact keeps.boundary h none _

theorem WalkKeeps.offerSummary (keeps : WalkKeeps P Q) (h : P s) : P s.offerSummary := by
  unfold State.offerSummary
  split
  · exact keeps.engine _ _ h
  · exact h

theorem WalkKeeps.afterPlaced (keeps : WalkKeeps P Q) (h : P s) (none : s.engine.waiting = none) (r : StepLevel) : (s.afterPlaced r).Leaves P Q := by
  cases r with
  | stepResult r =>
    change (s.afterStepResult r).Leaves P Q
    have counted := keeps.engine s { s.engine with
        tallies := s.engine.tallies.count r, phase := .none, step := .none } h
    unfold State.afterStepResult
    dsimp only
    split
    · exact keeps.leaves (keeps.offerSummary counted)
    · exact keeps.branch counted none _ _
  | pageSwap p =>
    change s.afterPageSwap.Leaves P Q
    have shown : P (s.setPhase .none) := keeps.engine _ _ h
    unfold State.afterPageSwap
    dsimp only
    split
    · exact keeps.leaves (keeps.offerSummary shown)
    · split
      · exact keeps.leaves (keeps.winddown _ _ shown)
      · split
        · exact keeps.leaves (keeps.winddown _ _ shown)
        · exact keeps.boundary shown none _
  | walkSummary w => exact keeps.leaves (keeps.engine _ _ h)

theorem WalkKeeps.placeRecords (keeps : WalkKeeps P Q) (n : Nat) (h : s.Leaves P Q) : Q (State.placeRecords n s) := by
  induction n generalizing s with
  | zero => exact h.1
  | succ n ih =>
    rw [State.placeRecords_succ]
    split
    next r waiting =>
      split
      · exact ih (keeps.afterPlaced (keeps.engine _ _ (keeps.queue _ _ (h.2 (by rw [waiting]; simp)))) rfl r)
      · exact h.1
    next => exact h.1

/-- What stands while the engine goes on as far as the queue lets it. -/
theorem WalkKeeps.goOn (keeps : WalkKeeps P Q) (h : P s) : Q s.goOn := keeps.placeRecords _ (keeps.leaves h)

end

/-- The drive unit stands as `d` left it, with no trip and no shelf reset pulse that a step's end would take. -/
def State.Rests (d : Drive) (s : State) : Prop :=
  d.StandsIn s.drive ∧ s.drive.resetPulse = none ∧ s.acq.detectors.tripDue = false

section
variable {d : Drive} {s : State}

theorem State.Rests.of_same (h : s.Rests d) {t : State} (drive : s.drive.StandsIn t.drive)
    (detectors : t.acq.detectors.tripDue = s.acq.detectors.tripDue) : t.Rests d := by
  obtain ⟨stands, pulse, quiet⟩ := h
  exact ⟨stands.trans drive, drive.2.2.2.2.2.2.2.trans pulse, detectors.trans quiet⟩

theorem State.Rests.endStep (h : s.Rests d) (cause : EndCause) (vs : List Verdict) {c : StepContext}
    (step : s.engine.step = some c) : (s.endStep cause vs).Rests d := by
  obtain ⟨stands, pulse, quiet⟩ := h
  have trip : s.tripMeetsEnd cause = false := by simp [State.tripMeetsEnd, quiet]
  have drive : (s.endStep cause vs).drive = s.drive := by
    rw [s.endStep_drive cause vs c step, State.endDrive, trip, Drive.endResetPulse_of_none pulse]
    rfl
  exact ⟨drive ▸ stands, drive ▸ pulse, by rw [s.endStep_acq cause vs c step]; rfl⟩

/-- APPLY entry leaves the level, the enables and the relay (R82). -/
theorem State.standsIn_enterApply (s : State) : s.drive.StandsIn s.enterApply.drive := by
  rw [State.enterApply_drive]
  unfold Drive.stage Drive.proceed
  dsimp only
  (repeat' split) <;> exact ⟨rfl, rfl, rfl, rfl, rfl, rfl, rfl, rfl⟩

theorem State.standsIn_admitted (s : State) : s.drive.StandsIn s.admitted.drive := by
  rw [State.admitted_eq]
  split
  · exact .refl _
  · exact (s.setBay s.bay.idleProtocol).standsIn_enterApply

theorem State.Rests.enterAdmit (h : s.Rests d) (index : Nat) : (s.enterAdmit index).Rests d := by
  have begun : (s.beginStep index).Rests d := h.of_same ⟨rfl, rfl, rfl, rfl, rfl, rfl, rfl, rfl⟩ rfl
  unfold State.enterAdmit
  dsimp only
  split
  · refine begun.of_same (State.standsIn_admitted _) ?_
    rw [State.admitted_eq]
    split
    · rfl
    · rw [State.enterApply_detectors]; rfl
  · split
    · exact begun.endStep _ _ (c := s.freshContext index) rfl
    · exact begun.of_same (by rw [State.beginAttempt_drive]; exact .refl _) (by rw [State.beginAttempt_acq])

theorem State.standsIn_compareRest (s : State) : s.drive.StandsIn s.compareRest.drive := by
  unfold State.compareRest
  (repeat' split) <;> simp only [State.setEngine_drive, State.setDrive_drive]
  · exact .refl _
  · exact Drive.standsIn_stage_plain _ _
  · exact .refl _

theorem walkKeeps_rests (d : Drive) : WalkKeeps (State.Rests d) (State.Rests d) where
  weaken _ h := h
  engine _ _ h := h
  queue _ _ h := h
  winddown s reason h := h.of_same (s.entersWinddown_enterWinddown reason).2.2.2.2.2.1 (by rw [State.enterWinddown_detectors])
  rest s h := h.of_same s.standsIn_compareRest (by rw [State.compareRest_acq])
  admission s index _ h := ⟨h.enterAdmit index, fun _ => h.enterAdmit index⟩

/-- The level, the enables and the relay stand while the walk goes on in the event of a step's end. -/
theorem State.standsIn_goOn (s : State) (pulse : s.drive.resetPulse = none) (quiet : s.acq.detectors.tripDue = false) :
    s.drive.StandsIn s.goOn.drive :=
  ((walkKeeps_rests s.drive).goOn ⟨.refl _, pulse, quiet⟩).1

/-- After a step's end, which leaves no trip and no reset pulse. -/
theorem State.standsIn_endStep_goOn (s : State) (cause : EndCause) (vs : List Verdict) {c : StepContext}
    (step : s.engine.step = some c) : (s.endStep cause vs).drive.StandsIn (s.endStep cause vs).goOn.drive := by
  refine State.standsIn_goOn _ ?_ (by rw [s.endStep_acq cause vs c step]; rfl)
  rw [s.endStep_drive cause vs c step, State.endDrive]
  (repeat' split) <;> simp [Drive.tripDrop_eq, Drive.endResetPulse_eq]

end

/-! ### What the walk goes on to leaves of the bay lines -/

/-- The driven claim stands, and the own unit with it, which no step's end releases. -/
def State.ClaimStands (claim : Nat) (unit : OwnUnit) (s : State) : Prop :=
  s.bay.drivenClaim = claim ∧ s.bay.ownUnit = unit ∧ s.bay.ownUnit ≠ .gate

/-- The driven claim stands, or a raise from it is in progress. -/
def State.ClaimRaised (claim : Nat) (unit : OwnUnit) (s : State) : Prop :=
  (s.bay.drivenClaim = claim ∨ (s.bay.protocol = .raising ∧ s.bay.priorClaim = claim)) ∧ s.bay.ownUnit = unit

section
variable {claim : Nat} {unit : OwnUnit} {s : State}

theorem State.ClaimStands.of_bay (h : s.ClaimStands claim unit) {t : State} (bay : t.bay = s.bay) : t.ClaimStands claim unit := by
  unfold State.ClaimStands at h ⊢; rwa [bay]

theorem State.ClaimStands.raised (h : s.ClaimStands claim unit) : s.ClaimRaised claim unit := ⟨.inl h.1, h.2.1⟩

theorem verdictOf_overBay : verdictOf [.overBay] ≠ .pass := by decide

/-- The end of a step that fails leaves a claim, and a unit that is no GATE unit. -/
theorem State.ClaimStands.endStep (h : s.ClaimStands claim unit) (cause : EndCause) (vs : List Verdict) {c : StepContext}
    (step : s.engine.step = some c) (fails : verdictOf (c.contributions ++ vs) ≠ .pass) :
    (s.endStep cause vs).ClaimStands claim unit := by
  obtain ⟨driven, own, noGate⟩ := h
  have bay : s.endBay cause vs c = s.bay.idleProtocol := by
    unfold State.endBay; rw [if_neg (by simp [noGate, fails])]
  exact State.ClaimStands.of_bay (s := s.setBay s.bay.idleProtocol) ⟨driven, own, noGate⟩
    ((s.endStep_bay cause vs c step).trans bay)

theorem State.ClaimStands.admitted (h : s.ClaimStands claim unit) : s.admitted.ClaimStands claim unit := by
  rw [State.admitted_eq]
  split
  · exact h
  · exact State.ClaimStands.of_bay (s := s.setBay s.bay.idleProtocol) h (State.enterApply_bay _)

theorem walkKeeps_claim (claim : Nat) (unit : OwnUnit) :
    WalkKeeps (State.ClaimStands claim unit) (State.ClaimRaised claim unit) where
  weaken _ h := h.raised
  engine _ _ h := h
  queue _ _ h := h
  winddown s reason h := h.of_bay (s.enterWinddown_bay reason)
  rest s h := h.of_bay s.compareRest_bay
  admission s index none h := by
    have begun : (s.beginStep index).ClaimStands claim unit := h
    unfold State.enterAdmit
    dsimp only
    split
    · exact ⟨begun.admitted.raised, fun _ => begun.admitted⟩
    · split
      · have ended := begun.endStep .normal [.overBay] (c := s.freshContext index) rfl verdictOf_overBay
        exact ⟨ended.raised, fun _ => ended⟩
      · have bay := (s.beginStep index).beginAttempt_bay
        refine ⟨⟨.inr ⟨by rw [bay]; rfl, ?_⟩, ?_⟩, fun waits => absurd ?_ waits⟩
        · rw [bay]; exact begun.1
        · rw [bay]; exact begun.2.1
        · rw [State.beginAttempt_engine]; exact none

/-- The claim stands, or a raise from it is in progress, and the unit as the step's end left it, when a step has ended
otherwise than by ABORT and the walk has gone on (R53, R62, R67). -/
theorem State.claimRaised_endStep_goOn (s : State) {cause : EndCause} (vs : List Verdict) {c : StepContext}
    (step : s.engine.step = some c) (noAbort : cause ≠ .abort) :
    (s.endStep cause vs).goOn.ClaimRaised s.bay.drivenClaim (s.endBay cause vs c).ownUnit := by
  have bay := s.endStep_bay cause vs c step
  refine (walkKeeps_claim _ _).goOn ⟨by rw [bay]; exact (s.endBay_spec cause vs c).1, by rw [bay], ?_⟩
  rw [bay, State.endBay]
  split
  · exact fun gate => absurd ((s.bay.releaseUnit_spec s.lineSettle).1.symm.trans gate) (by decide)
  next kept => exact fun gate => kept (.inl ⟨gate, noAbort⟩)

end

end Sys2Proof.Machine


/-! ## ABORT, the time limit and the page wait limit (O23, O24, O36, O37) -/

namespace Sys2Proof.Machine

/-! ### What time limit and ABORT act on -/

section
variable (s : State)
@[simp] theorem State.stopStep_engine : s.stopStep.engine = s.engine := by
  unfold State.stopStep; split <;> rfl
@[simp] theorem State.stopStep_acq : s.stopStep.acq = s.acq := by
  unfold State.stopStep; split <;> rfl
@[simp] theorem State.stopStep_store : s.stopStep.store = s.store := by
  unfold State.stopStep; split <;> rfl
@[simp] theorem State.stopStep_drive :
    s.stopStep.drive = if s.engine.phase.drives then s.drive.halt else s.drive := by
  unfold State.stopStep; split <;> rfl
@[simp] theorem State.stopStep_bay :
    s.stopStep.bay = if s.engine.phase.drives then s.bay else s.bay.cutOff s.lineSettle := by
  unfold State.stopStep; split <;> rfl
end

theorem State.stopStep_queueAtEnd (s : State) : s.stopStep.queueAtEnd = s.queueAtEnd :=
  State.queueAtEnd_congr (by simp) (by simp) (by simp)

/-- The protocol is stopped in the state it is found in (R55, R63). -/
theorem Bay.cutOff_spec (b : Bay) (settle : Nat) :
    (b.cutOff settle).drivenClaim = (if b.protocol = .raising then b.priorClaim else b.drivenClaim)
      ∧ (b.cutOff settle).ownUnit =
        (if b.protocol = .asserting ∧ b.ownUnit = .attempt then .released else b.ownUnit) := by
  unfold Bay.cutOff
  split
  next raising => simp [raising, Bay.withdraw, Bay.idleProtocol]
  next asserting =>
    obtain ⟨unit, claim, -⟩ := b.releaseUnit_spec settle
    by_cases attempt : b.ownUnit = .attempt <;>
      simp [asserting, attempt, Bay.releaseAttempt, Bay.idleProtocol, unit, claim]
  next notRaising notAsserting =>
    have raising : b.protocol ≠ .raising := notRaising
    have asserting : b.protocol ≠ .asserting := notAsserting
    simp [raising, asserting, Bay.idleProtocol]

theorem State.stopStep_claim (s : State) : s.stopStep.bay.drivenClaim = s.claimStopped s.engine.phase := by
  rw [State.stopStep_bay, State.claimStopped]
  cases s.engine.phase.drives <;> simp [Bay.cutOff_spec]

theorem State.stopStep_unit (s : State) : s.stopStep.bay.ownUnit = s.unitStopped s.engine.phase := by
  rw [State.stopStep_bay, State.unitStopped]
  cases s.engine.phase.drives <;> simp [Bay.cutOff_spec]

theorem State.unitStopped_gate (s : State) (p : Phase) : s.unitStopped p = .gate ↔ s.bay.ownUnit = .gate := by
  unfold State.unitStopped
  split
  next attempt => simp [attempt]
  next => rfl

theorem OwnUnit.asserted_iff (u : OwnUnit) : u.asserted = true ↔ u ≠ .released := by cases u <;> simp [OwnUnit.asserted]

/-! ### What a step's end leaves of the bay lines -/

/-- The own unit at a step's end: a GATE unit is released unless ABORT ended the step, a TRIP unit when a RECOVER
step passes (R64, R65, R155). -/
theorem State.endBay_unit (s : State) (cause : EndCause) (vs : List Verdict) (c : StepContext) :
    (s.endBay cause vs c).ownUnit =
      if (s.bay.ownUnit = .gate ∧ cause ≠ .abort)
          ∨ (s.bay.ownUnit = .trip ∧ c.record.kind = .recover ∧ verdictOf (c.contributions ++ vs) = .pass)
        then .released else s.bay.ownUnit := by
  unfold State.endBay
  split
  · exact (s.bay.releaseUnit_spec s.lineSettle).1
  · rfl

/-- A step that fails keeps a TRIP unit. -/
theorem State.endBay_unit_of_fail (s : State) (cause : EndCause) (vs : List Verdict) (c : StepContext)
    (fails : verdictOf (c.contributions ++ vs) ≠ .pass) :
    (s.endBay cause vs c).ownUnit = if s.bay.ownUnit = .gate ∧ cause ≠ .abort then .released else s.bay.ownUnit := by
  rw [State.endBay_unit]
  simp only [fails, and_false, or_false]

theorem State.endBay_claim (s : State) (cause : EndCause) (vs : List Verdict) (c : StepContext) :
    (s.endBay cause vs c).drivenClaim = s.bay.drivenClaim ∧ (s.endBay cause vs c).protocol = .idle :=
  ⟨(s.endBay_spec cause vs c).1, (s.endBay_spec cause vs c).2.2.1⟩

/-! ### The drive unit and the exit level when time limit or ABORT ends a step -/

/-- The drive unit of a step that ends otherwise than normally: its reset pulse ended, dropped beside that by a trip of
the same sample (R79, R88, R136). -/
theorem State.endStep_drive_of_stop (s : State) {cause : EndCause} (stops : cause = .expiry ∨ cause = .abort)
    (vs : List Verdict) {c : StepContext} (step : s.engine.step = some c) : (s.endStep cause vs).drive =
      if s.acq.detectors.tripDue then s.drive.endResetPulse.tripDrop else s.drive.endResetPulse := by
  rw [s.endStep_drive cause vs c step]
  rcases stops with rfl | rfl <;> simp [State.endDrive, State.tripMeetsEnd]

/-- The drive unit that time limit and ABORT leave (R28, R36, R75, R168). -/
theorem State.stopsDrive_endStep {s u : State} {p : Phase} {cause : EndCause} (stops : cause = .expiry ∨ cause = .abort)
    (vs : List Verdict) {c : StepContext} (step : u.engine.step = some c) (phase : s.engine.phase = p)
    (drive : u.drive = s.stopStep.drive) (detectors : u.acq.detectors = s.acq.detectors) :
    s.StopsDrive p (u.endStep cause vs).drive := by
  refine ⟨u.drive.endResetPulse, fun drives => ?_, fun rests => ?_, fun quiet => ?_, fun trip => ?_⟩
  · have halted : s.drive.HaltsTo s.drive.halt := s.drive.haltsTo_halt
    rw [drive, State.stopStep_drive, phase, if_pos drives, Drive.endResetPulse_of_none halted.2.1.1]
    exact halted
  · rw [drive, State.stopStep_drive, phase, if_neg (by simp [rests]), Drive.endResetPulse_eq]
  · rw [u.endStep_drive_of_stop stops vs step, detectors, quiet]; rfl
  · rw [u.endStep_drive_of_stop stops vs step, detectors, if_pos trip]
    exact Drive.dropsTo_tripDrop _

/-- The exit level of a step that time limit or ABORT ends (R28, R75). -/
theorem State.stopsAt_endResult {s u : State} {p : Phase} {cause : EndCause} (stops : cause = .expiry ∨ cause = .abort)
    {v : Verdict} (notDenied : v ≠ .denied) (notOver : v ≠ .overBay) {c : StepContext} (contributions : ∀ w ∈ c.contributions, 3 < w.rank)
    (phase : s.engine.phase = p) (engine : u.engine.phase = s.engine.phase) (drive : u.drive = s.stopStep.drive) :
    s.StopsAt p (u.endResult cause [v] c) := by
  have unlisted : ((c.contributions ++ [v]).contains .denied || (c.contributions ++ [v]).contains .overBay) = false := by
    have denied : Verdict.denied ∉ c.contributions := fun mem => absurd (contributions _ mem) (by decide)
    have bay : Verdict.overBay ∉ c.contributions := fun mem => absurd (contributions _ mem) (by decide)
    simp [denied, bay, Ne.symm notDenied, Ne.symm notOver]
  have ending : (u.endDrive cause c).level = u.drive.level := by
    rcases stops with rfl | rfl <;> simp [State.endDrive, Drive.endResetPulse_eq]
  have level : (u.endResult cause [v] c).exitLevel =
      if p.drives && u.drive.rangeChange != .none then 0 else u.drive.level / 1000 := by
    change u.endLevel cause [v] c = _
    rw [State.endLevel, if_neg (by rw [unlisted]; exact Bool.false_ne_true), engine, phase, ending]
  obtain ⟨-, -, -, -, -, change, running, quiet⟩ := s.drive.haltsTo_halt
  unfold State.StopsAt
  rw [level, drive, State.stopStep_drive, phase]
  refine ⟨fun rests => ?_, fun drives moving => ?_, fun drives still steady => ?_,
    fun lo hi period high cycles drives still acting active => ?_⟩
  · simp [rests]
  · simp [drives, change, moving]
  · obtain ⟨-, -, -, stays, -⟩ := quiet still
    simp [drives, change, still, stays steady]
  · obtain ⟨-, -, -, -, falls⟩ := quiet still
    simp [drives, change, still, (falls lo hi period high cycles active acting).1]

/-! ### O37 -/

/-- Settles O37, by WINDDOWN entry. -/
theorem pageWaitExpiryStarves : Obligations.PageWaitExpiryStarves := by
  intro s walk left
  have run : exec .pageWaitExpiry s = .next (s.enterWinddown .starved) := by
    change Host.Outcome.next (s.pageWaitExpiry.getD s) = _
    simp [State.pageWaitExpiry, walk, left]
  exact ⟨_, run, s.entersWinddown_enterWinddown .starved, by simp, by simp⟩

/-! ### O36 -/

/-- The contribution that the step time limit makes (R28). -/
def expiryVerdict (kind : Kind) : Verdict := if kind = .recover then .noRecovery else .timeout

theorem expiryVerdict_rank (kind : Kind) : (expiryVerdict kind).rank = 2 := by
  unfold expiryVerdict; split <;> rfl

/-- Settles O36, by the halt or the cut of the protocol, and the end of the step. -/
theorem timeLimitEndsStep : Obligations.TimeLimitEndsStep := by
  intro s p c inStep contributions ranOut
  obtain ⟨walk, step, waiting, phase⟩ := inStep
  have stepping : s.engine.stepping = true := State.StepIn.stepping ⟨walk, step, waiting, phase⟩
  have kind : s.engine.kind = c.record.kind := Engine.kind_of_step step
  have run : exec .stepTimeLimitExpiry s = .next (s.stopStep.endStep .expiry [expiryVerdict c.record.kind]).goOn := by
    change Host.Outcome.next (s.stepTimeLimitExpiry.getD s) = _
    simp [State.stepTimeLimitExpiry, stepping, step, ranOut, State.expireStep, expiryVerdict, kind]
  have stepStopped : s.stopStep.engine.step = some c := by rw [State.stopStep_engine]; exact step
  have rank := expiryVerdict_rank c.record.kind
  have verdict : verdictOf (c.contributions ++ [expiryVerdict c.record.kind]) = expiryVerdict c.record.kind :=
    verdictOf_concat_of_rank (by omega) (fun w mem => by have := contributions w mem; omega)
  have unit := s.stopStep.endBay_unit_of_fail .expiry [expiryVerdict c.record.kind] c
    (by rw [verdict]; intro pass; rw [pass] at rank; exact absurd rank (by decide))
  rw [State.stopStep_unit, phase] at unit
  simp only [State.unitStopped_gate, ne_eq, reduceCtorEq, not_false_eq_true, and_true] at unit
  refine ⟨_, _, run, (s.stopStep.offered_endStep .expiry _ c stepStopped).of_same (by simp) (by simp) (by simp), ?_, verdict,
    State.stopsAt_endResult (.inl rfl) ?_ ?_ contributions phase (by simp) rfl,
    ⟨_, State.stopsDrive_endStep (.inl rfl) _ stepStopped phase rfl (by simp),
      State.standsIn_endStep_goOn _ _ _ stepStopped, fun full => ?_⟩, ?_, fun full => ?_⟩
  · exact (congrArg Engine.phase s.stopStep_engine).trans phase
  · intro eq; rw [eq] at rank; exact absurd rank (by decide)
  · intro eq; rw [eq] at rank; exact absurd rank (by decide)
  · rw [State.goOn_of_full _ (by rw [State.endStep_queue _ _ _ _ stepStopped, State.stopStep_queueAtEnd]; exact full)]
  · change (s.stopStep.endBay .expiry _ c).ownUnit.asserted = true ↔ _
    rw [OwnUnit.asserted_iff, unit]
    by_cases gate : s.bay.ownUnit = .gate <;> simp [gate]
  · rw [State.goOn_of_full _ (by rw [State.endStep_queue _ _ _ _ stepStopped, State.stopStep_queueAtEnd]; exact full),
      State.endStep_bay _ _ _ _ stepStopped]
    obtain ⟨claim, idle⟩ := s.stopStep.endBay_claim .expiry [expiryVerdict c.record.kind] c
    exact ⟨by rw [claim, State.stopStep_claim, phase], idle, unit⟩

/-! ### What an answered command changes beside its effect -/

theorem State.reply_port {s t : State} (outer : t.outer = s.outer) (code : Byte) :
    (t.reply code .ok).port = { s.port with answer := some ⟨code, .ok, none⟩ } := by
  rw [← (State.outer_eq outer).1]; rfl

/-! ### O24 -/

/-- Settles O24, by walk state. -/
theorem abortWithoutStep : Obligations.AbortWithoutStep := by
  intro s
  have run : exec .abort s = .next s.takeAbort := rfl
  refine ⟨fun walk => ?_, fun walk waiting => ?_, fun walk => ?_, fun walk => ?_⟩
  · rcases walk with walk | walk
    · refine ⟨(s.enterWinddown .aborted).reply 0x23 .ok, s.drive, by rw [run, State.takeAbort, walk],
        s.entersWinddown_enterWinddown .aborted, s.enterWinddown_bay .aborted, s.enterWinddown_queue .aborted, fun _ => rfl,
        fun wait => by rw [walk] at wait; exact absurd wait (by decide), State.reply_port (by simp) _⟩
    · refine ⟨((s.setDrive s.drive.halt).enterWinddown .aborted).reply 0x23 .ok, s.drive.halt, by rw [run, State.takeAbort, walk],
        (s.setDrive s.drive.halt).entersWinddown_enterWinddown .aborted, State.enterWinddown_bay _ .aborted,
        State.enterWinddown_queue _ .aborted, fun paused => by rw [walk] at paused; exact absurd paused (by decide),
        fun _ => s.drive.haltsTo_halt, State.reply_port (by simp) _⟩
  · have between : s.engine.stepping = false := by simp [Engine.stepping, waiting]
    rw [run, State.takeAbort, walk]
    simp [State.abortRunning, between]
  · rw [run, State.takeAbort, walk]
  · rcases walk with walk | walk <;> rw [run, State.takeAbort, walk]

/-! ### O23 -/

/-- A STEP_RESULT has been counted, and its step is over (R30). -/
def State.tallied (s : State) (r : StepResult) : State :=
  s.setEngine { s.engine with tallies := s.engine.tallies.count r, phase := .none, step := none }

/-- What follows a placed STEP_RESULT in RUNNING is the branch (R31). -/
theorem State.afterStepResult_of_running {s : State} (r : StepResult) (walk : s.engine.walk = .running) :
    s.afterStepResult r = (s.tallied r).branch r.verdict s.engine.record := by
  unfold State.afterStepResult
  have running : (s.tallied r).engine.walk ≠ .winddown := by
    rw [show (s.tallied r).engine.walk = s.engine.walk from rfl, walk]; decide
  exact if_neg running

/-- ABORT is the first case of the branch (R31). -/
theorem State.branch_of_abort {s : State} (v : Verdict) (r : StepRecord) (abort : s.engine.abortPending = true) :
    s.branch v r = s.enterWinddown .aborted := by
  unfold State.branch
  extract_lets next
  exact if_pos abort

/-- An aborted walk goes to WINDDOWN with the placement of the STEP_RESULT (R31, R36). -/
theorem State.goOn_of_abort {s : State} {r : StepResult} (waiting : s.engine.waiting = some (.stepResult r))
    (walk : s.engine.walk = .running) (abort : s.engine.abortPending = true) (free : s.queue.length < 32) :
    s.goOn = ((s.placed (.stepResult r)).tallied r).enterWinddown .aborted := by
  rw [State.goOn_placed waiting free]
  change ((s.placed (.stepResult r)).afterStepResult r).goOn = _
  rw [State.afterStepResult_of_running r (by exact walk), State.branch_of_abort _ _ (by exact abort)]
  exact State.goOn_of_none _ (by rw [State.enterWinddown_engine]; rfl)

/-- The walk of a counted result enters WINDDOWN with the drive and the line blanks as the step's end left them. -/
theorem State.entersWinddown_tallied {s e : State} (r : StepResult) (reason : Reason)
    (acq : e.acq.blanks = s.acq.blanks ∧ e.acq.averages = s.acq.averages) (store : e.store = s.store)
    (ratings : e.engine.ratings = s.engine.ratings) (slope : e.engine.safeSlope = s.engine.safeSlope) :
    (s.setDrive e.drive).EntersWinddown (((e.placed (.stepResult r)).tallied r).enterWinddown reason) reason :=
  (State.entersWinddown_enterWinddown _ reason).of_same rfl acq store ratings slope

/-- Settles O23, by the halt or the cut of the protocol, the end of the step and the branch. -/
theorem abortEndsStep : Obligations.AbortEndsStep := by
  intro s p c inStep
  obtain ⟨walk, step, waiting, phase⟩ := inStep
  have stepping : s.engine.stepping = true := State.StepIn.stepping ⟨walk, step, waiting, phase⟩
  let u : State := s.stopStep.setEngine { s.stopStep.engine with abortPending := true }
  have engine : u.engine = { s.engine with abortPending := true } := by simp [u]
  have stepU : u.engine.step = some c := by rw [engine]; exact step
  let ended : State := u.endStep .abort [.aborted]
  have run : exec .abort s = .next (ended.goOn.reply 0x23 .ok) := by
    change Host.Outcome.next s.takeAbort = _
    rw [State.takeAbort, walk]
    simp [State.abortRunning, stepping, State.abortStep, ended, u]
  have verdict := verdictOf_concat_aborted c.contributions
  have unit : (u.endBay .abort [.aborted] c).ownUnit = s.unitStopped p := by
    rw [u.endBay_unit_of_fail .abort [.aborted] c (by rw [verdict]; decide), ← phase, ← State.stopStep_unit]
    simp [u]
  have queue : ended.queue = s.queueAtEnd := by
    rw [show ended.queue = u.queueAtEnd from u.endStep_queue _ _ _ stepU]
    exact State.queueAtEnd_congr (by simp [u]) (by simp [u]) (by rw [engine]; simp)
  have endedEngine := u.endStep_engine .abort [.aborted] c stepU
  have waits : ended.engine.waiting = some (.stepResult (u.endResult .abort [.aborted] c)) := by rw [endedEngine]
  have aborts : ended.engine.abortPending = true := by rw [endedEngine, engine]
  have walks : ended.engine.walk = .running := by rw [endedEngine, engine]; exact walk
  have bay : ended.bay = u.endBay .abort [.aborted] c := u.endStep_bay _ _ _ stepU
  have free (h : s.queue.length < 32) : ended.goOn =
      ((ended.placed (.stepResult (u.endResult .abort [.aborted] c))).tallied (u.endResult .abort [.aborted] c)).enterWinddown .aborted :=
    State.goOn_of_abort waits walks aborts (by rw [queue]; exact s.queueAtEnd_length.2 h)
  have full (h : 32 ≤ s.queue.length) : ended.goOn = ended :=
    State.goOn_of_full _ (by rw [queue]; exact Nat.not_lt.1 fun lt => absurd (s.queueAtEnd_length.1 lt) (Nat.not_lt.2 h))
  have went : ended.goOn.bay = ended.bay ∧ ended.goOn.engine.abortPending = true := by
    rcases Nat.lt_or_ge s.queue.length 32 with h | h
    · rw [free h, State.enterWinddown_engine, State.enterWinddown_bay]; exact ⟨rfl, aborts⟩
    · rw [full h]; exact ⟨rfl, aborts⟩
  obtain ⟨claim, idle⟩ := u.endBay_claim .abort [.aborted] c
  refine ⟨ended.goOn.reply 0x23 .ok, u.endResult .abort [.aborted] c, ended.drive, run,
    ((u.offered_endStep .abort [.aborted] c stepU).of_same (by simp [u]) (by simp [u]) (by rw [engine]; simp)).reply _ _,
    verdict, ?_, rfl, rfl, rfl, rfl, went.2, State.stopsDrive_endStep (.inr rfl) _ stepU phase rfl (by simp [u]), fun h => ?_,
    fun h => ?_, ?_, ?_, ?_, ?_, fun contributions => ?_, ?_⟩
  · exact (congrArg Engine.phase engine).trans phase
  · change (s.setDrive ended.drive).EntersWinddown ended.goOn .aborted
    rw [free h]
    refine State.entersWinddown_tallied _ .aborted ?_ ?_ ?_ ?_
    · rw [u.endStep_acq _ _ _ stepU]; simp [u]
    · rw [u.endStep_store .abort [.aborted]]; simp [u]
    · rw [endedEngine, engine]; simp
    · rw [endedEngine, engine]; simp
  · change ended.goOn.engine.walk = .running ∧ ended.goOn.drive = ended.drive
    rw [full h]; exact ⟨walks, rfl⟩
  · change ended.goOn.bay.drivenClaim = _
    rw [went.1, bay, claim, ← phase, ← State.stopStep_claim]; simp [u]
  · change ended.goOn.bay.ownUnit = _
    rw [went.1, bay, unit]
  · change ended.goOn.bay.protocol = _
    rw [went.1, bay, idle]
  · change (u.endBay .abort [.aborted] c).ownUnit.asserted = true ↔ _
    rw [OwnUnit.asserted_iff, unit]
  · exact State.stopsAt_endResult (.inr rfl) (by decide) (by decide) contributions phase (by rw [engine]) rfl
  · exact State.reply_port ((State.goOn_outer _).trans ((u.endStep_outer _ _).trans (by simp [u]))) _

end Sys2Proof.Machine


/-! ## APPLY entry and ADMIT entry, in the words of the statements -/

namespace Sys2Proof.Machine

/-! ### Answers -/

section
variable (s t : State) (code : Byte) (a : Answer)
@[simp] theorem State.reply_bay : (t.reply code a).bay = t.bay := (rfl)
@[simp] theorem State.reply_drive : (t.reply code a).drive = t.drive := (rfl)
@[simp] theorem State.reply_acq : (t.reply code a).acq = t.acq := (rfl)
@[simp] theorem State.reply_store : (t.reply code a).store = t.store := (rfl)
@[simp] theorem State.stepIn_reply (p : Phase) (c : StepContext) : (t.reply code a).StepIn p c ↔ t.StepIn p c := Iff.rfl
@[simp] theorem State.entersApply_reply (c : StepContext) (line : Nat) :
    s.EntersApply (t.reply code a) c line ↔ s.EntersApply t c line := Iff.rfl
@[simp] theorem State.lineSet_reply (v : Nat) : s.LineSet (t.reply code a) v ↔ s.LineSet t v := Iff.rfl
@[simp] theorem State.beginsWalk_reply (f : StartFields) (p : Page) :
    s.BeginsWalk (t.reply code a) f p ↔ s.BeginsWalk t f p := Iff.rfl
end

/-! ### APPLY entry -/

@[simp] theorem PerChannel.get_tabulate {α : Type} (f : Channel → α) (ch : Channel) : (PerChannel.tabulate f).get ch = f ch := by
  cases ch <;> rfl

@[simp] theorem PerChannel.get_same {α : Type} (x : α) (ch : Channel) : (PerChannel.same x).get ch = x := by
  cases ch <;> rfl

theorem CheckChannel.mem_sources (c : CheckChannel) (ch : Channel) : ch ∈ c.sources ↔ c.RestsOn ch := by
  cases c <;> simp [CheckChannel.sources, CheckChannel.RestsOn]

theorem Detect.takesCollapse_iff (d : Detect) : d.takesCollapse = true ↔ d ≠ .alarm := by
  cases d <;> simp [Detect.takesCollapse]

theorem Detect.takesAlarm_iff (d : Detect) : d.takesAlarm = true ↔ d ≠ .collapse := by
  cases d <;> simp [Detect.takesAlarm]

/-- The settle set: the channels of the kind and the sources of the checks (R96). -/
theorem settleSetOf_get (r : StepRecord) (ch : Channel) :
    (settleSetOf r).get ch = true ↔ r.body.Uses ch ∨ ∃ check ∈ r.checks, check.channel.RestsOn ch := by
  unfold settleSetOf
  extract_lets kinds all
  have uses : ch ∈ kinds ↔ r.body.Uses ch := by
    simp only [kinds]
    cases r.body with
    | none => simp [StepBody.Uses]
    | hold | ramp | pulse | recover | dropout => simp [StepBody.Uses]
    | tripSearch iFrom slope iCeiling detect | tripTime iPre iOver detect =>
      cases detect <;> cases ch <;> simp [StepBody.Uses, Detect.takesCollapse]
    | derate curveV curveT => cases curveT <;> cases ch <;> simp [StepBody.Uses]
  have rests : ch ∈ (r.checks.map (·.channel.sources)).flatten ↔ ∃ check ∈ r.checks, check.channel.RestsOn ch := by
    simp [List.mem_flatten, CheckChannel.mem_sources]
  rw [PerChannel.get_tabulate, List.contains_iff_mem, List.mem_append, uses, rests]

/-- Staging leaves the line setpoint (R73, R85). -/
theorem Drive.stage_lineSetpoint (d : Drive) (g : GenSet) (req : Request) : (d.stage g req).lineSetpoint = d.lineSetpoint := by
  unfold Drive.stage Drive.proceed
  cases req <;> dsimp only <;> (repeat' split) <;> rfl

/-- Every blank is WAITING with an empty average after APPLY entry, also where the line setpoint changes (R92, R94). -/
theorem State.enterApply_blanks (s : State) (ch : Channel) :
    s.enterApply.acq.blanks.get ch = .waiting ∧ s.enterApply.acq.averages.get ch = [] := by
  unfold State.enterApply
  dsimp only
  split
  · exact ⟨PerChannel.get_same _ ch, PerChannel.get_same _ ch⟩
  · simp only [State.setPhase_acq, State.stageStep_acq, State.setDrive_acq, State.setLine_acq]
    split
    · exact ⟨PerChannel.get_same _ ch, PerChannel.get_same _ ch⟩
    · cases ch <;> exact ⟨rfl, rfl⟩

/-- The context of a step that has entered APPLY (R76, R96). -/
def State.applyContext (s : State) (c : StepContext) : StepContext :=
  { c with
    settleSet := settleSetOf c.record
    clamped := c.clamped || s.applySet != GenSet.ramp none c.record.body.start s.engine.safeSlope }

theorem State.applySet_of_step {s : State} {c : StepContext} (step : s.engine.step = some c) :
    s.applySet = GenSet.ramp none (min c.record.body.start (clampLimit s.engine.ratings.iMax c.record.body.range))
      s.engine.safeSlope := by
  rw [State.applySet, Engine.record_of_step step]; rfl

/-- A step enters APPLY (R26, R76, R82, R85, R92, R94, R96). -/
theorem State.entersApply_enterApply {s : State} {c : StepContext} (walk : s.engine.walk = .running)
    (step : s.engine.step = some c) (waiting : s.engine.waiting = none) (idle : s.bay.protocol = .idle) :
    s.EntersApply s.enterApply (s.applyContext c) s.drive.lineSetpoint := by
  have record := Engine.record_of_step step
  have set := State.applySet_of_step step
  have drive := s.enterApply_drive
  have engine := s.enterApply_engine
  have inStep : s.enterApply.StepIn .applying (s.applyContext c) := by
    refine ⟨by rw [engine]; exact walk, ?_, by rw [engine]; exact waiting, by rw [engine]⟩
    rw [engine, step, record]; rfl
  have ratings : s.enterApply.engine.ratings = s.engine.ratings := by rw [engine]; simp
  have slope : s.enterApply.engine.safeSlope = s.engine.safeSlope := by rw [engine]; simp
  refine ⟨inStep, settleSetOf_get c.record, s.enterApply_blanks, ?_, ?_, ?_, ?_, by simp⟩
  · rw [drive, Drive.stage_lineSetpoint, State.applyDrive, record]; rfl
  · rw [drive, set, record, ratings, slope]
    exact s.applyDrive.appliesTo_stage _ _ _
  · rw [ratings]
    intro reduced
    change clampLimit s.engine.ratings.iMax c.record.body.range < c.record.body.start at reduced
    simp only [State.applyContext, set, Bool.or_eq_true, bne_iff_ne, ne_eq, GenSet.ramp.injEq]
    exact .inr fun same => by omega
  · rw [State.enterApply_bay]; exact idle

/-- APPLY entry is read off the drive unit and the queue of the state before. -/
theorem State.EntersApply.of_same {s u t : State} {c : StepContext} {line : Nat} (h : u.EntersApply t c line)
    (drive : ∀ d stop slope range, u.drive.AppliesTo d stop slope range → s.drive.AppliesTo d stop slope range)
    (queue : u.queue = s.queue) : s.EntersApply t c line := by
  obtain ⟨inStep, settle, blanks, setpoint, applies, clamped, idle, kept⟩ := h
  exact ⟨inStep, settle, blanks, setpoint, drive _ _ _ _ applies, clamped, idle, kept.trans queue⟩

/-! ### A step that fails at the bay lines -/

/-- DENIED and OVER_BAY report the level of ADMIT entry (R24). -/
theorem State.endLevel_of_denied (s : State) (cause : EndCause) (c : StepContext) :
    s.endLevel cause [.denied] c = c.admitLevel := by
  unfold State.endLevel
  rw [if_pos (by simp)]

/-- A step that DENIED ends: its STEP_RESULT, and the claim that stands or is raised from (R24, R53, R61). -/
theorem State.denied_endStep {s u : State} {c : StepContext} (step : u.engine.step = some c) (contributions : c.contributions = [])
    (queue : u.queue = s.queue) (capture : u.acq.capture = s.acq.capture) (engine : u.engine = s.engine) :
    s.Offered (u.endStep .normal [.denied]).goOn (u.endResult .normal [.denied] c)
      ∧ (u.endResult .normal [.denied] c).verdict = .denied ∧ (u.endResult .normal [.denied] c).exitLevel = c.admitLevel
      ∧ (u.endStep .normal [.denied]).goOn.ClaimRaised u.bay.drivenClaim (u.endBay .normal [.denied] c).ownUnit
      ∧ (32 ≤ s.queueAtEnd.length → (u.endStep .normal [.denied]).goOn.bay = u.endBay .normal [.denied] c) := by
  have tag : u.engine.record.tag = s.engine.record.tag := by rw [engine]
  refine ⟨(u.offered_endStep .normal [.denied] c step).of_same queue capture tag, ?_, u.endLevel_of_denied .normal c,
    u.claimRaised_endStep_goOn [.denied] step (by decide), fun full => ?_⟩
  · change verdictOf (c.contributions ++ [.denied]) = .denied
    rw [contributions]; rfl
  · rw [State.goOn_of_full _ (by rw [u.endStep_queue _ _ _ step, State.queueAtEnd_congr queue capture tag]; exact full),
      u.endStep_bay _ _ _ step]

/-! ### ADMIT entry -/

section
variable {s : State} {index : Nat}

/-- The claim of the slot that enters ADMIT (R48). -/
def State.slotClaim (s : State) (index : Nat) : Nat :=
  claimOf (s.currentSlot index).body.peak s.engine.ratings.vNom

theorem State.beginStep_stepClaim : (s.beginStep index).stepClaim = s.slotClaim index := by
  simp [State.stepClaim, State.slotClaim]

theorem State.beginStep_bayLimit : (s.beginStep index).bayLimit = s.bayLimit := (rfl)

/-- The claim driven already admits the step at once (R51). -/
theorem State.enterAdmit_of_driven (driven : s.slotClaim index ≤ s.bay.drivenClaim) :
    s.enterAdmit index = (s.beginStep index).admitted := by
  unfold State.enterAdmit
  dsimp only
  rw [State.beginStep_stepClaim]
  exact if_pos driven

/-- A claim to be raised above L ends the step with OVER_BAY (R51). -/
theorem State.enterAdmit_of_over (raises : s.bay.drivenClaim < s.slotClaim index) (exceeds : s.bayLimit < s.slotClaim index) :
    s.enterAdmit index = (s.beginStep index).endStep .normal [.overBay] := by
  unfold State.enterAdmit
  dsimp only
  rw [State.beginStep_stepClaim]
  exact (if_neg (Nat.not_le.2 raises)).trans (if_pos exceeds)

/-- A claim to be raised within L begins an attempt (R51, R52). -/
theorem State.enterAdmit_of_raise (raises : s.bay.drivenClaim < s.slotClaim index) (within : s.slotClaim index ≤ s.bayLimit) :
    s.enterAdmit index = (s.beginStep index).beginAttempt := by
  unfold State.enterAdmit
  dsimp only
  rw [State.beginStep_stepClaim]
  exact (if_neg (Nat.not_le.2 raises)).trans (if_neg (Nat.not_lt.2 within))

theorem State.freshStep_freshContext : s.FreshStep (s.freshContext index) (s.currentSlot index) (s.engine.page.getD .a) index :=
  ⟨rfl, rfl, rfl, rfl, rfl, rfl, rfl⟩

theorem State.FreshStep.applyContext {c : StepContext} {record : StepRecord} {page : Page} {index : Nat} (u : State)
    (h : s.FreshStep c record page index) : s.FreshStep (u.applyContext c) record page index := h

/-- The attempt of a step that raises its claim (R24, R51, R52). -/
theorem State.beginAttempt_stepIn (none : s.engine.waiting = none) :
    (s.beginStep index).beginAttempt.StepIn .admitting (s.freshContext index) := by
  have engine := (s.beginStep index).beginAttempt_engine
  exact ⟨by rw [engine]; rfl, by rw [engine]; rfl, by rw [engine]; exact none, by rw [engine]⟩

/-- The bay interface of a step admitted under the claim driven (R24, R51, R59). -/
theorem State.admitted_bay (s : State) : s.admitted.bay =
    if s.engine.kind.gated then s.bay.idleProtocol.enterQuiet else s.bay.idleProtocol := by
  rw [State.admitted_eq]; split <;> simp

theorem State.admitted_waiting (s : State) : s.admitted.engine.waiting = s.engine.waiting := by
  rw [State.admitted_eq]
  split
  · rfl
  · rw [State.enterApply_engine]; rfl

/-- A gated step that is admitted enters GATE (R24, R25). -/
theorem State.admitted_of_gated {c : StepContext} (step : s.engine.step = some c) (gated : c.record.kind.gated = true) :
    s.admitted = (s.setBay s.bay.idleProtocol).enterGate := by
  rw [State.admitted_eq, Engine.kind_of_step step, if_pos gated]

/-- Any other enters APPLY (R24, R26). -/
theorem State.admitted_of_ungated {c : StepContext} (step : s.engine.step = some c) (ungated : c.record.kind.gated = false) :
    s.admitted = (s.setBay s.bay.idleProtocol).enterApply := by
  rw [State.admitted_eq, Engine.kind_of_step step, if_neg (by simp [ungated])]

theorem State.admitted_stepIn_gate {c : StepContext} (walk : s.engine.walk = .running) (step : s.engine.step = some c)
    (waiting : s.engine.waiting = none) (gated : c.record.kind.gated = true) : s.admitted.StepIn .gate c := by
  rw [State.admitted_of_gated step gated]
  exact ⟨walk, step, waiting, rfl⟩

theorem State.entersApply_admitted {c : StepContext} (walk : s.engine.walk = .running) (step : s.engine.step = some c)
    (waiting : s.engine.waiting = none) (ungated : c.record.kind.gated = false) :
    s.EntersApply s.admitted (s.applyContext c) s.drive.lineSetpoint := by
  rw [State.admitted_of_ungated step ungated]
  exact (State.entersApply_enterApply (s := s.setBay s.bay.idleProtocol) walk step waiting rfl)

/-- No record is offered by a step that goes to GATE or APPLY. -/
theorem State.admitted_goOn (waiting : s.engine.waiting = none) : s.admitted.goOn = s.admitted :=
  State.goOn_of_none _ (by rw [State.admitted_waiting, waiting])

/-- What an ADMIT entry that goes on to an attempt, to GATE or to APPLY leaves of the step's beginnings. -/
def State.Begun (s t : State) (index : Nat) : Prop :=
  t.engine.lastIndex = some index ∧ t.engine.pausePending = s.engine.pausePending ∧ t.bay.priorClaim = s.bay.drivenClaim
    ∧ t.bay.gateAttempts = 0 ∧ t.bay.ownUnit = s.bay.ownUnit ∧ t.drive.level = s.drive.level ∧ t.queue = s.queue

/-- An attempt is counted, and drives the claim for its line_settle (R52). -/
theorem Bay.raise_spec (b : Bay) (claim settle : Nat) : (b.raise claim settle).protocol = .raising
    ∧ (b.raise claim settle).protocolCount = settle ∧ (b.raise claim settle).admissionAttempts = b.admissionAttempts + 1
    ∧ (b.raise claim settle).drivenClaim = claim ∧ (b.raise claim settle).priorClaim = b.priorClaim
    ∧ (b.raise claim settle).gateAttempts = b.gateAttempts ∧ (b.raise claim settle).ownUnit = b.ownUnit :=
  ⟨rfl, rfl, rfl, rfl, rfl, rfl, rfl⟩

theorem State.begun_beginAttempt : s.Begun (s.beginStep index).beginAttempt index := by
  obtain ⟨-, -, -, -, prior, gates, unit⟩ :=
    (s.beginStep index).bay.raise_spec (s.beginStep index).stepClaim (s.beginStep index).lineSettle
  unfold State.Begun
  rw [State.beginAttempt_engine, State.beginAttempt_bay, State.beginAttempt_drive, State.beginAttempt_queue, prior, gates, unit]
  exact ⟨rfl, rfl, rfl, rfl, rfl, rfl, State.beginStep_queue s index⟩

theorem State.begun_admitted : s.Begun (s.beginStep index).admitted index := by
  let b := s.beginStep index
  have bay : (b.admitted.bay.priorClaim = s.bay.drivenClaim ∧ b.admitted.bay.gateAttempts = 0)
      ∧ b.admitted.bay.ownUnit = s.bay.ownUnit := by
    rw [State.admitted_bay]; split <;> exact ⟨⟨rfl, rfl⟩, rfl⟩
  have engine : b.admitted.engine.lastIndex = some index ∧ b.admitted.engine.pausePending = s.engine.pausePending := by
    rw [State.admitted_eq]
    split
    · exact ⟨rfl, rfl⟩
    · rw [State.enterApply_engine]; exact ⟨rfl, rfl⟩
  exact ⟨engine.1, engine.2, bay.1.1, bay.1.2, bay.2, b.standsIn_admitted.1, b.admitted_queue⟩

/-- ADMIT entry with a claim to be raised within L: attempt 1 drives the step claim (R23, R24, R51, R52). -/
theorem State.enterAdmit_raises (none : s.engine.waiting = none) (raises : s.bay.drivenClaim < s.slotClaim index)
    (within : s.slotClaim index ≤ s.bayLimit) :
    (s.enterAdmit index).goOn = s.enterAdmit index ∧ s.Begun (s.enterAdmit index) index
      ∧ (s.enterAdmit index).StepIn .admitting (s.freshContext index) ∧ (s.enterAdmit index).bay.protocol = .raising
      ∧ (s.enterAdmit index).bay.protocolCount = s.lineSettle ∧ (s.enterAdmit index).bay.admissionAttempts = 1
      ∧ (s.enterAdmit index).bay.drivenClaim = s.slotClaim index := by
  have begun := s.begun_beginAttempt (index := index)
  have inStep := s.beginAttempt_stepIn (index := index) none
  rw [State.enterAdmit_of_raise raises within]
  refine ⟨State.goOn_of_none _ inStep.2.2.1, begun, inStep, ?_⟩
  obtain ⟨protocol, count, attempts, driven, -⟩ :=
    (s.beginStep index).bay.raise_spec (s.beginStep index).stepClaim (s.beginStep index).lineSettle
  rw [State.beginAttempt_bay]
  exact ⟨protocol, count.trans (State.lineSettle_of_store (s.beginStep_store index)), attempts,
    driven.trans State.beginStep_stepClaim⟩

/-- The context of a step admitted under the claim driven (R24, R76, R96). -/
def State.drivenContext (s : State) (index : Nat) : StepContext :=
  if (s.currentSlot index).kind.gated then s.freshContext index
  else (s.beginStep index).applyContext (s.freshContext index)

theorem State.freshStep_drivenContext :
    s.FreshStep (s.drivenContext index) (s.currentSlot index) (s.engine.page.getD .a) index := by
  unfold State.drivenContext
  split
  · exact State.freshStep_freshContext
  · exact State.freshStep_freshContext.applyContext _

/-- ADMIT entry under the claim driven: GATE for a gated kind, APPLY otherwise (R24 to R26, R51, R59). -/
theorem State.enterAdmit_driven (none : s.engine.waiting = none) (driven : s.slotClaim index ≤ s.bay.drivenClaim) :
    (s.enterAdmit index).goOn = s.enterAdmit index ∧ s.Begun (s.enterAdmit index) index
      ∧ ((s.currentSlot index).kind.gated = true → (s.enterAdmit index).StepIn .gate (s.drivenContext index)
        ∧ (s.enterAdmit index).bay.protocol = .quiet ∧ (s.enterAdmit index).bay.protocolCount = 0
        ∧ (s.enterAdmit index).acq.blanks = s.acq.blanks ∧ (s.enterAdmit index).acq.averages = s.acq.averages
        ∧ (s.enterAdmit index).drive.lineSetpoint = s.drive.lineSetpoint)
      ∧ ((s.currentSlot index).kind.gated = false →
        s.EntersApply (s.enterAdmit index) (s.drivenContext index) s.drive.lineSetpoint)
      ∧ (s.enterAdmit index).bay.admissionAttempts = 0
      ∧ (s.enterAdmit index).bay.drivenClaim = s.bay.drivenClaim := by
  let b := s.beginStep index
  rw [State.enterAdmit_of_driven driven]
  have bay : b.admitted.bay.admissionAttempts = 0 ∧ b.admitted.bay.drivenClaim = s.bay.drivenClaim := by
    rw [State.admitted_bay]; split <;> exact ⟨rfl, rfl⟩
  refine ⟨State.admitted_goOn (s := b) none, State.begun_admitted, fun gated => ?_, fun ungated => ?_, bay⟩
  · rw [State.drivenContext, if_pos gated]
    refine ⟨State.admitted_stepIn_gate (s := b) rfl rfl none gated, ?_⟩
    rw [State.admitted_of_gated (s := b) (c := s.freshContext index) rfl gated]
    exact ⟨rfl, rfl, rfl, rfl, rfl⟩
  · rw [State.drivenContext, if_neg (by rw [ungated]; exact Bool.false_ne_true)]
    exact (State.entersApply_admitted (s := b) (c := s.freshContext index) rfl rfl none ungated).of_same
      (fun _ _ _ _ h => h) (State.beginStep_queue s index)

end

/-! ### OVER_BAY -/

section
variable {s : State} {index : Nat}

/-- The STEP_RESULT of a slot that ends with OVER_BAY at its ADMIT entry (R51). -/
def State.overBayResult (s : State) (index : Nat) : StepResult :=
  (s.beginStep index).endResult .normal [.overBay] (s.freshContext index)

theorem State.overBayResult_spec : (s.overBayResult index).verdict = .overBay ∧ (s.overBayResult index).endPhase = .admitting
    ∧ (s.overBayResult index).page = s.engine.page.getD .a ∧ (s.overBayResult index).index = index
    ∧ (s.overBayResult index).tag = (s.currentSlot index).tag ∧ (s.overBayResult index).kind = (s.currentSlot index).kind
    ∧ (s.overBayResult index).duration = 0 ∧ (s.overBayResult index).exitLevel = s.drive.level / 1000
    ∧ (s.overBayResult index).admissionAttempts = 0 ∧ (s.overBayResult index).gateAttempts = 0
    ∧ (s.overBayResult index).posted = 0 ∧ (s.overBayResult index).dropped = 0 := by
  have duration : interval (s.beginStep index).acq.seq (s.freshContext index).admitSeq = 0 := by
    change (s.acq.seq - s.acq.seq).toNat = 0
    rw [BitVec.sub_self]; rfl
  exact ⟨rfl, rfl, rfl, rfl, rfl, rfl, duration, rfl, rfl, rfl, rfl, rfl⟩

theorem State.beginStep_queueAtEnd : (s.beginStep index).queueAtEnd = s.queue :=
  (State.queueAtEnd_of_not_collecting _ (by simp [Capture.reset])).trans (by simp)

/-- A slot ends with OVER_BAY in the event of its ADMIT entry (R23, R24, R51, R124). -/
theorem State.endsOverBay_enterAdmit (raises : s.bay.drivenClaim < s.slotClaim index) (exceeds : s.bayLimit < s.slotClaim index) :
    ∃ more, s.EndsOverBay (s.enterAdmit index).goOn (s.overBayResult index) (s.currentSlot index)
      (s.engine.page.getD .a) index more := by
  let u := s.beginStep index
  have step : u.engine.step = some (s.freshContext index) := rfl
  obtain ⟨offered, -, -⟩ := u.offered_endStep .normal [.overBay] (s.freshContext index) step
  obtain ⟨verdict, phase, page, indexEq, tag, kind, duration, level, attempts, gates, posted, dropped⟩ :=
    State.overBayResult_spec (s := s) (index := index)
  rw [State.enterAdmit_of_over raises exceeds]
  rw [State.beginStep_queueAtEnd] at offered
  have full (h : 32 ≤ s.queue.length) : (u.endStep .normal [.overBay]).goOn = u.endStep .normal [.overBay] :=
    State.goOn_of_full _ (by rw [u.endStep_queue _ _ _ step, State.beginStep_queueAtEnd]; exact h)
  have waits (h : 32 ≤ s.queue.length) : (u.endStep .normal [.overBay]).goOn.engine.walk = .running
      ∧ (u.endStep .normal [.overBay]).goOn.engine.lastIndex = some index
      ∧ (u.endStep .normal [.overBay]).goOn.bay.drivenClaim = s.bay.drivenClaim
      ∧ (u.endStep .normal [.overBay]).goOn.bay.protocol = .idle
      ∧ (u.endStep .normal [.overBay]).goOn.bay.admissionAttempts = 0 := by
    obtain ⟨claim, -, idle, admissions, -⟩ := u.endBay_spec .normal [.overBay] (s.freshContext index)
    rw [full h, u.endStep_engine _ _ _ step, u.endStep_bay _ _ _ step, claim, idle, admissions]
    exact ⟨rfl, rfl, rfl, rfl, rfl⟩
  rcases offered with ⟨free, more, queue⟩ | ⟨stalled, queue, waiting, stall⟩
  · exact ⟨_, queue, ⟨fun _ => rfl, fun h => absurd free (Nat.not_lt.2 h)⟩, verdict, phase, page, indexEq, tag, kind,
      duration, level, attempts, gates, posted, dropped, waits⟩
  · exact ⟨[], by rw [queue, List.append_nil], ⟨fun free => absurd free (Nat.not_lt.2 stalled), fun _ => ⟨rfl, waiting, stall⟩⟩,
      verdict, phase, page, indexEq, tag, kind, duration, level, attempts, gates, posted, dropped, waits⟩

/-- OVER_BAY is read off the queue, the level and the claim of the state before. -/
theorem State.EndsOverBay.of_same {s u t : State} {r : StepResult} {record : StepRecord} {page : Page} {index : Nat}
    {more : List Record} (h : u.EndsOverBay t r record page index more) (queue : u.queue = s.queue)
    (level : u.drive.level = s.drive.level) (claim : u.bay.drivenClaim = s.bay.drivenClaim) :
    s.EndsOverBay t r record page index more := by
  unfold State.EndsOverBay at h ⊢
  rwa [queue, level, claim] at h

theorem State.EndsOverBay.reply {t : State} {r : StepResult} {record : StepRecord} {page : Page} {index : Nat}
    {more : List Record} (h : s.EndsOverBay t r record page index more) (code : Byte) (a : Answer) :
    s.EndsOverBay (t.reply code a) r record page index more := by
  unfold State.EndsOverBay State.OffersNext at h ⊢
  exact h

end

end Sys2Proof.Machine


/-! ## Admission, gate and the waits of the protocol (O22, O38 to O40) -/

namespace Sys2Proof.Machine

/-! ### O22 -/

/-- RESUME in PAUSED. -/
theorem exec_resume_of_paused {s : State} (walk : s.engine.walk = .paused) : exec .resume s =
    .next (((s.setEngine { s.engine with walk := .running }).enterAdmit s.engine.resumeIndex).goOn.reply 0x22 .ok) := by
  change Host.Outcome.next s.takeResume = _
  rw [State.takeResume, walk]

/-- Settles O22, by the three cases of ADMIT entry. -/
theorem resumeEntersAdmit : Obligations.ResumeEntersAdmit := by
  intro s record p walk waiting page slot
  subst page slot
  let u : State := s.setEngine { s.engine with walk := .running }
  have run := exec_resume_of_paused walk
  have claim : u.slotClaim s.engine.resumeIndex = claimOf (s.currentSlot s.engine.resumeIndex).body.peak s.engine.ratings.vNom := by
    have slot : u.currentSlot s.engine.resumeIndex = s.currentSlot s.engine.resumeIndex := rfl
    have ratings : u.engine.ratings = s.engine.ratings := by simp [u]
    rw [State.slotClaim, slot, ratings]
  refine ⟨fun raises within => ?_, fun driven => ?_, fun raises exceeds => ?_⟩
  · obtain ⟨stays, begun, inStep, protocol, count, attempts, raised⟩ := State.enterAdmit_raises (s := u)
      (index := s.engine.resumeIndex) waiting (by rw [claim]; exact raises) (by rw [claim]; exact within)
    obtain ⟨last, -, prior, gates, -, level, queue⟩ := begun
    rw [stays] at run
    refine ⟨_, u.freshContext s.engine.resumeIndex, run, ?_⟩
    simp only [State.reply_engine, State.reply_bay, State.reply_drive, State.reply_queue, State.stepIn_reply]
    exact ⟨inStep, State.freshStep_freshContext (s := u), last, protocol, count.trans (State.lineSettle_of_store rfl), attempts,
      gates, raised.trans claim, prior, level, queue⟩
  · obtain ⟨stays, begun, gate, apply, attempts, stands⟩ := State.enterAdmit_driven (s := u)
      (index := s.engine.resumeIndex) waiting (by rw [claim]; exact driven)
    obtain ⟨last, -, prior, gates, -, level, queue⟩ := begun
    rw [stays] at run
    refine ⟨_, u.drivenContext s.engine.resumeIndex, run, State.freshStep_drivenContext (s := u), ?_⟩
    simp only [State.reply_engine, State.reply_bay, State.reply_drive, State.reply_queue, State.stepIn_reply,
      State.entersApply_reply]
    refine ⟨fun gated => ?_, fun ungated => ?_, last, attempts, gates, prior, stands, level, queue⟩
    · obtain ⟨inStep, quiet, zero, -⟩ := gate gated
      exact ⟨inStep, quiet, zero⟩
    · exact (apply ungated).of_same (fun _ _ _ _ h => h) rfl
  · obtain ⟨more, ends⟩ := State.endsOverBay_enterAdmit (s := u) (index := s.engine.resumeIndex) (by rw [claim]; exact raises)
      (by rw [claim]; exact exceeds)
    exact ⟨_, _, more, run, (ends.of_same rfl rfl rfl).reply _ _⟩

/-! ### O38 -/

section
variable {s : State} {c : StepContext}

theorem exec_admissionDecision (inStep : s.StepIn .admitting c) (raising : s.bay.protocol = .raising)
    (ranOut : s.bay.protocolCount = 0) : exec .admissionDecision s = .next s.decideAdmission.goOn := by
  change Host.Outcome.next (s.admissionDecision.getD s) = _
  simp [State.admissionDecision, inStep.stepping, raising, ranOut]

/-- T at most L admits the step (R52). -/
theorem State.decideAdmission_of_within (within : s.bay.bayTotal ≤ s.bayLimit) : s.decideAdmission = s.admitted := if_pos within

/-- T above L with an attempt left withdraws the claim and waits (R53). -/
theorem State.decideAdmission_of_retry (exceeds : s.bayLimit < s.bay.bayTotal) (left : s.bay.admissionAttempts < s.attemptLimit) :
    s.decideAdmission = (s.setBay (s.bay.withdraw.enterBackoff s.slotSamples)).setPhase .backoff :=
  (if_neg (Nat.not_le.2 exceeds)).trans (if_pos left)

/-- T above L at the attempt limit denies the step (R53). -/
theorem State.decideAdmission_of_limit (exceeds : s.bayLimit < s.bay.bayTotal) (none : s.attemptLimit ≤ s.bay.admissionAttempts) :
    s.decideAdmission = (s.setBay s.bay.withdraw.idleProtocol).endStep .normal [.denied] :=
  (if_neg (Nat.not_le.2 exceeds)).trans (if_neg (Nat.not_lt.2 none))

/-- Settles O38, by the three cases of the decision. -/
theorem admissionDecides : Obligations.AdmissionDecides := by
  intro s c inStep raising ranOut
  obtain ⟨walk, step, waiting, phase⟩ := inStep
  have run := exec_admissionDecision ⟨walk, step, waiting, phase⟩ raising ranOut
  refine ⟨fun within gated => ?_, fun within ungated => ?_, fun exceeds left => ?_, fun exceeds none contributions => ?_⟩
  · rw [State.decideAdmission_of_within within, State.admitted_goOn waiting, State.admitted_of_gated step gated] at run
    exact ⟨_, run, ⟨walk, step, waiting, rfl⟩, rfl, rfl, rfl, rfl, rfl, rfl, rfl⟩
  · rw [State.decideAdmission_of_within within, State.admitted_goOn waiting] at run
    have bay : s.admitted.bay = s.bay.idleProtocol := by
      rw [State.admitted_of_ungated step ungated, State.enterApply_bay]; rfl
    exact ⟨_, s.applyContext c, run, rfl, State.entersApply_admitted walk step waiting ungated, by rw [bay]; rfl, by rw [bay]; rfl⟩
  · rw [State.decideAdmission_of_retry exceeds left] at run
    rw [State.goOn_of_none _ (by exact waiting)] at run
    exact ⟨_, run, ⟨walk, step, waiting, rfl⟩, rfl, rfl, rfl, rfl, rfl, rfl, rfl⟩
  · rw [State.decideAdmission_of_limit exceeds none] at run
    let u : State := s.setBay s.bay.withdraw.idleProtocol
    obtain ⟨offered, verdict, level, ⟨claim, -⟩, full⟩ := State.denied_endStep (s := s) (u := u) step contributions rfl rfl rfl
    refine ⟨_, _, run, offered, verdict, phase, level, rfl, ?_, fun stalled => ?_⟩
    · exact claim
    · obtain ⟨stands, -, idle, attempts, -⟩ := u.endBay_spec .normal [.denied] c
      rw [full stalled]
      exact ⟨stands, idle, attempts⟩

/-! ### O39 -/

/-- Settles O39, row by row. -/
theorem protocolWaitsEnd : Obligations.ProtocolWaitsEnd := by
  intro s c
  refine ⟨fun inStep backoff ranOut => ?_, fun inStep quiet ranOut => ?_, fun inStep backoff ranOut => ?_, fun span => ?_⟩
  · have run : exec .backoffEnd s = .next s.beginAttempt := by
      change Host.Outcome.next (s.backoffEnd.getD s) = _
      simp [State.backoffEnd, inStep.stepping, backoff, ranOut]
    obtain ⟨walk, step, waiting, phase⟩ := inStep
    obtain ⟨protocol, count, attempts, driven, -, -, unit⟩ := s.bay.raise_spec s.stepClaim s.lineSettle
    have engine := s.beginAttempt_engine
    refine ⟨_, run, ⟨by rw [engine]; exact walk, by rw [engine]; exact step, by rw [engine]; exact waiting, by rw [engine]⟩, ?_⟩
    rw [State.beginAttempt_bay, State.beginAttempt_drive, State.beginAttempt_acq, State.beginAttempt_queue, protocol, count,
      attempts, driven, unit, State.stepClaim, Engine.record_of_step step]
    exact ⟨rfl, rfl, rfl, rfl, rfl, rfl, rfl, rfl⟩
  · have run : exec .quietWaitEnd s = .next (s.setBay (s.bay.enterAsserting s.lineSettle)) := by
      change Host.Outcome.next (s.quietWaitEnd.getD s) = _
      simp [State.quietWaitEnd, inStep.stepping, quiet, ranOut]
    exact ⟨_, run, inStep, rfl, rfl, rfl, fun released => by simp [Bay.enterAsserting, released, OwnUnit.assertFor],
      fun trip => by simp [Bay.enterAsserting, trip, OwnUnit.assertFor], rfl, rfl, rfl, rfl⟩
  · have run : exec .gateBackoffEnd s = .next s.enterGate := by
      change Host.Outcome.next (s.gateBackoffEnd.getD s) = _
      simp [State.gateBackoffEnd, inStep.stepping, backoff, ranOut]
    obtain ⟨walk, step, waiting, phase⟩ := inStep
    exact ⟨_, run, ⟨walk, step, waiting, rfl⟩, rfl, rfl, rfl, rfl, rfl, rfl, rfl⟩
  · have run : exec .releaseSpanEnd s = .next (s.setBay { s.bay with releaseSpan := none }) := by
      change Host.Outcome.next (s.releaseSpanEnd.getD s) = _
      simp [State.releaseSpanEnd, span]
    refine ⟨_, run, rfl, fun released reading => ?_, fun asserted reading => ?_⟩
    · simp [Bay.othersOf, Bay.countsOwn, released, OwnUnit.asserted]
    · simp [Bay.othersOf, Bay.countsOwn, (OwnUnit.asserted_iff _).2 asserted]

/-! ### O40 -/

theorem exec_gateDecision (inStep : s.StepIn .gate c) (asserting : s.bay.protocol = .asserting)
    (ranOut : s.bay.protocolCount = 0) : exec .gateDecision s = .next s.decideGate.goOn := by
  change Host.Outcome.next (s.gateDecision.getD s) = _
  simp [State.gateDecision, inStep.stepping, asserting, ranOut]

/-- census_others 0 holds the gate (R60). -/
theorem State.decideGate_of_quiet (quiet : s.bay.censusOthers = 0) :
    s.decideGate = (s.setBay (s.bay.assertUnit .gate).idleProtocol).enterApply := if_pos quiet

/-- A census of others with an attempt left is waited out (R61). -/
theorem State.decideGate_of_retry (others : 1 ≤ s.bay.censusOthers) (left : s.bay.gateAttempts < s.attemptLimit) :
    s.decideGate = (s.setBay ((s.bay.releaseAttempt s.lineSettle).enterGateBackoff s.slotSamples)).setPhase .gateBackoff := by
  have attempts : (s.bay.releaseAttempt s.lineSettle).gateAttempts < s.attemptLimit := by
    unfold Bay.releaseAttempt
    split
    · rw [(Bay.releaseUnit_attempts _ _).2]; exact left
    · exact left
  exact (if_neg (by omega)).trans (if_pos attempts)

/-- A census of others at the attempt limit denies the step (R61). -/
theorem State.decideGate_of_limit (others : 1 ≤ s.bay.censusOthers) (none : s.attemptLimit ≤ s.bay.gateAttempts) :
    s.decideGate = (s.setBay (s.bay.releaseAttempt s.lineSettle).idleProtocol).endStep .normal [.denied] := by
  have attempts : ¬ (s.bay.releaseAttempt s.lineSettle).gateAttempts < s.attemptLimit := by
    unfold Bay.releaseAttempt
    split
    · rw [(Bay.releaseUnit_attempts _ _).2]; exact Nat.not_lt.2 none
    · exact Nat.not_lt.2 none
  exact (if_neg (by omega)).trans (if_neg attempts)

/-- An ATTEMPT unit is released, a TRIP unit kept, and nothing else of the bay interface that a decision reads (R61, R62). -/
theorem Bay.releaseAttempt_spec {b : Bay} (settle : Nat) (unit : b.ownUnit = .attempt ∨ b.ownUnit = .trip) :
    (b.releaseAttempt settle).ownUnit = (if b.ownUnit = .trip then .trip else .released)
      ∧ (b.releaseAttempt settle).drivenClaim = b.drivenClaim ∧ (b.releaseAttempt settle).gateAttempts = b.gateAttempts
      ∧ (b.releaseAttempt settle).address = b.address := by
  unfold Bay.releaseAttempt
  rcases unit with attempt | trip
  · obtain ⟨released, claim, -, -, gates⟩ := b.releaseUnit_spec settle
    rw [if_pos attempt, if_neg (by rw [attempt]; decide), claim, gates]
    refine ⟨released, rfl, rfl, ?_⟩
    unfold Bay.releaseUnit; split <;> rfl
  · rw [if_neg (by rw [trip]; decide), if_pos trip]
    exact ⟨trip, rfl, rfl, rfl⟩

/-- Settles O40, by the three cases of the decision. -/
theorem gateDecides : Obligations.GateDecides := by
  intro s c inStep asserting ranOut unit
  obtain ⟨walk, step, waiting, phase⟩ := inStep
  have run := exec_gateDecision ⟨walk, step, waiting, phase⟩ asserting ranOut
  obtain ⟨released, claim, gates, address⟩ := Bay.releaseAttempt_spec s.lineSettle unit
  refine ⟨fun quiet => ?_, fun others left => ?_, fun others none contributions => ?_⟩
  · let u : State := s.setBay (s.bay.assertUnit .gate).idleProtocol
    have enters : u.EntersApply u.enterApply (u.applyContext c) u.drive.lineSetpoint :=
      State.entersApply_enterApply walk step waiting rfl
    rw [State.decideGate_of_quiet quiet, State.goOn_of_none _ enters.1.2.2.1] at run
    refine ⟨_, u.applyContext c, run, rfl, enters.of_same (fun _ _ _ _ h => h) rfl, ?_, ?_⟩
    · rw [State.enterApply_bay]
      rcases unit with attempt | trip
      · simp [u, Bay.assertUnit, Bay.idleProtocol, attempt, OwnUnit.assertFor]
      · simp [u, Bay.assertUnit, Bay.idleProtocol, trip, OwnUnit.assertFor]
    · rw [State.enterApply_bay]; rfl
  · rw [State.decideGate_of_retry others left, State.goOn_of_none _ (by exact waiting)] at run
    refine ⟨_, run, ⟨walk, step, waiting, rfl⟩, rfl, released, ?_, claim, rfl, rfl, rfl⟩
    change backoffSlots (s.bay.releaseAttempt s.lineSettle).address (s.bay.releaseAttempt s.lineSettle).gateAttempts * _ = _
    rw [gates, address]; rfl
  · rw [State.decideGate_of_limit others none] at run
    let u : State := s.setBay (s.bay.releaseAttempt s.lineSettle).idleProtocol
    obtain ⟨offered, verdict, level, ⟨claims, unitStands⟩, full⟩ :=
      State.denied_endStep (s := s) (u := u) step contributions rfl rfl rfl
    have kept : (u.endBay .normal [.denied] c).ownUnit = if s.bay.ownUnit = .trip then .trip else .released := by
      rw [u.endBay_unit_of_fail .normal [.denied] c (by rw [contributions]; decide),
        show u.bay.ownUnit = _ from released]
      rcases unit with attempt | trip
      · simp [attempt]
      · simp [trip]
    have claims' : (u.endStep .normal [.denied]).goOn.bay.drivenClaim = s.bay.drivenClaim
        ∨ ((u.endStep .normal [.denied]).goOn.bay.protocol = .raising
          ∧ (u.endStep .normal [.denied]).goOn.bay.priorClaim = s.bay.drivenClaim) := by
      rw [← claim]; exact claims
    refine ⟨_, _, run, offered, verdict, phase, level, gates, ?_, unitStands.trans kept, claims', fun stalled => ?_⟩
    · change (u.endBay .normal [.denied] c).ownUnit.asserted = true ↔ _
      rw [kept]
      rcases unit with attempt | trip
      · simp [attempt, OwnUnit.asserted]
      · simp [trip, OwnUnit.asserted]
    · obtain ⟨stands, -, idle, -, gatesEnd⟩ := u.endBay_spec .normal [.denied] c
      rw [full stalled]
      exact ⟨stands.trans claim, idle, gatesEnd.trans gates⟩

end

end Sys2Proof.Machine


/-! ## Windows as they open, and the walk in WINDDOWN -/

namespace Sys2Proof.Machine

/-! ### Windows -/

theorem mem_windowChannels (extra : List CheckChannel) (r : StepRecord) (ch : CheckChannel) :
    ch ∈ windowChannels extra r ↔ ch ∈ extra ∨ ch ∈ r.checks.map (·.channel) := by
  have insert_mem (l : List CheckChannel) : ch ∈ l.foldr List.insert [] ↔ ch ∈ l := by
    induction l with
    | nil => simp
    | cons x l ih => simp [List.mem_insert_iff, ih]
  rw [windowChannels, insert_mem, List.mem_append]

theorem nodup_windowChannels (extra : List CheckChannel) (r : StepRecord) : (windowChannels extra r).Nodup := by
  have insert_nodup (l : List CheckChannel) : (l.foldr List.insert []).Nodup := by
    induction l with
    | nil => simp
    | cons x l ih => exact ih.insert
  exact insert_nodup _

theorem channelPolicy_eq_restart (profiles : PerChannel ChannelProfile) (ch : CheckChannel) :
    channelPolicy profiles ch = .restart ↔ ∃ d, ch.RestsOn d ∧ (profiles.get d).policy = .restart := by
  unfold channelPolicy
  split
  next restarts => simpa [CheckChannel.mem_sources] using restarts
  next marks => simpa [CheckChannel.mem_sources] using marks

/-- The policy of a window: RESTART when a source of one of its channels has RESTART (R93). -/
theorem windowPolicy_eq_restart (profiles : PerChannel ChannelProfile) (channels : List CheckChannel) :
    windowPolicy profiles channels = .restart
      ↔ ∃ ch d, ch ∈ channels ∧ ch.RestsOn d ∧ (profiles.get d).policy = .restart := by
  unfold windowPolicy
  split
  next restarts => simpa [channelPolicy_eq_restart] using restarts
  next marks => simpa [channelPolicy_eq_restart] using marks

theorem Window.accumulates_accumulate (w : Window) (r : SampleRecord) : w.Accumulates (w.accumulate r) r := by
  refine ⟨rfl, ?_⟩
  unfold Window.accumulate
  refine List.map_congr_left fun acc _ => ?_
  unfold Accumulator.join
  cases acc.extremes <;> rfl

/-- What the first sample of a fresh window does (R98, R99). -/
theorem Window.firstSample_spec (w : Window) (r : SampleRecord) (opened : w.state = .opened) (empty : w.count = 0) :
    (w.firstSample r).mode = w.mode ∧ (w.firstSample r).length = w.length ∧ (w.firstSample r).policy = w.policy
      ∧ (w.firstSample r).restarts = w.restarts
      ∧ (w.firstSample r).disturbed = w.disturbed + (if r.disturbed then 1 else 0)
      ∧ (r.disturbed = false ∨ w.policy = .mark → w.Accumulates (w.firstSample r) r ∧ (w.firstSample r).state = .opened)
      ∧ (r.disturbed = true → w.policy = .restart → (w.firstSample r).count = 0 ∧ (w.firstSample r).channels = w.channels
        ∧ (w.firstSample r).state = (if w.mode = .counted then .waiting else .opened)) := by
  have joins := w.accumulates_accumulate r
  unfold Window.firstSample
  cases disturbed : r.disturbed with
  | false => exact ⟨rfl, rfl, rfl, rfl, rfl, fun _ => ⟨joins, rfl⟩, fun no => absurd no (by decide)⟩
  | true =>
    cases policy : w.policy with
    | mark => exact ⟨rfl, rfl, policy, rfl, rfl, fun _ => ⟨joins, rfl⟩, fun _ no => absurd no (by decide)⟩
    | restart =>
      cases mode : w.mode with
      | counted => exact ⟨rfl, rfl, rfl, rfl, rfl, fun no => by simp at no, fun _ _ => ⟨empty, rfl, rfl⟩⟩
      | span => exact ⟨mode, rfl, policy, rfl, rfl, fun no => by simp at no, fun _ _ => ⟨empty, rfl, opened⟩⟩

/-- A window opens at the latest sample (R93, R98, R99). -/
theorem State.opens_openWindow (s : State) (mode : WindowMode) (length : Nat) {channels : List CheckChannel}
    {wanted : CheckChannel → Prop} (nodup : channels.Nodup) (mem : ∀ ch, ch ∈ channels ↔ wanted ch) :
    s.Opens (s.openWindow mode length channels).acq.window mode length wanted := by
  let fresh := s.acq.window.request s.store.channels mode length channels
  have same : fresh.channels.map (·.channel) = channels := by
    simp [fresh, Window.request, Function.comp_def, Accumulator.empty]
  have latest_cases : (s.openWindow mode length channels).acq.window
      = match s.acq.latest with | some r => fresh.firstSample r | none => fresh := rfl
  refine ⟨fresh, rfl, fun _ => rfl, rfl, rfl, rfl, rfl, fun ch => by rw [same]; exact mem ch, by rw [same]; exact nodup, ?_, ?_, ?_⟩
  · intro acc accMem
    obtain ⟨ch, -, rfl⟩ := List.mem_map.1 accMem
    exact ⟨rfl, rfl, rfl⟩
  · change windowPolicy s.store.channels channels = .restart ↔ _
    simp only [windowPolicy_eq_restart, mem]
  · rw [latest_cases]
    cases latest : s.acq.latest with
    | none => exact ⟨rfl, rfl, rfl, rfl, fun _ => rfl, fun r some => by simp at some⟩
    | some r =>
      obtain ⟨modeEq, lengthEq, policyEq, restartsEq, disturbed, joins, waits⟩ := fresh.firstSample_spec r rfl rfl
      refine ⟨modeEq, lengthEq, policyEq, restartsEq, fun no => by simp at no, fun x eq => ?_⟩
      obtain rfl : r = x := by simpa using eq
      exact ⟨disturbed, joins, waits⟩

/-- An opening is read off the window, the latest sample and the plan store of the state before. -/
theorem State.Opens.of_same {s u : State} {w : Window} {mode : WindowMode} {length : Nat} {wanted : CheckChannel → Prop}
    (h : u.Opens w mode length wanted) (window : u.acq.window.restarts = s.acq.window.restarts
      ∧ u.acq.window.disturbed = s.acq.window.disturbed) (latest : u.acq.latest = s.acq.latest)
    (channels : u.store.channels = s.store.channels) : s.Opens w mode length wanted := by
  unfold State.Opens at h ⊢
  rwa [window.1, window.2, latest, channels] at h

theorem State.opens_openDropoutWindow (s : State) :
    s.Opens s.openDropoutWindow.acq.window .span 0
      (fun ch => ch = .measured .vOut ∨ ch ∈ s.engine.record.checks.map (·.channel)) :=
  s.opens_openWindow .span 0 (nodup_windowChannels _ _) fun ch => by rw [mem_windowChannels, List.mem_singleton]

/-! ### The walk in WINDDOWN -/

/-- A WALK_SUMMARY is placed, and the walk is over (R41). -/
theorem State.goOn_summary {s : State} {w : WalkSummary} (waiting : s.engine.waiting = some (.walkSummary w))
    (free : s.queue.length < 32) : s.goOn = (s.placed (.walkSummary w)).afterSummary w := by
  rw [State.goOn_placed waiting free]
  exact State.goOn_of_none _ rfl

/-- In WINDDOWN the records placed leave the blocks beside the engine as they stand. -/
def State.Windless (s u : State) : Prop :=
  u.bay = s.bay ∧ u.drive = s.drive ∧ u.acq = s.acq ∧ (u.engine.walk = .winddown ∨ u.engine.waiting = none)

theorem State.Windless.offerSummary {s u : State} (h : s.Windless u) (walk : u.engine.walk = .winddown) :
    s.Windless u.offerSummary := by
  obtain ⟨bay, drive, acq, -⟩ := h
  unfold State.offerSummary
  split <;> exact ⟨bay, drive, acq, .inl walk⟩

theorem State.Windless.placeRecords {s u : State} (h : s.Windless u) (n : Nat) : s.Windless (State.placeRecords n u) := by
  induction n generalizing u with
  | zero => exact h
  | succ n ih =>
    rw [State.placeRecords_succ]
    split
    next r waiting =>
      split
      · obtain ⟨bay, drive, acq, walk⟩ := h
        have winddown : u.engine.walk = .winddown := walk.resolve_right (by simp [waiting])
        refine ih ?_
        cases r with
        | stepResult r =>
          change s.Windless ((u.placed _).afterStepResult r)
          rw [State.afterStepResult]
          dsimp only
          rw [if_pos (by exact winddown)]
          exact State.Windless.offerSummary ⟨bay, drive, acq, .inl winddown⟩ winddown
        | pageSwap p =>
          change s.Windless (u.placed _).afterPageSwap
          rw [State.afterPageSwap, if_pos (by exact winddown)]
          exact State.Windless.offerSummary ⟨bay, drive, acq, .inl winddown⟩ winddown
        | walkSummary w => exact ⟨bay, drive, acq, .inr rfl⟩
      · exact h
    next => exact h

/-- Going on in WINDDOWN changes the engine and the queue alone. -/
theorem State.goOn_of_winddown {s : State} (walk : s.engine.walk = .winddown) :
    s.goOn.bay = s.bay ∧ s.goOn.drive = s.drive ∧ s.goOn.acq = s.acq := by
  obtain ⟨bay, drive, acq, -⟩ := State.Windless.placeRecords (s := s) (u := s) ⟨rfl, rfl, rfl, .inl walk⟩ (Config.queueDepth + 1)
  exact ⟨bay, drive, acq⟩

/-- The releases in WINDDOWN with no record waiting offer the WALK_SUMMARY (R41). -/
theorem State.makeReleases_engine {s : State} (walk : s.engine.walk = .winddown) (waiting : s.engine.waiting = none) :
    s.makeReleases.engine = { s.engine with
      releasesDone := true, waiting := some (.walkSummary s.engine.summary), phase := .outputStall } := by
  unfold State.makeReleases
  dsimp only
  rw [State.offerSummary_of_due _ (by exact walk) rfl (by exact waiting)]
  rfl

/-- The releases behind a record that waits offer nothing yet (R42). -/
theorem State.makeReleases_engine_of_waiting {s : State} {x : StepLevel} (waiting : s.engine.waiting = some x) :
    s.makeReleases.engine = { s.engine with releasesDone := true } := by
  unfold State.makeReleases State.offerSummary
  rw [if_neg (by simp [waiting])]
  rfl

/-- The WALK_SUMMARY of the releases: placed with the end of the walk, or held back (R41, R180). -/
theorem State.makeReleases_goOn {s : State} (walk : s.engine.walk = .winddown) (waiting : s.engine.waiting = none) :
    (s.queue.length < 32 → s.makeReleases.goOn.queue = s.queue ++ [.stepLevel (.walkSummary s.engine.summary)]
        ∧ s.makeReleases.goOn.engine.walk = (if s.engine.reason = some .pass then .idle else .held)
        ∧ s.makeReleases.goOn.engine.page = none)
      ∧ (32 ≤ s.queue.length → s.makeReleases.goOn.queue = s.queue ∧ s.makeReleases.goOn.engine.walk = .winddown
        ∧ s.makeReleases.goOn.engine.reason = s.engine.reason
        ∧ s.makeReleases.goOn.engine.waiting = some (.walkSummary s.engine.summary)) := by
  have engine := s.makeReleases_engine walk waiting
  refine ⟨fun free => ?_, fun full => ?_⟩
  · rw [State.goOn_summary (by rw [engine]) (by rw [State.makeReleases_queue]; exact free), State.afterSummary_engine,
      State.afterSummary_queue, State.placed_queue, State.makeReleases_queue]
    exact ⟨rfl, by simp [Engine.summary], rfl⟩
  · rw [State.goOn_of_full _ (by rw [State.makeReleases_queue]; exact full), engine, State.makeReleases_queue]
    exact ⟨rfl, walk, rfl, rfl⟩

end Sys2Proof.Machine


/-! ## The drive unit's own events (O41, O43, O49, O50, O51) -/

namespace Sys2Proof.Machine

section
variable {s : State}

/-! ### O41 -/

/-- The row of a set's end. -/
theorem exec_generatorSetEnd (ended : s.drive.status = .ended) : exec .generatorSetEnd s = .next s.reportSetEnd.goOn := by
  change Host.Outcome.next (s.generatorSetEnd.getD s) = _
  simp [State.generatorSetEnd, ended]

/-- A set's end with no set waiting: what the walk engine makes of it (R72). -/
theorem State.reportSetEnd_of_unstaged (unstaged : (s.setDrive s.drive.holdLevel).takeSetEnd.drive.staged = none) :
    s.reportSetEnd = (s.setDrive s.drive.holdLevel).takeSetEnd := by
  unfold State.reportSetEnd
  dsimp only
  rw [Drive.releaseStaged_of_none unstaged, State.setDrive_self]

theorem State.takeSetEnd_of_winddown (walk : s.engine.walk = .winddown) (unstaged : s.drive.staged = none)
    (rests : s.engine.releasesDone = false) : s.takeSetEnd = s.makeReleases := by
  unfold State.takeSetEnd; rw [walk]; simp [unstaged, rests]

theorem State.takeSetEnd_of_pageWait (walk : s.engine.walk = .pageWait) (rest : s.engine.rest = .ramping) :
    s.takeSetEnd = s.reachRest := by
  unfold State.takeSetEnd; rw [walk]; simp [rest]

/-- What the releases leave of the bay lines (R49, R66). -/
theorem Bay.releaseAll_spec (b : Bay) (settle : Nat) : (b.releaseAll settle).drivenClaim = 0
    ∧ (b.releaseAll settle).ownUnit = .released ∧ (b.releaseAll settle).protocol = .idle := by
  obtain ⟨claim, unit⟩ := b.releaseAll_atRest settle
  exact ⟨claim, unit, rfl⟩

/-- Settles O41, by the releases and the comparison the ramps end in. -/
theorem walkRampsEnd : Obligations.WalkRampsEnd := by
  intro s waiting ended unstaged
  have run := exec_generatorSetEnd ended
  let h : State := s.setDrive s.drive.holdLevel
  refine ⟨fun walk rests => ?_, fun walk rest => ?_⟩
  · have report : s.reportSetEnd = h.makeReleases := by
      have taken : h.takeSetEnd = h.makeReleases := State.takeSetEnd_of_winddown (s := h) walk unstaged rests
      have staged : h.takeSetEnd.drive.staged = none := by rw [taken, State.makeReleases_drive]; exact unstaged
      rw [State.reportSetEnd_of_unstaged staged]
      exact taken
    rw [report] at run
    obtain ⟨placed, waits⟩ := State.makeReleases_goOn (s := h) walk waiting
    have winddown : h.makeReleases.engine.walk = .winddown := by rw [State.makeReleases_engine (s := h) walk waiting]; exact walk
    obtain ⟨bay, drive, -⟩ := State.goOn_of_winddown winddown
    obtain ⟨claim, unit, idle⟩ := h.bay.releaseAll_spec h.lineSettle
    refine ⟨_, run, ?_⟩
    rw [bay, drive, State.makeReleases_bay, State.makeReleases_drive]
    refine ⟨claim, unit, idle, rfl, rfl, rfl, rfl, rfl, rfl, rfl, placed, fun full => ?_⟩
    obtain ⟨queue, walks, -, waits⟩ := waits full
    exact ⟨queue, walks, waits⟩
  · have taken : h.takeSetEnd = h.reachRest := State.takeSetEnd_of_pageWait (s := h) walk rest
    have report : s.reportSetEnd = h.reachRest := by
      have staged : h.takeSetEnd.drive.staged = none := by rw [taken, State.reachRest_drive]; exact unstaged
      rw [State.reportSetEnd_of_unstaged staged]
      exact taken
    rw [report, State.goOn_of_none _ (by rw [State.reachRest_engine]; exact waiting)] at run
    refine ⟨_, run, ?_⟩
    rw [State.reachRest_engine, State.reachRest_bay, State.reachRest_drive, State.reachRest_acq, State.reachRest_queue]
    exact ⟨rfl, rfl, rfl, rfl, rfl, ⟨rfl, rfl, rfl, rfl, rfl, rfl, rfl, rfl⟩, rfl, rfl⟩

/-! ### O43 -/

/-- The row of the relay count's end. -/
theorem exec_relayCountExpiry (count : s.drive.relayCount = 0) (waits : s.drive.rangeChange = .relayWait ∨ s.drive.loadRequest = true) :
    exec .relayCountExpiry s = .next s.takeRelayExpiry := by
  change Host.Outcome.next (s.relayCountExpiry.getD s) = _
  rcases waits with change | request
  · simp [State.relayCountExpiry, count, change]
  · simp [State.relayCountExpiry, count, request]

theorem State.takeRelayExpiry_of_notDeferred (notDeferred : ¬ (s.engine.walk = .pageWait ∧ s.engine.rest = .deferred)) :
    s.takeRelayExpiry = s.setDrive s.drive.relayExpiry := by
  have other : (s.engine.walk == .pageWait && s.engine.rest == .deferred) = false := by simpa using notDeferred
  exact if_neg (by rw [show ((s.setDrive s.drive.relayExpiry).engine.walk == .pageWait
    && (s.setDrive s.drive.relayExpiry).engine.rest == .deferred) = false from other]; decide)

/-- The drive unit at the end of a range change, before a set that waits goes on (R78). -/
def Drive.changed (d : Drive) : Drive :=
  { d with loadEnable := true, loadRequest := false, rangeChange := .none, rangeChanged := true }

theorem Drive.relayExpiry_of_change {d : Drive} (change : d.rangeChange = .relayWait) :
    d.relayExpiry = d.changed.releaseStaged := by
  unfold Drive.relayExpiry; rw [change]; rfl

theorem Drive.relayExpiry_of_still {d : Drive} (still : d.rangeChange = .none) :
    d.relayExpiry = { d with loadEnable := d.loadEnable || d.loadRequest, loadRequest := false } := by
  unfold Drive.relayExpiry
  split
  next change => rw [still] at change; exact absurd change (by decide)
  next => rfl

/-- The comparison of PAGE_WAIT (R40, R73, R79, R83). -/
theorem State.comparesRest_compareRest (s : State) : s.ComparesRest s.compareRest := by
  have hold : s.compareRest.drive.dropHold = s.drive.dropHold ∧ s.compareRest.drive.lineSetpoint = s.drive.lineSetpoint := by
    unfold State.compareRest
    (repeat' split) <;> simp only [State.setEngine_drive, State.setDrive_drive, Drive.stage_lineSetpoint, and_self, and_true]
    unfold Drive.stage Drive.proceed
    dsimp only
    (repeat' split) <;> rfl
  refine ⟨s.standsIn_compareRest, hold.1, hold.2, fun running => ?_, fun still low => ?_, fun still above => ?_⟩
  · rw [State.compareRest_of_change s running]; exact ⟨rfl, rfl⟩
  · rw [State.compareRest_of_reached s still low]; exact ⟨rfl, rfl⟩
  · rw [State.compareRest_of_above s still above]
    refine ⟨rfl, fun held => Drive.stage_plain_of_dropHold _ _ held, fun free idle => ?_⟩
    simp only [State.setEngine_drive, State.setDrive_drive]
    rw [Drive.stage_plain_of_free _ _ free idle]
    exact ⟨rfl, rfl, rfl, still⟩

/-- Settles O43, stage by stage. -/
theorem rangeChangeStages : Obligations.RangeChangeStages := by
  intro s u after
  subst after
  refine ⟨fun target down => ?_, fun change count notDeferred => ?_, fun change count walk rest unstaged => ?_,
    fun still count request notDeferred => ?_⟩
  · change Host.Outcome.next (s.rangeDownEnd.getD s) = _
    simp [State.rangeDownEnd, down, Drive.endDown, Config.relayWait]
  · have run := exec_relayCountExpiry count (.inl change)
    rw [State.takeRelayExpiry_of_notDeferred notDeferred, Drive.relayExpiry_of_change change] at run
    refine ⟨fun unstaged => ?_, fun g range staged steady uncoupled => ?_⟩
    · rw [run, Drive.releaseStaged_of_none (d := s.drive.changed) unstaged]; rfl
    · have free : s.drive.changed.busy = false := (Drive.busy_iff _).2 ⟨steady, rfl, uncoupled⟩
      have goes : s.drive.changed.releaseStaged = s.drive.changed.proceed g range := by
        unfold Drive.releaseStaged
        rw [show s.drive.changed.staged = some ⟨g, range⟩ from staged]
        simp [free]
      refine ⟨_, run, ?_⟩
      simp only [State.setDrive_drive, goes]
      have takes (same : range = none ∨ range = some s.drive.range) :
          s.drive.changed.proceed g range = s.drive.changed.takeForce g := by
        rcases same with rfl | rfl
        · rfl
        · exact if_pos rfl
      have begins (other : LoadRange) (is : range = some other) (differs : other ≠ s.drive.range) :
          s.drive.changed.proceed g range
            = { s.drive.changed.beginRangeChange other g.slope with staged := some ⟨g, range⟩ } := by
        subst is; exact if_neg differs
      have either : (range = none ∨ range = some s.drive.range) ∨ ∃ other, range = some other ∧ other ≠ s.drive.range := by
        cases range with
        | none => exact .inl (.inl rfl)
        | some other =>
          by_cases same : other = s.drive.range
          · exact .inl (.inr (by rw [same]))
          · exact .inr ⟨other, rfl, same⟩
      have common : s.drive.changed.StandsIn (s.drive.changed.proceed g range)
          ∧ (s.drive.changed.proceed g range).rangeChanged = true := by
        rcases either with same | ⟨other, is, differs⟩
        · rw [takes same]; exact ⟨⟨rfl, rfl, rfl, rfl, rfl, rfl, rfl, rfl⟩, rfl⟩
        · rw [begins other is differs]; exact ⟨⟨rfl, rfl, rfl, rfl, rfl, rfl, rfl, rfl⟩, rfl⟩
      refine ⟨common.1, common.2, fun same => ?_, fun other is differs => ?_, rfl, rfl, rfl, rfl⟩
      · rw [takes same]; exact ⟨rfl, rfl, rfl, rfl⟩
      · rw [begins other is differs, is]; exact ⟨rfl, rfl, rfl, rfl⟩
  · have run := exec_relayCountExpiry count (.inl change)
    let v : State := s.setDrive s.drive.changed
    have taken : s.takeRelayExpiry = v.compareRest := by
      unfold State.takeRelayExpiry
      rw [Drive.relayExpiry_of_change change, Drive.releaseStaged_of_none (d := s.drive.changed) unstaged]
      exact if_pos (by rw [show (s.setDrive s.drive.changed).engine = s.engine from rfl, walk, rest]; rfl)
    rw [taken] at run
    obtain ⟨stage, engine⟩ := v.compareRest_engine
    refine ⟨_, run, v.comparesRest_compareRest, by rw [engine]; rfl, ?_⟩
    rw [State.compareRest_bay, State.compareRest_acq, State.compareRest_queue]
    exact ⟨rfl, rfl, rfl⟩
  · rw [exec_relayCountExpiry count (.inr request), State.takeRelayExpiry_of_notDeferred notDeferred]
    rw [Drive.relayExpiry_of_still still, request, Bool.or_true]

/-! ### O50 -/

/-- Settles O50, by the row. -/
theorem resetPulseEndBeginsRegulationWait : Obligations.ResetPulseEndBeginsRegulationWait := by
  intro s c r inStep stage pulse latest
  obtain ⟨walk, step, waiting, phase⟩ := inStep
  have run : exec .resetPulseEnd s = .next (s.setDrive s.drive.endResetPulse).beginRegulationWait := by
    change Host.Outcome.next (s.resetPulseEnd.getD s) = _
    have stepping : s.engine.stepping = true := State.StepIn.stepping ⟨walk, step, waiting, phase⟩
    simp [State.resetPulseEnd, pulse, stepping, step, stage]
  refine ⟨_, { c with stage := .regulationWait }, run, ⟨walk, ?_, waiting, phase⟩, rfl, ?_, ?_, rfl, rfl⟩
  · rw [State.beginRegulationWait_engine]
    simp [step]
  · rw [State.beginRegulationWait_drive, State.setDrive_drive, Drive.endResetPulse_eq, pulse]; simp
  · rw [State.beginRegulationWait_acq]
    simp [Acquisition.armRegulation, RunDetector.next, Acquisition.averageAtLeast, latest]

end

end Sys2Proof.Machine


/-! ## Steps that end in EXIT -/

namespace Sys2Proof.Machine

/-! ### Offers after BODY -/

section
variable {s u : State}

/-- A finished capture offers nothing more (R106). -/
theorem State.finishedCapture_of_finished (h : u.acq.capture = s.finishedCapture) : u.finishedCapture = s.finishedCapture := by
  rw [← h]
  exact State.finishedCapture_of_not_collecting u (by rw [h]; exact s.finishedCapture_state_ne)

theorem State.finishedCapture_congr (queue : u.queue = s.queue) (capture : u.acq.capture = s.acq.capture) :
    u.finishedCapture = s.finishedCapture := by
  unfold State.finishedCapture; rw [queue, capture]

/-- The end of BODY offers the last block of a TERMINAL capture, and the step's end no other (R106). -/
theorem State.endBody_atEnd (s : State) : s.endBody.queueAtEnd = s.queueAtEnd ∧ s.endBody.finishedCapture = s.finishedCapture := by
  by_cases terminal : s.acq.capture.mode = .terminal
  · have capture : s.endBody.acq.capture = s.finishedCapture := by
      rw [State.endBody_acq]; simp [State.bodyEndCapture, terminal]
    have queue : s.endBody.queue = s.queueAtEnd := by rw [State.endBody_queue, if_pos terminal]
    refine ⟨?_, State.finishedCapture_of_finished capture⟩
    rw [State.queueAtEnd_of_not_collecting _ (by rw [capture]; exact s.finishedCapture_state_ne), queue]
  · have capture : s.endBody.acq.capture = s.acq.capture := by
      rw [State.endBody_acq]; simp [State.bodyEndCapture, terminal]
    have queue : s.endBody.queue = s.queue := by rw [State.endBody_queue, if_neg terminal]
    exact ⟨State.queueAtEnd_congr queue capture (by rw [State.endBody_engine]; simp), State.finishedCapture_congr queue capture⟩

/-- In `e` the STEP_RESULT `r` of a step that ended in `s` waits to be placed (R30, R106, R181). -/
def State.OffersResult (s e : State) (r : StepResult) : Prop :=
  e.engine.waiting = some (.stepResult r) ∧ e.engine.phase = .outputStall ∧ e.queue = s.queueAtEnd
    ∧ r.posted = s.finishedCapture.posted ∧ r.dropped = s.finishedCapture.dropped

theorem State.OffersResult.offered {e : State} {r : StepResult} (h : s.OffersResult e r) : s.Offered e.goOn r := by
  obtain ⟨waiting, phase, queue, posted, dropped⟩ := h
  obtain ⟨postedEq, droppedEq⟩ := s.finishedCapture_counts
  refine ⟨?_, posted.trans postedEq, dropped.trans droppedEq⟩
  by_cases free : s.queueAtEnd.length < 32
  · obtain ⟨more, eq⟩ := State.goOn_queue waiting (by rwa [queue])
    exact .inl ⟨free, more, by rw [eq, queue]⟩
  · have full : 32 ≤ s.queueAtEnd.length := Nat.not_lt.1 free
    rw [State.goOn_of_full _ (by rwa [queue])]
    exact .inr ⟨full, queue, waiting, phase⟩

theorem State.OffersResult.setDrive {e : State} {r : StepResult} (h : s.OffersResult e r) (d : Drive) :
    s.OffersResult (e.setDrive d) r := h

/-- The offer of a STEP_RESULT, read off what capture leaves at the end (R30, R106). -/
theorem State.offersResult_endStep (cause : EndCause) (vs : List Verdict) {c : StepContext} (step : u.engine.step = some c)
    (queue : u.queueAtEnd = s.queueAtEnd) (capture : u.finishedCapture = s.finishedCapture) :
    s.OffersResult (u.endStep cause vs) (u.endResult cause vs c) := by
  refine ⟨u.endStep_waiting cause vs c step, by rw [u.endStep_engine cause vs c step],
    (u.endStep_queue cause vs c step).trans queue, ?_, ?_⟩
  · rw [← capture]; rfl
  · rw [← capture]; rfl

/-- With the queue full at its end, the step's end is all that happens (R30). -/
theorem State.endStep_goOn_of_full (cause : EndCause) (vs : List Verdict) {c : StepContext} (step : u.engine.step = some c)
    (queue : u.queueAtEnd = s.queueAtEnd) (full : 32 ≤ s.queueAtEnd.length) :
    (u.endStep cause vs).goOn = u.endStep cause vs :=
  State.goOn_of_full _ (by rw [u.endStep_queue _ _ _ step, queue]; exact full)

end

/-! ### The exit level -/

section
variable {u : State} {c : StepContext}

/-- Neither DENIED nor OVER_BAY is among contributions that rank below them, nor among those of an end in EXIT. -/
def Admitted (vs : List Verdict) : Prop := Verdict.denied ∉ vs ∧ Verdict.overBay ∉ vs

theorem admitted_of_rank {vs : List Verdict} (h : ∀ v ∈ vs, 3 < v.rank) : Admitted vs :=
  ⟨fun mem => absurd (h _ mem) (by decide), fun mem => absurd (h _ mem) (by decide)⟩

theorem Admitted.append {vs ws : List Verdict} (h : Admitted vs) (k : Admitted ws) : Admitted (vs ++ ws) :=
  ⟨by simpa using ⟨h.1, k.1⟩, by simpa using ⟨h.2, k.2⟩⟩

/-- The exit level of a step admitted, with no range change: the level in the drive unit of its end (R28, R75, R136). -/
theorem State.endLevel_of_admitted {cause : EndCause} {vs : List Verdict} (admitted : Admitted (c.contributions ++ vs))
    (still : u.drive.rangeChange = .none) : u.endLevel cause vs c = (u.endDrive cause c).level / 1000 := by
  obtain ⟨denied, exceeds⟩ := admitted
  unfold State.endLevel
  have unlisted : ((c.contributions ++ vs).contains .denied || (c.contributions ++ vs).contains .overBay) = false := by
    simpa using ⟨by simpa using denied, by simpa using exceeds⟩
  rw [if_neg (by rw [unlisted]; exact Bool.false_ne_true), if_neg (by simp [still])]

/-- A trip on the sample of a normal end finds a steady-load step dropped already, and any other at its level (R136). -/
theorem State.endDrive_level (u : State) (c : StepContext) : (u.endDrive .normal c).level =
    if u.acq.detectors.tripDue && c.record.kind.steady then 0 else u.drive.level := by
  unfold State.endDrive State.tripMeetsEnd
  cases u.acq.detectors.tripDue <;> cases c.record.kind.steady <;> simp [Drive.tripDrop_eq, Drive.endResetPulse_eq]

end

/-! ### The end in EXIT -/

/-- What the STEP_RESULT of a step that ends in EXIT says of its context (R29, R30, R136). -/
structure StepResult.Reports (r : StepResult) (u : State) (c : StepContext) (vs : List Verdict) : Prop where
  phase : r.endPhase = .exiting
  verdict : r.verdict = verdictOf (c.contributions ++ vs)
  level : u.drive.rangeChange = .none → Admitted (c.contributions ++ vs) →
    r.exitLevel = if u.acq.detectors.tripDue && c.record.kind.steady then 0 else u.drive.level / 1000
  count : u.acq.window.live = false → r.windowCount = c.windowCount
  checks : r.checks = c.checks
  figures : r.figures = c.figures
  restarts : r.restarts = u.acq.window.restarts
  disturbed : r.disturbed = u.acq.window.disturbed
  cycles : r.cycles = u.drive.completed
  unit : r.censusHeld = true ↔ (u.endBay .normal vs c).ownUnit ≠ .released

theorem State.reports_endResult {u : State} {c : StepContext} (phase : u.engine.phase = .exiting)
    (vs : List Verdict) : (u.endResult .normal vs c).Reports u c vs where
  phase := phase
  verdict := rfl
  level still admitted := by
    change u.endLevel .normal vs c = _
    rw [State.endLevel_of_admitted admitted still, State.endDrive_level]
    split <;> rfl
  count closed := by
    change (u.endContext vs c).windowCount = _
    simp [State.endContext, closed]
  checks := rfl
  figures := rfl
  restarts := rfl
  disturbed := rfl
  cycles := rfl
  unit := OwnUnit.asserted_iff _

/-- A GATE unit goes with the step's end (R64). -/
theorem StepResult.Reports.released {r : StepResult} {u : State} {c : StepContext} {vs : List Verdict} (reports : r.Reports u c vs)
    (gate : u.bay.ownUnit = .gate) : r.censusHeld = false := by
  rw [← Bool.not_eq_true, reports.unit, State.endBay_unit]
  simp [gate]

/-- A TRIP unit goes only with the PASS of a RECOVER step (R65, R155). -/
theorem StepResult.Reports.trip_iff {r : StepResult} {u : State} {c : StepContext} {vs : List Verdict} (reports : r.Reports u c vs)
    (trip : u.bay.ownUnit = .trip) : r.censusHeld = true ↔ ¬ (c.record.kind = .recover ∧ r.verdict = .pass) := by
  rw [reports.unit, State.endBay_unit, ← reports.verdict]
  simp [trip]

/-- A step ends in EXIT: its STEP_RESULT. -/
theorem State.ends_in_exit {s u : State} {c : StepContext} (step : u.engine.step = some c) (phase : u.engine.phase = .exiting)
    (queue : u.queueAtEnd = s.queueAtEnd) (capture : u.finishedCapture = s.finishedCapture)
    (vs : List Verdict) : s.OffersResult (u.endStep .normal vs) (u.endResult .normal vs c)
      ∧ (u.endResult .normal vs c).Reports u c vs :=
  ⟨State.offersResult_endStep .normal vs step queue capture, State.reports_endResult phase vs⟩

theorem State.endBody_endBay (u : State) (cause : EndCause) (vs : List Verdict) (c : StepContext) :
    u.endBody.endBay cause vs c = u.endBay cause vs c := by
  unfold State.endBay
  rw [State.endBody_bay, State.lineSettle_of_store (u.endBody_store)]

/-- BODY ends and the step with it: its STEP_RESULT (R27, R106, R128). -/
theorem State.ends_with_body {s u : State} {c : StepContext} (step : u.engine.step = some c) (queue : u.queue = s.queue) (capture : u.acq.capture = s.acq.capture) (tag : u.engine.record.tag = s.engine.record.tag)
    (vs : List Verdict) : ∃ r, s.OffersResult (u.endBody.endStep .normal vs) r ∧ r.Reports u c vs := by
  obtain ⟨queueEnd, captureEnd⟩ := u.endBody_atEnd
  have engine := u.endBody_engine
  have acq := u.endBody_acq
  obtain ⟨offered, reports⟩ := State.ends_in_exit (s := s) (u := u.endBody) (c := c) (by rw [engine]; exact step)
    (by rw [engine]) (queueEnd.trans (State.queueAtEnd_congr queue capture tag))
    (captureEnd.trans (State.finishedCapture_congr queue capture)) vs
  refine ⟨_, offered, reports.phase, reports.verdict, ?_, ?_, reports.checks, reports.figures, ?_, ?_, ?_, ?_⟩
  · have level := reports.level
    rwa [State.endBody_drive, acq] at level
  · have count := reports.count
    rwa [acq] at count
  · rw [reports.restarts, acq]
  · rw [reports.disturbed, acq]
  · rw [reports.cycles, State.endBody_drive]
  · rw [reports.unit, State.endBody_endBay]

/-! ### Windows that are evaluated at the end -/

/-- The context of a step whose window has been evaluated (R99, R100). -/
def State.evaluatedContext (s : State) (c : StepContext) : StepContext :=
  { c with
    checks := c.record.checks.map s.acq.window.evaluate
    windowCount := s.acq.window.count
    contributions := c.contributions
      ++ if (c.record.checks.map s.acq.window.evaluate).all (·.pass) then [] else [.limit] }

theorem State.evaluateWindow_step {s : State} {c : StepContext} (step : s.engine.step = some c) :
    s.evaluateWindow.engine = { s.engine with step := some (s.evaluatedContext c) } := by
  rw [State.evaluateWindow_engine, step]
  simp [State.evaluatedContext, State.checkResults, Engine.record_of_step step]

theorem State.evaluateWindow_closed (s : State) : s.evaluateWindow.acq.window.live = false := by
  rw [State.evaluateWindow_acq]; rfl

/-- LIMIT for a failing check and PASS otherwise (R100). -/
theorem verdictOf_limit (pass : Bool) : verdictOf (if pass then [] else [.limit]) = if pass then .pass else .limit := by
  cases pass <;> rfl

theorem admitted_limit (pass : Bool) : Admitted (if pass then [] else [.limit]) := by
  cases pass <;> exact ⟨by decide, by decide⟩

end Sys2Proof.Machine


/-! ## Steady-load steps and pulses (O42, O46) -/

namespace Sys2Proof.Machine

/-! ### Checks and verdicts -/

theorem Window.find_of_find? {w : Window} {ch : CheckChannel} {acc : Accumulator}
    (h : w.channels.find? (fun a => a.channel == ch) = some acc) : w.find ch = acc := by
  simp [Window.find, h]

/-- With a count of 0 there is no statistic (R125). -/
theorem Window.statistic_of_empty {w : Window} (empty : w.count = 0) (ch : CheckChannel) (st : Statistic) :
    w.statistic ch st = none := if_pos empty

theorem Window.statistic_of_extremes {w : Window} {lo hi : Int} (count : 0 < w.count) (ch : CheckChannel) (st : Statistic)
    (extremes : (w.find ch).extremes = some (lo, hi)) :
    w.statistic ch st = some (match st with | .mean => (w.find ch).sum / w.count | .minimum => lo | .maximum => hi) := by
  unfold Window.statistic
  rw [if_neg (Nat.pos_iff_ne_zero.1 count), extremes]
  cases st <;> rfl

/-- A window judges a check over the accumulator of its channel (R100, R125). -/
theorem Window.judges_of_find? {w : Window} {check : Check} {acc : Accumulator}
    (h : w.channels.find? (fun a => a.channel == check.channel) = some acc) : w.Judges check acc := by
  have find := Window.find_of_find? h
  refine ⟨fun empty => ?_, fun count some => ?_⟩
  · have statistic := Window.statistic_of_empty empty check.channel check.statistic
    exact ⟨statistic, by rw [Window.evaluate, statistic, find]⟩
  · obtain ⟨⟨lo, hi⟩, extremes⟩ := Option.isSome_iff_exists.1 some
    have statistic := Window.statistic_of_extremes count check.channel check.statistic (by rw [find]; exact extremes)
    obtain ⟨v, value⟩ : ∃ v, v = (match check.statistic with
        | .mean => (w.find check.channel).sum / w.count | .minimum => lo | .maximum => hi) := ⟨_, rfl⟩
    have evaluate : w.evaluate check =
        ⟨true, decide (check.low ≤ v ∧ v ≤ check.high), (w.find check.channel).mark, v⟩ := by
      rw [Window.evaluate, statistic, value]
    rw [← value] at statistic
    refine ⟨_, ?_, statistic, by rw [evaluate], by rw [evaluate], by rw [evaluate, find], by rw [evaluate]; simp⟩
    generalize check.statistic = statistic at value
    cases statistic with
    | minimum => exact ⟨hi, by rw [value]; exact extremes⟩
    | maximum => exact ⟨lo, by rw [value]; exact extremes⟩
    | mean =>
      rw [value, find]
      have pos : (0 : Int) < w.count := by exact_mod_cast count
      exact ⟨Int.ediv_mul_le _ (by omega), by
        have := Int.lt_ediv_add_one_mul_self acc.sum pos
        exact this⟩

/-- The verdict is the highest-ranking contribution (R29). -/
theorem rank_verdictOf_le {vs : List Verdict} {v : Verdict} (mem : v ∈ vs) : (verdictOf vs).rank ≤ v.rank := by
  induction vs using List.reverseRecOn with
  | nil => simp at mem
  | append_singleton vs w ih =>
    rw [verdictOf_concat]
    rcases List.mem_append.1 mem with earlier | last
    · have := ih earlier
      split <;> omega
    · obtain rfl : v = w := by simpa using last
      split <;> omega

/-- A step with a contribution has it, or one above it, as its verdict (R29). -/
theorem verdictOf_mem_of_mem {vs : List Verdict} {v : Verdict} (mem : v ∈ vs) : verdictOf vs ∈ vs := by
  rcases verdictOf_mem vs with pass | found
  · have rank := rank_verdictOf_le mem
    rw [pass] at rank
    have last : v = .pass := by cases v <;> simp_all [Verdict.rank]
    rw [pass, ← last]; exact mem
  · exact found

/-! ### HOLD and RAMP -/

section
variable {s : State} {c : StepContext}

theorem exec_windowDone {p : Phase} (inStep : s.StepIn p c) (mode : s.acq.window.mode = .counted)
    (opened : s.acq.window.state = .opened) (complete : s.acq.window.length ≤ s.acq.window.count) :
    exec .windowDone s = .next s.windowDone.goOn := by
  change Host.Outcome.next (s.windowEvent.getD s) = _
  simp [State.windowEvent, inStep.stepping, Window.complete, mode, opened, complete]

/-- The result of a step whose window has been evaluated (R99, R100, R130). -/
def StepResult.Evaluated (r : StepResult) (u : State) (c : StepContext) : Prop :=
  r.endPhase = .exiting
    ∧ r.exitLevel = (if u.acq.detectors.tripDue && c.record.kind.steady then 0 else u.drive.level / 1000)
    ∧ r.windowCount = u.acq.window.count ∧ r.restarts = u.acq.window.restarts ∧ r.disturbed = u.acq.window.disturbed
    ∧ r.checks = c.record.checks.map u.acq.window.evaluate
    ∧ r.verdict = (if r.checks.all (·.pass) then .pass else .limit) ∧ r.cycles = u.drive.completed

theorem StepResult.Reports.evaluated {u : State} {r : StepResult}
    (reports : r.Reports u.evaluateWindow (u.evaluatedContext c) []) (contributions : c.contributions = [])
    (still : u.drive.rangeChange = .none) : r.Evaluated u c := by
  have listed : (u.evaluatedContext c).contributions ++ [] =
      if (c.record.checks.map u.acq.window.evaluate).all (·.pass) then [] else [.limit] := by
    simp [State.evaluatedContext, contributions]
  have level := reports.level still (by rw [listed]; exact admitted_limit _)
  have verdict := reports.verdict
  rw [listed, verdictOf_limit] at verdict
  refine ⟨reports.phase, ?_, reports.count u.evaluateWindow_closed, ?_, ?_, reports.checks, ?_, reports.cycles⟩
  · rw [level, State.evaluateWindow_acq, State.evaluateWindow_drive]; rfl
  · rw [reports.restarts, State.evaluateWindow_acq]
  · rw [reports.disturbed, State.evaluateWindow_acq]
  · rw [verdict, reports.checks]; rfl

theorem State.evaluateWindow_tag {u : State} (step : u.engine.step = some c) :
    u.evaluateWindow.engine.record.tag = u.engine.record.tag := by
  rw [State.evaluateWindow_step step, Engine.record_of_step (c := u.evaluatedContext c) rfl, Engine.record_of_step step]
  rfl

/-- The window of a step is evaluated, and BODY and the step end (R128, R130). -/
theorem State.ends_evaluated {s u : State} (step : u.engine.step = some c) (contributions : c.contributions = [])
    (still : u.drive.rangeChange = .none) (queue : u.queue = s.queue) (capture : u.acq.capture = s.acq.capture)
    (tag : u.engine.record.tag = s.engine.record.tag) :
    ∃ r, s.OffersResult (u.evaluateWindow.endBody.endStep .normal []) r ∧ r.Evaluated u c := by
  obtain ⟨r, offers, reports⟩ := State.ends_with_body (s := s) (u := u.evaluateWindow)
    (by rw [State.evaluateWindow_step step]) (by rw [State.evaluateWindow_queue]; exact queue)
    (by rw [State.evaluateWindow_acq]; exact capture) ((State.evaluateWindow_tag step).trans tag) []
  exact ⟨r, offers, reports.evaluated contributions still⟩

theorem State.windowDone_of_hold {iSet : Nat} (step : s.engine.step = some c) (body : c.record.body = .hold iSet) :
    s.windowDone = s.evaluateWindow.endBody.endStep .normal [] := by
  unfold State.windowDone
  dsimp only
  rw [State.evaluateWindow_step step, Engine.record_of_step (c := s.evaluatedContext c) rfl,
    show (s.evaluatedContext c).record.body = _ from body]

/-- The end of a set in a step's BODY, with the drive unit held (R72). -/
theorem State.takeSetEnd_of_body (inStep : s.StepIn .body c) : s.takeSetEnd = s.setEndInBody := by
  unfold State.takeSetEnd
  rw [inStep.1, inStep.2.2.2]
  exact if_pos inStep.stepping

/-- The end of a set in a step's EXIT. -/
theorem State.takeSetEnd_of_exit (inStep : s.StepIn .exiting c) : s.takeSetEnd = s.setEndInExit := by
  unfold State.takeSetEnd
  rw [inStep.1, inStep.2.2.2]
  exact if_pos inStep.stepping

theorem State.StepIn.setDrive {p : Phase} (inStep : s.StepIn p c) (d : Drive) : (s.setDrive d).StepIn p c := inStep

theorem State.setEndInBody_of_ramp {iFrom iTo slope : Nat} (step : s.engine.step = some c)
    (body : c.record.body = .ramp iFrom iTo slope) : s.setEndInBody = s.evaluateWindow.endBody.endStep .normal [] := by
  unfold State.setEndInBody
  rw [Engine.record_of_step step, body]; rfl

/-- Settles O46, by the evaluation of the window and the end in EXIT. -/
theorem steadyStepsEnd : Obligations.SteadyStepsEnd := by
  refine ⟨fun w check acc found => Window.judges_of_find? found,
    fun vs => ⟨fun empty => by rw [empty]; rfl, fun v mem => ⟨verdictOf_mem_of_mem mem, rank_verdictOf_le mem⟩⟩,
    fun s c inStep contributions still => ⟨fun iSet body mode opened complete => ?_, fun iFrom iTo slope body ended => ?_⟩⟩
  · obtain ⟨walk, step, waiting, phase⟩ := inStep
    have run := exec_windowDone ⟨walk, step, waiting, phase⟩ mode opened complete
    rw [State.windowDone_of_hold step body] at run
    obtain ⟨r, offers, exit, level, count, restarts, disturbed, checks, verdict, -⟩ :=
      State.ends_evaluated (s := s) step contributions still rfl rfl rfl
    have steady : c.record.kind.steady = true := by rw [StepRecord.kind, body]; rfl
    rw [steady, Bool.and_true] at level
    exact ⟨_, r, run, offers.offered, exit, level, count, restarts, disturbed, checks, verdict⟩
  · have run := exec_generatorSetEnd ended
    let u : State := s.setDrive s.drive.holdLevel
    have taken : u.takeSetEnd = u.evaluateWindow.endBody.endStep .normal [] :=
      (State.takeSetEnd_of_body (s := u) inStep).trans (State.setEndInBody_of_ramp inStep.2.1 body)
    obtain ⟨r, offers, exit, level, count, -, -, checks, verdict, -⟩ :=
      State.ends_evaluated (s := s) (u := u) inStep.2.1 contributions still rfl rfl rfl
    have steady : c.record.kind.steady = true := by rw [StepRecord.kind, body]; rfl
    rw [steady, Bool.and_true] at level
    have report : s.reportSetEnd = u.takeSetEnd.setDrive u.takeSetEnd.drive.releaseStaged := rfl
    rw [report, taken] at run
    exact ⟨_, r, run, (offers.setDrive _).offered, exit, level, count, checks, verdict⟩

end

end Sys2Proof.Machine


/-! ## Pulse cycles and trip waits (O42, O48) -/

namespace Sys2Proof.Machine

section
variable {s : State} {c : StepContext}

/-! ### O42 -/

theorem exec_pulseCycleEnd (ended : s.drive.cycleEnded = true) : exec .pulseCycleEnd s = .next s.takeCycleEnd.goOn := by
  change Host.Outcome.next (s.pulseCycleEnd.getD s) = _
  simp [State.pulseCycleEnd, ended]

section
variable {d : Drive} {lo hi period high cycles : Nat}

theorem Drive.lastCycle_of_pulse (active : d.active = .pulse lo hi period high cycles) :
    d.lastCycle = (d.stopPending || (cycles != 0 && decide (cycles ≤ d.completed + 1))) := by
  unfold Drive.lastCycle; rw [active]

/-- A cycle that is not the last is counted (R74). -/
theorem Drive.endCycle_of_going (active : d.active = .pulse lo hi period high cycles) (going : d.lastCycle = false)
    (unstaged : d.staged = none) :
    d.endCycle = { d with completed := min (d.completed + 1) 65535, cycleEnded := false } := by
  simp [Drive.endCycle, active, going, unstaged, Config.cyclesCeiling]

/-- The last cycle is counted, and leaves the low level (R74). -/
theorem Drive.endCycle_of_last (active : d.active = .pulse lo hi period high cycles) (last : d.lastCycle = true) :
    d.endCycle.level = lo * 1000 ∧ d.endCycle.completed = min (d.completed + 1) 65535
      ∧ d.endCycle.rangeChange = d.rangeChange := by
  simp [Drive.endCycle, active, last, Drive.holdLevel, Config.cyclesCeiling]

end

/-- The end of a PULSE step's last cycle, in BODY or in the EXIT that waits for it (R131, R132). -/
theorem State.ends_pulse {u : State} {p : Phase} (inStep : u.StepIn p c) (phase : p = .body ∨ p = .exiting)
    (kind : c.record.kind = .pulse) (contributions : c.contributions = []) (still : u.drive.rangeChange = .none) :
    ∃ r, u.OffersResult u.takeSetEnd r ∧ r.Evaluated u c := by
  obtain ⟨walk, step, waiting, at_⟩ := inStep
  have record : u.engine.record = c.record := Engine.record_of_step step
  obtain ⟨lo, hi, period, high, cycles, body⟩ : ∃ lo hi period high cycles, c.record.body = .pulse lo hi period high cycles := by
    unfold StepRecord.kind at kind
    cases body : c.record.body <;> rw [body] at kind <;> simp [StepBody.kind] at kind ⊢
  rcases phase with rfl | rfl
  · have taken : u.takeSetEnd = u.evaluateWindow.endBody.endStep .normal [] := by
      rw [State.takeSetEnd_of_body ⟨walk, step, waiting, at_⟩]
      unfold State.setEndInBody
      rw [record, body]; rfl
    rw [taken]
    exact State.ends_evaluated step contributions still rfl rfl rfl
  · have taken : u.takeSetEnd = u.evaluateWindow.endStep .normal [] := by
      rw [State.takeSetEnd_of_exit ⟨walk, step, waiting, at_⟩]
      unfold State.setEndInExit
      rw [record, body]
    obtain ⟨offers, reports⟩ := State.ends_in_exit (s := u) (u := u.evaluateWindow) (c := u.evaluatedContext c)
      (by rw [State.evaluateWindow_step step]) (by rw [State.evaluateWindow_step step]; exact at_)
      (State.queueAtEnd_congr u.evaluateWindow_queue (by rw [State.evaluateWindow_acq]) (State.evaluateWindow_tag step))
      (State.finishedCapture_congr u.evaluateWindow_queue (by rw [State.evaluateWindow_acq])) []
    rw [taken]
    exact ⟨_, offers, reports.evaluated contributions still⟩

theorem exec_pulseStopRequest {l h period w : Nat} (inStep : s.StepIn .body c) (body : c.record.body = .pulse l h period w 0)
    (near : c.timeLeft ≤ period + 1) :
    exec .pulseStopRequest s = .next (s.endBody.setDrive s.drive.stopPulse) := by
  have stepping := inStep.stepping
  obtain ⟨walk, step, waiting, phase⟩ := inStep
  change Host.Outcome.next (s.pulseStopRequest.getD s) = _
  have due : s.stopDue = true := by
    unfold State.stopDue
    rw [step]
    dsimp only
    rw [body]
    simp [stepping, phase, near]
  simp [State.pulseStopRequest, due, State.endBody_drive]

/-- Settles O42, by the cycle's end and the end of the set. -/
theorem pulseCyclesEnd : Obligations.PulseCyclesEnd := by
  intro s lo hi period high cycles active
  have last := Drive.lastCycle_of_pulse active
  refine ⟨fun ended unstaged unstopped more waiting => ?_,
    fun p c inStep phase kind contributions still ended ends => ?_, fun c l h w inStep body near acting => ?_⟩
  · have going : s.drive.lastCycle = false := by
      rw [last, unstopped, Bool.false_or]
      rcases more with rfl | more
      · rfl
      · simp; omega
    rw [exec_pulseCycleEnd ended]
    unfold State.takeCycleEnd
    simp only [going, Bool.false_eq_true, if_false]
    rw [State.goOn_of_none (s.setDrive s.drive.endCycle) waiting, Drive.endCycle_of_going active going unstaged]
  · have final : s.drive.lastCycle = true := by
      rw [last]
      rcases ends with stop | ⟨some, reached⟩
      · simp [stop]
      · simp [some, reached]
    obtain ⟨level, completed, change⟩ := Drive.endCycle_of_last active final
    let u : State := s.setDrive s.drive.endCycle
    obtain ⟨r, offers, exit, exitLevel, count, -, -, checks, verdict, counted⟩ :=
      State.ends_pulse (u := u) inStep phase kind contributions (change.trans still)
    have run := exec_pulseCycleEnd ended
    have taken : s.takeCycleEnd = u.takeSetEnd.setDrive u.takeSetEnd.drive.releaseStaged := by
      unfold State.takeCycleEnd
      simp only [final, if_true]; rfl
    rw [taken] at run
    have same : s.OffersResult u.takeSetEnd r := offers
    refine ⟨_, r, run, (same.setDrive _).offered, exit, ?_, counted.trans completed, count, checks, verdict⟩
    have steady : c.record.kind.steady = true := by rw [kind]; rfl
    rw [exitLevel, steady, Bool.and_true, show u.drive.level = lo * 1000 from level, Nat.mul_div_cancel lo (by decide)]
    rfl
  · have run := exec_pulseStopRequest inStep body near
    obtain ⟨walk, step, waiting, phase⟩ := inStep
    refine ⟨_, run, ?_, ?_, rfl, rfl, fun terminal => ?_, fun other => ?_⟩
    · refine ⟨?_, ?_, ?_, ?_⟩ <;> simp [walk, step, waiting]
    · rw [State.setDrive_drive]
      change s.drive.pulsing = true
      simp [Drive.pulsing, active, acting]
    · refine ⟨?_, ?_⟩
      · rw [State.setDrive_queue, State.endBody_queue, if_pos terminal]
      · rw [State.setDrive_acq, State.endBody_acq]
        simp only [State.bodyEndCapture, terminal, if_true]
        exact s.finishedCapture_state_ne
    · refine ⟨?_, ?_⟩
      · rw [State.setDrive_queue, State.endBody_queue, if_neg other]
      · rw [State.setDrive_acq, State.endBody_acq]
        simp [State.bodyEndCapture, other]

/-! ### O48 -/

/-- The context a trip step's wait leaves when it runs out (R145, R147). -/
def StepContext.waitEnded (c : StepContext) (count : Nat) : StepContext :=
  { c with contributions := c.contributions ++ [.noTrip], windowCount := count, wait := none }

theorem State.endWait_engine (step : s.engine.step = some c) : s.endWait.engine =
    { s.engine with step := some (c.waitEnded s.acq.window.count), phase := .exiting } := by
  simp [State.endWait, StepContext.waitEnded, State.setPhase, step]

theorem State.endWait_acq (s : State) : s.endWait.acq = { s.acq with window := s.acq.window.close } := rfl

theorem State.waitOver_of_wait (inStep : s.StepIn .body c) (wait : c.wait = some 0) : s.waitOver = true := by
  have stepping := inStep.stepping
  obtain ⟨walk, step, waiting, phase⟩ := inStep
  simp [State.waitOver, stepping, phase, step, wait]

/-- The step that stages a set from EXIT or BODY goes on in its phase, with the set in force (R73, R76). -/
theorem State.stageStep_stepIn {p : Phase} (inStep : s.StepIn p c) (g : GenSet) (req : Request) :
    (s.stageStep g req).StepIn p { c with clamped := c.clamped || s.clampFor g req != g } := by
  obtain ⟨walk, step, waiting, phase⟩ := inStep
  refine ⟨?_, ?_, ?_, ?_⟩ <;> simp [walk, step, waiting, phase]

theorem State.stageStep_plain_drive (s : State) (g : GenSet) (hold : s.drive.dropHold = false) (free : s.drive.busy = false) :
    (s.stageStep g .plain).drive = s.drive.takeForce (s.clampFor g .plain) := by
  rw [State.stageStep_drive, Drive.stage_plain_of_free _ _ hold free]

theorem State.clampFor_plain (s : State) (g : GenSet) :
    s.clampFor g .plain = g.clamp (clampLimit s.engine.ratings.iMax s.drive.range) := rfl

/-- The return of a trip step whose wait has run out (R145, R147). -/
theorem State.endWait_returns (inStep : s.StepIn .body c) (hold : s.drive.dropHold = false) (free : s.drive.busy = false)
    (g : GenSet) : ∃ c', (s.endWait.stageStep g .plain).StepIn .exiting c'
      ∧ c'.contributions = c.contributions ++ [.noTrip] ∧ c'.wait = none
      ∧ (s.endWait.stageStep g .plain).acq.window.state = .closed ∧ c'.windowCount = s.acq.window.count
      ∧ (s.endWait.stageStep g .plain).drive
          = s.drive.takeForce (g.clamp (clampLimit s.engine.ratings.iMax s.drive.range))
      ∧ (s.endWait.stageStep g .plain).bay = s.bay ∧ (s.endWait.stageStep g .plain).queue = s.queue := by
  obtain ⟨walk, step, waiting, phase⟩ := inStep
  have engine := State.endWait_engine step
  have ended : s.endWait.StepIn .exiting (c.waitEnded s.acq.window.count) := by
    refine ⟨?_, ?_, ?_, ?_⟩ <;> rw [engine]
    · exact walk
    · exact waiting
  have drive : s.endWait.drive = s.drive := rfl
  refine ⟨_, State.stageStep_stepIn ended g .plain, rfl, rfl, by rw [State.stageStep_acq, State.endWait_acq]; rfl, rfl,
    ?_, by rw [State.stageStep_bay]; rfl, by rw [State.stageStep_queue]; rfl⟩
  rw [State.stageStep_plain_drive _ _ (by rw [drive]; exact hold) (by rw [drive]; exact free), State.clampFor_plain, drive]
  have ratings : s.endWait.engine.ratings = s.engine.ratings := by rw [engine]; rfl
  rw [ratings]

/-- The return of a trip step that no trip has ended ends the step (R145, R147). -/
theorem State.setEndInExit_of_tripStep (step : s.engine.step = some c)
    (kind : c.record.kind = .tripSearch ∨ c.record.kind = .tripTime) (noTrip : c.figures.trip = none) :
    s.setEndInExit = s.endStep .normal [] := by
  unfold State.setEndInExit
  rw [Engine.record_of_step step, step]
  unfold StepRecord.kind at kind
  cases body : c.record.body with
  | tripSearch => simp [noTrip]
  | tripTime => simp [noTrip]
  | _ => simp [body, StepBody.kind] at kind

/-- A set that goes on leaves the level, the enables and the relay alone (R73, R78). -/
theorem Drive.standsIn_releaseStaged (d : Drive) : d.StandsIn d.releaseStaged := by
  unfold Drive.releaseStaged Drive.proceed
  (repeat' split) <;> exact ⟨rfl, rfl, rfl, rfl, rfl, rfl, rfl, rfl⟩

theorem exec_ceilingHoldEnd (inStep : s.StepIn .body c) (wait : c.wait = some 0) (kind : c.record.kind = .tripSearch) :
    exec .ceilingHoldEnd s = .next s.endWait.stageReturn := by
  change Host.Outcome.next (s.ceilingHoldEnd.getD s) = _
  have kind : s.engine.kind = .tripSearch := by rw [Engine.kind, Engine.record_of_step inStep.2.1, kind]
  simp [State.ceilingHoldEnd, State.waitOver_of_wait inStep wait, kind]

theorem exec_tripWaitEnd (inStep : s.StepIn .body c) (wait : c.wait = some 0) (kind : c.record.kind = .tripTime) :
    exec .tripWaitEnd s = .next (s.endWait.stageStep (GenSet.levelAt c.record.body.start) .plain) := by
  have record : s.endWait.engine.record = c.record := by
    rw [Engine.record_of_step (c := c.waitEnded s.acq.window.count) (by rw [State.endWait_engine inStep.2.1])]; rfl
  change Host.Outcome.next (s.tripWaitEnd.getD s) = _
  have kind : s.engine.kind = .tripTime := by rw [Engine.kind, Engine.record_of_step inStep.2.1, kind]
  have starts : s.engine.record.body.start = c.record.body.start := by rw [Engine.record_of_step inStep.2.1]
  simp only [State.tripWaitEnd, State.waitOver_of_wait inStep wait, kind, beq_self_eq_true, Bool.and_self, if_true,
    Option.getD_some, starts]

/-- Settles O48, by the waits' ends and the ends of the sets. -/
theorem tripWaitsEnd : Obligations.TripWaitsEnd := by
  refine fun s c => ⟨fun inStep wait hold free => ⟨fun iFrom slope iCeiling detect threshold lo hi body => ?_,
    fun iPre iOver detect threshold tMin tMax body => ?_⟩, fun inStep kind ended => ?_,
    fun inStep kind noTrip contributions ended still => ?_⟩
  · have run := exec_ceilingHoldEnd inStep wait (by rw [StepRecord.kind, body]; rfl)
    have engine := State.endWait_engine inStep.2.1
    have returns : s.endWait.stageReturn = s.endWait.stageStep (.ramp none iFrom s.engine.safeSlope) .plain := by
      unfold State.stageReturn
      have starts : s.endWait.engine.record.body.start = iFrom := by
        rw [Engine.record_of_step (c := c.waitEnded s.acq.window.count) (by rw [engine])]
        change c.record.body.start = _
        rw [body]; rfl
      have slope : s.endWait.engine.safeSlope = s.engine.safeSlope := by rw [engine]; rfl
      rw [starts, slope]
    rw [returns] at run
    obtain ⟨c', inExit, contributions, noWait, window, count, drive, bay, queue⟩ :=
      State.endWait_returns inStep hold free (.ramp none iFrom s.engine.safeSlope)
    exact ⟨_, c', run, inExit, contributions, noWait, window, count, by rw [drive]; rfl, by rw [drive]; rfl,
      by rw [drive]; rfl, bay, queue⟩
  · have run := exec_tripWaitEnd inStep wait (by rw [StepRecord.kind, body]; rfl)
    obtain ⟨c', inExit, contributions, noWait, window, count, drive, bay, queue⟩ :=
      State.endWait_returns inStep hold free (GenSet.levelAt c.record.body.start)
    have starts : c.record.body.start = iPre := by rw [body]; rfl
    exact ⟨_, c', run, inExit, contributions, noWait, window, count, by rw [drive, starts]; rfl, by rw [drive]; rfl,
      by rw [drive]; rfl, bay, queue⟩
  · have run := exec_generatorSetEnd ended
    obtain ⟨walk, step, waiting, phase⟩ := inStep
    let u : State := s.setDrive s.drive.holdLevel
    obtain ⟨iFrom, slope, iCeiling, detect, threshold, lo, hi, body⟩ : ∃ iFrom slope iCeiling detect threshold lo hi,
        c.record.body = .tripSearch iFrom slope iCeiling detect threshold lo hi := by
      unfold StepRecord.kind at kind
      cases body : c.record.body <;> rw [body] at kind <;> simp [StepBody.kind] at kind ⊢
    have taken : u.takeSetEnd = u.mapStep (fun c => { c with wait := some Config.ceilingHold }) := by
      rw [State.takeSetEnd_of_body (s := u) ⟨walk, step, waiting, phase⟩]
      unfold State.setEndInBody
      rw [show u.engine.record = c.record from Engine.record_of_step step, body]
    have report : s.reportSetEnd = u.takeSetEnd.setDrive u.takeSetEnd.drive.releaseStaged := rfl
    rw [report, taken, State.goOn_of_none ((u.mapStep _).setDrive _) waiting] at run
    refine ⟨_, { c with wait := some 1000 }, run, ⟨walk, ?_, waiting, phase⟩, rfl, rfl, ?_, rfl, rfl⟩
    · simp [u, step, Config.ceilingHold]
    · exact (Drive.standsIn_releaseStaged s.drive.holdLevel).1
  · have run := exec_generatorSetEnd ended
    let u : State := s.setDrive s.drive.holdLevel
    have taken : u.takeSetEnd = u.endStep .normal [] := by
      rw [State.takeSetEnd_of_exit (s := u) inStep]
      exact State.setEndInExit_of_tripStep (s := u) inStep.2.1 kind noTrip
    obtain ⟨walk, step, waiting, phase⟩ := inStep
    obtain ⟨offers, reports⟩ := State.ends_in_exit (s := s) (u := u) step phase rfl rfl []
    have report : s.reportSetEnd = u.takeSetEnd.setDrive u.takeSetEnd.drive.releaseStaged := rfl
    rw [report, taken] at run
    have verdict := reports.verdict
    have level := reports.level still (by rw [contributions]; exact ⟨by decide, by decide⟩)
    have notSteady : c.record.kind.steady = false ∧ c.record.kind ≠ .recover := by
      rcases kind with kind | kind <;> rw [kind] <;> decide
    rw [notSteady.1, Bool.and_false] at level
    rw [contributions] at verdict
    refine ⟨_, _, run, (offers.setDrive _).offered, verdict, reports.phase, level, by rw [reports.figures]; exact noTrip,
      fun gate => reports.released gate, fun trip => (reports.trip_iff trip).2 fun h => notSteady.2 h.1⟩

end

end Sys2Proof.Machine


/-! ## RECOVER, DROPOUT and trip capture (O35, O49, O51) -/

namespace Sys2Proof.Machine

section
variable {s : State} {c : StepContext}

/-- A kind's own verdict ranks above LIMIT (R29). -/
theorem verdictOf_limit_append (pass held : Bool) {v : Verdict} (above : v.rank < (.limit : Verdict).rank) :
    verdictOf ((if pass then [] else [.limit]) ++ if held then [] else [v])
      = if held then (if pass then .pass else .limit) else v := by
  cases held with
  | true => simp [verdictOf_limit]
  | false =>
    refine verdictOf_concat_of_rank (above.trans (by decide)) ?_
    cases pass with
    | true => simp
    | false => simpa using above

/-- What a step that evaluates its window hands on beside a verdict of its kind (R29, R100). -/
theorem State.evaluatedContext_contributions (u : State) (contributions : c.contributions = []) :
    (u.evaluatedContext c).contributions
      = if (c.record.checks.map u.acq.window.evaluate).all (·.pass) then [] else [.limit] := by
  simp [State.evaluatedContext, contributions]

theorem admitted_limit_append (pass held : Bool) {v : Verdict} (denied : v ≠ .denied) (exceeds : v ≠ .overBay) :
    Admitted ((if pass then [] else [.limit]) ++ if held then [] else [v]) := by
  refine (admitted_limit pass).append ?_
  cases held with
  | true => exact ⟨by simp, by simp⟩
  | false => exact ⟨by simpa using denied.symm, by simpa using exceeds.symm⟩

/-! ### O35 -/

theorem exec_regulationEvent (inStep : s.StepIn .body c) {d : RunDetector} (armed : s.acq.detectors.regulation = some d)
    (run : 10 ≤ d.run) : exec .regulationEvent s = .next s.takeRegulation := by
  change Host.Outcome.next (s.regulationEvent.getD s) = _
  simp [State.regulationEvent, inStep.stepping, Detectors.regulationDue, armed, Config.regulationRun, run]

section
variable {iRest pulse : Nat}

/-- The context in which the ramp to I_rest runs (R153, R154). -/
def State.recoveredContext (s : State) (c : StepContext) : StepContext :=
  { c with figures := { c.figures with recovery := some (interval s.acq.seq c.bodySeq) } }

theorem State.takeRegulation_of_recover (step : s.engine.step = some c) (body : c.record.body = .recover iRest pulse) :
    s.takeRegulation =
      (((s.mapFigures (fun g => { g with recovery := some (interval s.acq.seq c.bodySeq) })).setAcq
          (s.acq.disarmRegulation.armFromNext s.engine.ratings.vCollapse)).stageStep
        (.ramp none iRest s.engine.safeSlope) .plain).setStage .restRamp := by
  unfold State.takeRegulation
  rw [Engine.record_of_step step, step, body]
  rfl

theorem State.windowDone_of_recover (step : s.engine.step = some c) (body : c.record.body = .recover iRest pulse) :
    s.windowDone = ((s.evaluateWindow.mapFigures (fun g => { g with watchMin := s.windowMin })).endBody).endStep .normal
      (if s.windowMin.any (fun v => decide ((s.engine.ratings.vRegLow : Int) ≤ v)) then [] else [.noRecovery]) := by
  unfold State.windowDone
  dsimp only
  rw [State.evaluateWindow_step step, Engine.record_of_step (c := s.evaluatedContext c) rfl,
    show (s.evaluatedContext c).record.body = _ from body]
  rfl

theorem State.setEndInBody_of_restRamp (step : s.engine.step = some c) (body : c.record.body = .recover iRest pulse)
    (stage : c.stage = .restRamp) : s.setEndInBody =
      (s.openWindow .counted Config.watchLength (windowChannels [.measured .vOut] c.record)).setStage .watch := by
  unfold State.setEndInBody
  rw [Engine.record_of_step step, step, body]
  exact if_pos stage

end

/-- Settles O35, by the regulation event, the ramp's end and the watch's. -/
theorem regulationStartsRestRamp : Obligations.RegulationStartsRestRamp := by
  intro s c iRest pulse inStep body
  have kind : c.record.kind = .recover := by rw [StepRecord.kind, body]; rfl
  refine ⟨fun d armed run hold free => ?_, fun stage ended => ?_, fun contributions mode opened complete still => ?_⟩
  · have row := exec_regulationEvent inStep armed run
    obtain ⟨walk, step, waiting, phase⟩ := inStep
    rw [State.takeRegulation_of_recover step body] at row
    let u : State := (s.mapFigures (fun g => { g with recovery := some (interval s.acq.seq c.bodySeq) })).setAcq
          (s.acq.disarmRegulation.armFromNext s.engine.ratings.vCollapse)
    have inU : u.StepIn .body (s.recoveredContext c) := by
      refine ⟨walk, ?_, waiting, phase⟩
      simp [u, step, State.recoveredContext]
    obtain ⟨walk', step', waiting', phase'⟩ := State.stageStep_stepIn inU (.ramp none iRest s.engine.safeSlope) .plain
    have drive := State.stageStep_plain_drive u (.ramp none iRest s.engine.safeSlope) hold free
    rw [State.clampFor_plain, show u.drive = s.drive from rfl, show u.engine.ratings = s.engine.ratings from rfl] at drive
    refine ⟨_, { s.recoveredContext c with
        clamped := c.clamped || u.clampFor (.ramp none iRest s.engine.safeSlope) .plain != .ramp none iRest s.engine.safeSlope
        stage := .restRamp }, row, ⟨walk', ?_, waiting', phase'⟩, rfl, rfl, rfl, rfl, rfl, rfl, ?_, ?_, ?_, rfl, rfl⟩
    · rw [State.setStage_engine, step']; rfl
    · rw [State.setStage_drive, drive]; rfl
    · rw [State.setStage_drive, drive]; rfl
    · rw [State.setStage_drive, drive]; rfl
  · have row := exec_generatorSetEnd ended
    let u : State := s.setDrive s.drive.holdLevel
    have taken : u.takeSetEnd =
        (u.openWindow .counted 100 (windowChannels [.measured .vOut] c.record)).setStage .watch :=
      (State.takeSetEnd_of_body (s := u) inStep).trans (State.setEndInBody_of_restRamp inStep.2.1 body stage)
    obtain ⟨walk, step, waiting, phase⟩ := inStep
    rw [show s.reportSetEnd = u.takeSetEnd.setDrive u.takeSetEnd.drive.releaseStaged from rfl, taken,
      State.goOn_of_none (((u.openWindow .counted 100 _).setStage .watch).setDrive _) waiting] at row
    refine ⟨_, { c with stage := .watch }, row, ⟨walk, ?_, waiting, phase⟩, rfl, ?_, ?_, rfl, rfl⟩
    · simp [u, step]
    · exact (u.opens_openWindow .counted 100 (nodup_windowChannels _ _) fun ch => by
        rw [mem_windowChannels, List.mem_singleton]).of_same ⟨rfl, rfl⟩ rfl rfl
    · exact (Drive.standsIn_releaseStaged s.drive.holdLevel).1
  · have row := exec_windowDone inStep mode opened complete
    obtain ⟨walk, step, waiting, phase⟩ := inStep
    rw [State.windowDone_of_recover step body] at row
    let u : State := s.evaluateWindow.mapFigures (fun g => { g with watchMin := s.windowMin })
    let d : StepContext := { s.evaluatedContext c with figures := { c.figures with watchMin := s.windowMin } }
    have stepU : u.engine.step = some d := by
      simp only [u, State.mapFigures_engine, State.evaluateWindow_step step]; rfl
    have tag : u.engine.record.tag = s.engine.record.tag := by
      rw [Engine.record_of_step stepU, Engine.record_of_step step]; rfl
    have listed := State.evaluatedContext_contributions s contributions
    generalize held : s.windowMin.any (fun v => decide ((s.engine.ratings.vRegLow : Int) ≤ v)) = regulated at row
    obtain ⟨r, offers, reports⟩ := State.ends_with_body (s := s) (u := u) stepU
      (by simp only [u, State.mapFigures_queue, State.evaluateWindow_queue])
      (by simp only [u, State.mapFigures_acq, State.evaluateWindow_acq]) tag (if regulated then [] else [.noRecovery])
    have contributed : d.contributions ++ (if regulated then [] else [.noRecovery]) = _ :=
      congrArg (· ++ if regulated then [] else [Verdict.noRecovery]) listed
    have verdict := reports.verdict
    rw [contributed, verdictOf_limit_append _ _ (by decide)] at verdict
    have level := reports.level (by simp only [u, State.mapFigures_drive, State.evaluateWindow_drive]; exact still)
      (by rw [contributed]; exact admitted_limit_append _ _ (by decide) (by decide))
    rw [show d.record.kind = .recover from kind, show Kind.recover.steady = false from rfl, Bool.and_false] at level
    have figures : r.figures.watchMin = s.windowMin := by rw [reports.figures]
    refine ⟨_, r, row, offers.offered, reports.phase, ?_, ?_, figures, reports.checks, ?_, ?_, fun trip => ?_⟩
    · rw [level]; simp [u]
    · rw [reports.count (by simp [u, Window.live])]; rfl
    · rintro ⟨v, is, reached⟩
      rw [figures] at is
      have : regulated = true := by rw [← held, is]; simpa using reached
      rw [verdict, this, reports.checks]; rfl
    · intro below
      have : regulated = false := by
        rw [← held]
        cases is : s.windowMin with
        | none => rfl
        | some v => simpa using below v (figures.trans is)
      rw [verdict, this]; rfl
    · rw [reports.trip_iff (by simpa [u] using trip), show d.record.kind = .recover from kind]
      simp

/-! ### O49 -/

theorem exec_couplingSpanEnd_of_last (last : s.drive.coupling = .restore 0) :
    exec .couplingSpanEnd s = .next s.takeCouplingEnd.goOn := by
  change Host.Outcome.next (s.couplingSpanEnd.getD s) = _
  simp [State.couplingSpanEnd, last]

/-- The coupling's end in a DROPOUT step with no set waiting (R166). -/
theorem State.takeCouplingEnd_of_dropout {iHold lead dropout restore vMin : Nat} (inStep : s.StepIn .body c)
    (body : c.record.body = .dropout iHold lead dropout restore vMin) (unstaged : s.drive.staged = none) :
    s.takeCouplingEnd = (s.setDrive { s.drive with coupling := .none }).judgeDropout vMin := by
  unfold State.takeCouplingEnd
  dsimp only
  rw [Drive.releaseStaged_of_none (d := { s.drive with coupling := .none }) unstaged]
  have record : s.engine.record.body = .dropout iHold lead dropout restore vMin := by
    rw [Engine.record_of_step inStep.2.1, body]
  rw [show (s.setDrive { s.drive with coupling := .none }).engine.record.body = _ from record]
  exact if_pos inStep.stepping

theorem State.evaluateDropout_of_open (opened : s.acq.window.state = .opened) : s.evaluateDropout =
    (s.mapFigures (fun g => { g with vMin := s.windowMin })).evaluateWindow :=
  if_pos (by simp [Window.live, opened])

/-- Settles O49, span by span. -/
theorem couplingSpansEnd : Obligations.CouplingSpansEnd := by
  refine fun s => ⟨fun dropout restore lead => ?_, fun restore off => ?_,
    fun c iHold lead dropout restore vMin last inStep body contributions still unstaged opened gate => ?_⟩
  · have row : exec .couplingSpanEnd s = .next (s.setDrive
        { s.drive with coupling := .off dropout restore, lineEnable := false }).openDropoutWindow := by
      change Host.Outcome.next (s.couplingSpanEnd.getD s) = _
      simp [State.couplingSpanEnd, lead]
    exact ⟨_, row, rfl, (State.opens_openDropoutWindow _).of_same ⟨rfl, rfl⟩ rfl rfl, rfl, rfl, rfl, rfl⟩
  · change Host.Outcome.next (s.couplingSpanEnd.getD s) = _
    simp [State.couplingSpanEnd, off]
  · have row := exec_couplingSpanEnd_of_last last
    rw [State.takeCouplingEnd_of_dropout inStep body unstaged] at row
    obtain ⟨walk, step, waiting, phase⟩ := inStep
    let v : State := s.setDrive { s.drive with coupling := .none }
    let w : State := v.mapFigures (fun g => { g with vMin := s.windowMin })
    let d : StepContext := { c with figures := { c.figures with vMin := s.windowMin } }
    have stepW : w.engine.step = some d := by simp [w, v, d, step]
    generalize held : (s.acq.window.live && s.windowMin.any (fun x => decide ((vMin : Int) ≤ x))) = lasts
    have judged : v.judgeDropout vMin = w.evaluateWindow.endBody.endStep .normal (if lasts then [] else [.holdup]) := by
      unfold State.judgeDropout
      rw [State.evaluateDropout_of_open (s := v) opened, ← held]
      rfl
    rw [judged] at row
    have stepE : w.evaluateWindow.engine.step = some (w.evaluatedContext d) := by rw [State.evaluateWindow_step stepW]
    have tag : w.evaluateWindow.engine.record.tag = s.engine.record.tag := by
      rw [State.evaluateWindow_tag stepW, Engine.record_of_step stepW, Engine.record_of_step step]
    obtain ⟨r, offers, reports⟩ := State.ends_with_body (s := s) (u := w.evaluateWindow) stepE w.evaluateWindow_queue
      (by rw [State.evaluateWindow_acq]; rfl) tag (if lasts then [] else [.holdup])
    have listed := State.evaluatedContext_contributions (c := d) w contributions
    have verdict := reports.verdict
    rw [listed, verdictOf_limit_append _ _ (by decide)] at verdict
    have level := reports.level (by rw [State.evaluateWindow_drive]; exact still)
      (by rw [listed]; exact admitted_limit_append _ _ (by decide) (by decide))
    have kind : (w.evaluatedContext d).record.kind = .dropout := by
      change c.record.kind = _; rw [StepRecord.kind, body]; rfl
    rw [kind, show Kind.dropout.steady = false from rfl, Bool.and_false] at level
    have figures : r.figures.vMin = s.windowMin := by rw [reports.figures]; rfl
    refine ⟨_, r, row, offers.offered, reports.phase, ?_, reports.released (by rw [State.evaluateWindow_bay]; exact gate),
      figures, reports.checks, ?_, ?_⟩
    · rw [level, State.evaluateWindow_drive]; rfl
    · rintro ⟨x, is, reached⟩
      rw [figures] at is
      have : lasts = true := by rw [← held, is]; simpa [Window.live, opened] using reached
      rw [verdict, this, reports.checks]; rfl
    · intro below
      have : lasts = false := by
        rw [← held]
        cases is : s.windowMin with
        | none => simp
        | some x => simpa using fun _ => below x (figures.trans is)
      rw [verdict, this]; rfl

/-! ### O51 -/

theorem exec_captureBlockOffer (due : s.acq.capture.blockDue = true) :
    exec .captureBlockOffer s = .next s.takeBlockOffer.goOn := by
  change Host.Outcome.next (s.captureBlockOffer.getD s) = _
  simp [State.captureBlockOffer, due]

/-- The state after a block that is not the last of a trip capture has been offered (R106, R109). -/
theorem State.takeBlockOffer_of_terminal (terminal : s.acq.capture.mode = .terminal) : s.takeBlockOffer =
    s.offerBlock.setCapture { s.offerBlock.acq.capture with
      state := if s.engine.record.captureBlocks ≤ s.acq.capture.nextIndex + 1 then .done else s.acq.capture.state } := by
  have mode : s.offerBlock.acq.capture.mode = .terminal := by rw [State.offerBlock_acq]; exact terminal
  have next : s.offerBlock.acq.capture.nextIndex = s.acq.capture.nextIndex + 1 := by rw [State.offerBlock_acq]; rfl
  have state : s.offerBlock.acq.capture.state = s.acq.capture.state := by rw [State.offerBlock_acq]; rfl
  unfold State.takeBlockOffer
  dsimp only
  rw [mode, next, State.offerBlock_engine]
  dsimp only
  split
  · rw [← mode, ← next]
  · rw [← mode, ← next, ← state]; rfl

theorem State.takeBlockOffer_of_going (trip : s.acq.capture.mode = .trip) (left : 0 < s.acq.capture.left) :
    s.takeBlockOffer = s.offerBlock := by
  have mode : s.offerBlock.acq.capture.mode = .trip := by rw [State.offerBlock_acq]; exact trip
  have left : s.offerBlock.acq.capture.left ≠ 0 := by rw [State.offerBlock_acq]; exact Nat.pos_iff_ne_zero.1 left
  unfold State.takeBlockOffer
  dsimp only
  rw [mode]
  exact if_neg left

/-- The last block of a trip capture ends the trip step that waits for it in EXIT (R108, R142, R149). -/
theorem State.takeBlockOffer_of_last (inStep : s.StepIn .exiting c)
    (kind : c.record.kind = .tripSearch ∨ c.record.kind = .tripTime) (trip : s.acq.capture.mode = .trip)
    (left : s.acq.capture.left = 0) : s.takeBlockOffer =
      (s.offerBlock.setCapture { s.offerBlock.acq.capture with state := .done }).endStep .normal [] := by
  have mode : s.offerBlock.acq.capture.mode = .trip := by rw [State.offerBlock_acq]; exact trip
  have left : s.offerBlock.acq.capture.left = 0 := by rw [State.offerBlock_acq]; exact left
  have tripKind : s.engine.kind.tripKind = true := by
    rw [Engine.kind, Engine.record_of_step inStep.2.1]
    rcases kind with kind | kind <;> rw [kind] <;> rfl
  unfold State.takeBlockOffer
  dsimp only
  rw [mode]
  dsimp only
  rw [if_pos left]
  exact if_pos (by simp [inStep.stepping, inStep.2.2.2, tripKind])

/-- A step admitted that ends at level 0 has exit level 0, in a range change too (R28, R75). -/
theorem State.endLevel_of_resting {u : State} {vs : List Verdict} (cause : EndCause) (admitted : Admitted (c.contributions ++ vs))
    (rests : u.drive.level = 0) : u.endLevel cause vs c = 0 := by
  obtain ⟨denied, exceeds⟩ := admitted
  have unlisted : ((c.contributions ++ vs).contains .denied || (c.contributions ++ vs).contains .overBay) = false := by
    simpa using ⟨by simpa using denied, by simpa using exceeds⟩
  have level : (u.endDrive cause c).level = 0 := by
    unfold State.endDrive
    split
    · rw [Drive.tripDrop_eq]
    · rw [Drive.endResetPulse_eq]; exact rests
  unfold State.endLevel
  rw [if_neg (by rw [unlisted]; exact Bool.false_ne_true), level]
  simp

/-- Settles O51, by the offer of the block. -/
theorem captureBlockIsPlacedOrDropped : Obligations.CaptureBlockIsPlacedOrDropped := by
  refine fun s collecting fill waiting => ⟨fun twelve mode => ?_,
    fun c inStep kind trip left level ranks held => ?_⟩
  · have row := exec_captureBlockOffer (s := s) (by simp [Capture.blockDue, collecting, twelve, Config.blockPairs])
    obtain ⟨state, stateEq, offered⟩ : ∃ state, state = (if s.acq.capture.mode = .terminal
          ∧ s.engine.record.captureBlocks ≤ s.acq.capture.nextIndex + 1 then .done else CaptureState.collecting)
        ∧ s.takeBlockOffer = s.offerBlock.setCapture { s.offerBlock.acq.capture with state := state } := by
      refine ⟨_, rfl, ?_⟩
      rcases mode with terminal | ⟨trip, left⟩
      · rw [State.takeBlockOffer_of_terminal terminal, collecting]
        simp only [terminal, true_and]
      · rw [State.takeBlockOffer_of_going trip left, if_neg (by rw [trip]; exact fun h => by simp at h), ← collecting]
        have state : s.offerBlock.acq.capture.state = s.acq.capture.state := by rw [State.offerBlock_acq]; rfl
        rw [← state]; rfl
    rw [offered, State.goOn_of_none (s.offerBlock.setCapture _) (by rw [State.setCapture_engine, State.offerBlock_engine]; exact waiting)] at row
    refine ⟨_, row, fun free => ?_, fun short => ?_, ?_, ?_, ?_, ?_, ?_, ?_, ?_⟩ <;>
      simp only [State.setCapture_engine, State.setCapture_bay, State.setCapture_drive, State.setCapture_queue,
        State.setCapture_acq, State.offerBlock_engine, State.offerBlock_bay, State.offerBlock_drive, State.offerBlock_queue,
        State.offerBlock_acq, Capture.afterOffer]
    · simp [free, State.blockInFill]
    · simp [Nat.not_le.2 short]
    · exact stateEq
  · have row := exec_captureBlockOffer (s := s) (by simpa [Capture.blockDue, collecting, trip, left] using .inr fill)
    rw [State.takeBlockOffer_of_last inStep kind trip left] at row
    let u : State := s.offerBlock.setCapture { s.offerBlock.acq.capture with state := .done }
    have engine : u.engine = s.engine := by rw [State.setCapture_engine, State.offerBlock_engine]
    have capture : u.acq.capture = s.finishedCapture := by
      simp [u, State.finishedCapture, collecting, fill]
    have queue : u.queueAtEnd = s.queueAtEnd := by
      rw [State.queueAtEnd_of_not_collecting _ (by rw [capture]; exact s.finishedCapture_state_ne)]
      simp [u, State.queueAtEnd, State.lastBlock, collecting, fill, State.blockInFill]
    obtain ⟨walk, step, waiting, phase⟩ := inStep
    obtain ⟨offers, reports⟩ := State.ends_in_exit (s := s) (u := u) (c := c) (by rw [engine]; exact step)
      (by rw [engine]; exact phase) queue (State.finishedCapture_of_finished capture) []
    have unit : u.bay.ownUnit = .trip := by rw [State.setCapture_bay, State.offerBlock_bay]; exact held
    have verdict := reports.verdict
    have admitted := admitted_of_rank fun v mem => (Nat.lt_succ_self 3).trans (ranks v mem)
    rw [List.append_nil] at verdict
    have notSteady : c.record.kind.steady = false ∧ c.record.kind ≠ .recover := by
      rcases kind with kind | kind <;> rw [kind] <;> decide
    refine ⟨_, _, row, offers.offered, reports.phase, ?_, (reports.trip_iff unit).2 fun h => notSteady.2 h.1, verdict,
      reports.figures⟩
    have drive : u.drive = s.drive := by rw [State.setCapture_drive, State.offerBlock_drive]
    refine State.endLevel_of_resting (u := u) .normal (by simpa using admitted) ?_
    rw [drive]; exact level

end

end Sys2Proof.Machine


/-! ## The interlock (O52) -/

namespace Sys2Proof.Machine

/-! ### What an opening drops -/

/-- The bay lines carry nothing of this station, and the drive unit stands dropped with its enables inactive (R42, R66,
R80). -/
def State.Dropped (s : State) : Prop :=
  s.bay.drivenClaim = 0 ∧ s.bay.ownUnit = .released ∧ s.bay.protocol = .idle ∧ s.drive.level = 0 ∧ s.drive.loadEnable = false
    ∧ s.drive.lineEnable = false ∧ s.drive.shelfEnable = false ∧ s.drive.coupling = .none ∧ s.drive.resetPulse = none
    ∧ s.drive.rangeChange = .none

section
variable {s : State}

theorem State.Dropped.of_same {t : State} (h : s.Dropped) (bay : t.bay = s.bay) (drive : t.drive = s.drive) : t.Dropped := by
  unfold State.Dropped; rw [bay, drive]; exact h

theorem State.dropped_dropAll (s : State) : s.dropAll.Dropped := by
  obtain ⟨claim, unit, idle⟩ := s.bay.releaseAll_spec s.lineSettle
  exact ⟨claim, unit, idle, rfl, rfl, rfl, rfl, rfl, rfl, rfl⟩

theorem State.Dropped.makeReleases (h : s.Dropped) : s.makeReleases.Dropped := by
  obtain ⟨-, -, -, level, -, -, -, coupling, pulse, change⟩ := h
  obtain ⟨claim, unit, idle⟩ := s.bay.releaseAll_spec s.lineSettle
  unfold State.Dropped
  rw [State.makeReleases_bay, State.makeReleases_drive]
  exact ⟨claim, unit, idle, level, rfl, rfl, rfl, coupling, pulse, change⟩

theorem State.Dropped.enterWinddown (h : s.Dropped) (reason : Reason) : (s.enterWinddown reason).Dropped := by
  obtain ⟨claim, unit, idle, level, load, line, shelf, coupling, pulse, change⟩ := h
  have stands := Drive.standsIn_stage_winddown { s.drive with lineSetpoint := s.engine.ratings.lineNominal }
    (.ramp none 0 s.engine.safeSlope)
  obtain ⟨level', -, -, load', line', shelf', coupling', pulse'⟩ := stands
  unfold State.Dropped
  rw [State.enterWinddown_bay, State.enterWinddown_drive]
  refine ⟨claim, unit, idle, level'.trans level, load'.trans load, line'.trans line, shelf'.trans shelf,
    coupling'.trans coupling, pulse'.trans pulse, ?_⟩
  rw [Drive.stage_winddown]
  split <;> exact change

theorem State.Dropped.goOn (h : s.Dropped) (walk : s.engine.walk = .winddown) : s.goOn.Dropped := by
  obtain ⟨bay, drive, -⟩ := State.goOn_of_winddown walk
  exact h.of_same bay drive

/-- A step that the interlock ends leaves the drive unit dropped (R42, R80). -/
theorem State.endStep_interlock_drive {c : StepContext} (step : s.engine.step = some c) (noPulse : s.drive.resetPulse = none)
    (vs : List Verdict) : (s.endStep .interlock vs).drive = s.drive := by
  rw [s.endStep_drive _ _ _ step]
  simp [State.tripMeetsEnd, State.endDrive, Drive.endResetPulse_of_none noPulse]

theorem State.Dropped.endStep {c : StepContext} (h : s.Dropped) (step : s.engine.step = some c) (vs : List Verdict) :
    (s.endStep .interlock vs).Dropped := by
  obtain ⟨claim, unit, idle, level, load, line, shelf, coupling, pulse, change⟩ := h
  unfold State.Dropped
  rw [s.endStep_bay _ _ _ step, State.endStep_interlock_drive step pulse]
  obtain ⟨claimEnd, idleEnd⟩ := s.endBay_claim .interlock vs c
  exact ⟨claimEnd.trans claim, by rw [State.endBay_unit, unit]; split <;> rfl, idleEnd, level, load, line, shelf, coupling, pulse, change⟩

end

/-! ### The rows -/

section
variable {s : State}

theorem exec_interlockOpen_of_active (active : s.engine.walk.active = true) :
    exec .interlockOpen s = .next (s.setInterlock true).interlockWalk := by
  change Host.Outcome.next (if s.engine.walk.active then (s.setInterlock true).interlockWalk else s.setInterlock true) = _
  rw [if_pos active]

theorem State.interlockWalk_of_winddown (walk : s.engine.walk = .winddown) :
    s.interlockWalk = s.dropAll.interlockInWinddown.goOn := if_pos walk

theorem State.interlockWalk_of_stepping (walk : s.engine.walk = .running) (stepping : s.engine.stepping = true) :
    s.interlockWalk = ((s.dropAll.endStep .interlock [.aborted]).enterWinddown .interlock).goOn := by
  unfold State.interlockWalk
  dsimp only
  rw [if_neg (by rw [State.dropAll_engine, walk]; decide), if_pos (by rw [State.dropAll_engine]; exact stepping)]

theorem State.interlockWalk_of_resting (walk : s.engine.walk ≠ .winddown) (stepping : s.engine.stepping = false) :
    s.interlockWalk = (s.dropAll.enterWinddown .interlock).goOn := by
  unfold State.interlockWalk
  dsimp only
  rw [if_neg (by rw [State.dropAll_engine]; exact walk), if_neg (by rw [State.dropAll_engine, stepping]; decide)]

theorem State.interlockInWinddown_walk (s : State) : s.interlockInWinddown.engine.walk = s.engine.walk := by
  unfold State.interlockInWinddown
  dsimp only
  split
  · split <;> rfl
  · unfold State.makeReleases State.offerSummary
    dsimp only
    split <;> rfl

/-- While a walk is active the opening leaves lines and drive unit dropped, whatever the walk does (R42). -/
theorem State.dropped_interlockWalk (s : State) : s.interlockWalk.Dropped := by
  have dropped := s.dropped_dropAll
  by_cases walk : s.engine.walk = .winddown
  · rw [State.interlockWalk_of_winddown walk]
    refine State.Dropped.goOn ?_ ((State.interlockInWinddown_walk _).trans walk)
    cases done : s.engine.releasesDone with
    | true =>
      obtain ⟨waiting, -, replaced⟩ := s.dropAll.interlockInWinddown_of_released done
      rw [replaced]
      exact dropped.of_same rfl rfl
    | false =>
      rw [State.interlockInWinddown_of_not_released s.dropAll done]
      exact State.Dropped.makeReleases (dropped.of_same rfl rfl)
  · cases stepping : s.engine.stepping with
    | true =>
      obtain ⟨walk, c, step, -⟩ : s.engine.walk = .running ∧ ∃ c, s.engine.step = some c ∧ s.engine.waiting = none := by
        simpa [Engine.stepping, Option.isSome_iff_exists, and_assoc] using stepping
      rw [State.interlockWalk_of_stepping walk stepping]
      exact ((dropped.endStep step [.aborted]).enterWinddown .interlock).goOn (by rw [State.enterWinddown_engine])
    | false =>
      rw [State.interlockWalk_of_resting walk stepping]
      exact (dropped.enterWinddown .interlock).goOn (by rw [State.enterWinddown_engine])

end

/-! ### WINDDOWN with a record that waits -/

/-- A STEP_RESULT placed in WINDDOWN before the releases is tallied, and the walk waits for them (R42). -/
theorem State.goOn_of_unreleased {s : State} {r : StepResult} (waiting : s.engine.waiting = some (.stepResult r))
    (walk : s.engine.walk = .winddown) (unreleased : s.engine.releasesDone = false) (free : s.queue.length < 32) :
    s.goOn = (s.placed (.stepResult r)).tallied r := by
  rw [State.goOn_placed waiting free]
  have after : (s.placed (.stepResult r)).afterPlaced (.stepResult r) = (s.placed (.stepResult r)).tallied r := by
    change (s.placed (.stepResult r)).afterStepResult r = _
    unfold State.afterStepResult State.offerSummary
    dsimp only
    rw [if_pos (by exact walk), if_neg (by rintro ⟨-, done, -⟩; exact absurd done (by rw [State.setEngine_engine]; exact ne_true_of_eq_false unreleased))]
    rfl
  rw [after]
  exact State.goOn_of_none _ rfl

/-- The placement of a STEP_RESULT that the interlock's end of the step offers changes nothing of the entry to
WINDDOWN (R42). -/
theorem State.EntersWinddown.goOn {s e : State} {reason : Reason} {r : StepResult} (h : s.EntersWinddown (e.enterWinddown reason) reason)
    (waiting : e.engine.waiting = some (.stepResult r)) : s.EntersWinddown (e.enterWinddown reason).goOn reason := by
  have engine := e.enterWinddown_engine reason
  by_cases free : (e.enterWinddown reason).queue.length < 32
  · rw [State.goOn_of_unreleased (by rw [engine]; exact waiting) (by rw [engine]) (by rw [engine]) free]
    obtain ⟨walk, reasonEq, step, pause, line, stands, idle, busy⟩ := h
    exact ⟨walk, reasonEq, rfl, pause, line, stands, idle, busy⟩
  · rw [State.goOn_of_full _ (Nat.not_lt.1 free)]; exact h

/-- WINDDOWN entered from the drop, seen from the state before it. -/
theorem State.entersWinddown_dropAll (s : State) (reason : Reason) :
    (s.setDrive s.drive.immediateDrop).EntersWinddown (s.dropAll.enterWinddown reason) reason :=
  (State.entersWinddown_enterWinddown _ reason).of_same rfl ⟨rfl, rfl⟩ rfl rfl rfl

section
variable {s : State}

/-- From PAUSED, PAGE_WAIT and a record that waits, the walk goes to WINDDOWN at once (R42). -/
theorem interlockOpen_of_resting (active : s.engine.walk.active = true) (walk : s.engine.walk ≠ .winddown)
    (stepping : s.engine.stepping = false) (still : s.engine.waiting = none ∨ 32 ≤ s.queue.length) :
    ∃ t, exec .interlockOpen s = .next t ∧ (s.setDrive s.drive.immediateDrop).EntersWinddown t .interlock
      ∧ t.engine.waiting = s.engine.waiting ∧ (s.engine.waiting ≠ none → t.engine.phase = .outputStall) ∧ t.queue = s.queue := by
  let u : State := (s.setInterlock true).dropAll.enterWinddown .interlock
  have run := exec_interlockOpen_of_active active
  rw [State.interlockWalk_of_resting (s := s.setInterlock true) walk stepping] at run
  have engine := (s.setInterlock true).dropAll.enterWinddown_engine .interlock
  have queue : u.queue = s.queue := by rw [State.enterWinddown_queue, State.dropAll_queue]; rfl
  have goes : u.goOn = u := by
    rcases still with none | full
    · exact State.goOn_of_none _ (by rw [engine]; exact none)
    · exact State.goOn_of_full _ (by rw [queue]; exact full)
  rw [show ((s.setInterlock true).dropAll.enterWinddown .interlock).goOn = u from goes] at run
  refine ⟨u, run, (State.entersWinddown_dropAll (s.setInterlock true) .interlock).of_same rfl ⟨rfl, rfl⟩ rfl rfl rfl, ?_,
    fun some => ?_, queue⟩
  · rw [engine]; rfl
  · rw [engine]
    exact if_pos (Option.isSome_iff_ne_none.2 some)

/-- The step in progress ends ABORTED at level 0 (R42). -/
theorem interlockOpen_of_step {p : Phase} {c : StepContext} (inStep : s.StepIn p c)
    (contributions : ∀ v ∈ c.contributions, 3 < v.rank) :
    ∃ t r, exec .interlockOpen s = .next t ∧ s.Offered t r ∧ r.verdict = .aborted ∧ r.endPhase = p
      ∧ r.exitLevel = 0 ∧ r.censusHeld = false ∧ (s.setDrive s.drive.immediateDrop).EntersWinddown t .interlock := by
  have stepping := inStep.stepping
  obtain ⟨walk, step, waiting, phase⟩ := inStep
  let u : State := (s.setInterlock true).dropAll
  have run := exec_interlockOpen_of_active (s := s) (by rw [walk]; rfl)
  rw [State.interlockWalk_of_stepping (s := s.setInterlock true) walk stepping] at run
  let e : State := u.endStep .interlock [.aborted]
  let r : StepResult := u.endResult .interlock [.aborted] c
  have engine : e.engine = _ := u.endStep_engine .interlock [.aborted] c step
  have waits : e.engine.waiting = some (.stepResult r) := by rw [engine]
  have drive : e.drive = s.drive.immediateDrop := State.endStep_interlock_drive (s := u) step rfl _
  have acq : e.acq = _ := u.endStep_acq .interlock [.aborted] c step
  have enters : (s.setDrive s.drive.immediateDrop).EntersWinddown (e.enterWinddown .interlock) .interlock :=
    (State.entersWinddown_enterWinddown e .interlock).of_same drive ⟨by rw [acq]; rfl, by rw [acq]; rfl⟩
      (u.endStep_store _ _) (by rw [engine]; rfl) (by rw [engine]; rfl)
  obtain ⟨queueAtEnd, finished⟩ : u.queueAtEnd = s.queueAtEnd ∧ u.finishedCapture = s.finishedCapture := ⟨rfl, rfl⟩
  obtain ⟨-, -, -, posted, dropped⟩ := State.offersResult_endStep (s := s) (u := u) .interlock [.aborted] step queueAtEnd finished
  have offers : s.OffersResult (e.enterWinddown .interlock) r := by
    refine ⟨by rw [State.enterWinddown_engine]; exact waits, by rw [State.enterWinddown_engine]; exact if_pos (by rw [waits]; rfl),
      by rw [State.enterWinddown_queue]; exact u.endStep_queue .interlock [.aborted] c step, posted, dropped⟩
  have admitted : Admitted (c.contributions ++ [.aborted]) :=
    (admitted_of_rank contributions).append ⟨by decide, by decide⟩
  refine ⟨_, r, run, offers.offered, verdictOf_concat_aborted _, phase, ?_, ?_, enters.goOn waits⟩
  · change u.endLevel .interlock [.aborted] c = 0
    rw [State.endLevel_of_admitted admitted rfl]
    simp [State.endDrive, Drive.endResetPulse_eq, u, Drive.immediateDrop]
  · change (u.endBay .interlock [.aborted] c).ownUnit.asserted = false
    have released : (u.endBay .interlock [.aborted] c).ownUnit = .released := by
      rw [State.endBay_unit, show u.bay.ownUnit = .released from (s.bay.releaseAll_spec _).2.1]
      split <;> rfl
    rw [released]; rfl

end

/-- Settles O52, by the drop, the end of the step and WINDDOWN entry. -/
theorem interlockDrops : Obligations.InterlockDrops := by
  refine fun s => ⟨rfl, fun inactive => ?_, fun active => ?_, fun walk waiting => ?_, fun p c inStep contributions => ?_,
    fun x walk waiting full => ?_, fun summary walk is => ?_⟩
  · change Host.Outcome.next (if s.engine.walk.active then (s.setInterlock true).interlockWalk else s.setInterlock true) = _
    rw [inactive]; rfl
  · obtain ⟨claim, unit, idle, drive⟩ := (s.setInterlock true).dropped_interlockWalk
    have outer := (s.setInterlock true).interlockWalk_outer
    refine ⟨_, exec_interlockOpen_of_active active, ?_, claim, unit, idle, drive⟩
    exact congrArg (·.2.2.1) outer
  · have active : s.engine.walk.active = true := by rcases walk with h | h <;> rw [h] <;> rfl
    have stepping : s.engine.stepping = false := by rcases walk with h | h <;> simp [Engine.stepping, h]
    obtain ⟨t, run, enters, -, -, queue⟩ := interlockOpen_of_resting active
      (by rcases walk with h | h <;> rw [h] <;> decide) stepping (.inl waiting)
    exact ⟨t, _, run, Drive.dropsAllTo_immediateDrop _, enters, queue⟩
  · obtain ⟨t, r, run, offered, verdict, phase, level, held, enters⟩ := interlockOpen_of_step inStep contributions
    exact ⟨t, r, _, run, offered, verdict, phase, level, held, Drive.dropsAllTo_immediateDrop _, enters⟩
  · obtain ⟨t, run, enters, waits, phase, queue⟩ := interlockOpen_of_resting (s := s) (by rw [walk]; rfl)
      (by rw [walk]; decide) (by simp [Engine.stepping, waiting]) (.inr full)
    exact ⟨t, _, run, Drive.dropsAllTo_immediateDrop _, enters, waits.trans waiting, phase (by simp [waiting]), queue⟩
  · let u : State := (s.setInterlock true).dropAll
    let v : State := u.setEngine { u.engine with reason := some .interlock }
    have run := exec_interlockOpen_of_active (s := s) (by rw [walk]; rfl)
    rw [State.interlockWalk_of_winddown (s := s.setInterlock true) walk] at run
    have summarised : v.engine.summary = summary := by rw [is]; rfl
    refine ⟨fun unreleased waiting => ?_, fun w done waiting full => ?_, fun x unreleased waiting other full => ?_⟩
    · rw [State.interlockInWinddown_of_not_released u unreleased] at run
      obtain ⟨placed, waits⟩ := State.makeReleases_goOn (s := v) walk waiting
      rw [summarised] at placed waits
      have winddown : v.makeReleases.engine.walk = .winddown := by
        rw [State.makeReleases_engine (s := v) walk waiting]; exact walk
      refine ⟨_, run, ?_, placed, waits⟩
      rw [(State.goOn_of_winddown winddown).2.1, State.makeReleases_drive]; rfl
    · have replaced : u.interlockInWinddown = v.setEngine { v.engine with waiting := some (.walkSummary v.engine.summary) } := by
        unfold State.interlockInWinddown
        dsimp only
        rw [if_pos (by exact done), show (u.setEngine { u.engine with reason := some .interlock }).engine.waiting = _ from waiting]
      rw [replaced, State.goOn_of_full (v.setEngine _) full, summarised] at run
      exact ⟨_, run, walk, rfl, rfl, rfl⟩
    · rw [State.interlockInWinddown_of_not_released u unreleased,
        State.goOn_of_full v.makeReleases (by rw [State.makeReleases_queue]; exact full)] at run
      have engine := State.makeReleases_engine_of_waiting (s := v) waiting
      refine ⟨_, run, ?_, ?_, ?_, ?_, by rw [State.makeReleases_queue]; rfl⟩
      · rw [engine]; exact walk
      · rw [engine]
      · rw [engine]; rfl
      · rw [engine]; exact waiting

end Sys2Proof.Machine


/-! ## Samples (O29 to O32) -/

namespace Sys2Proof.Machine

/-! ### What a sample leaves -/

section
variable (s : State) (i : SampleInput)

/-- The sample record of the next sample (R91 to R93). -/
def State.sampleRecord : SampleRecord :=
  s.acq.nextRecord s.store.channels s.store.config i (s.bay.sample i s.lineSettle).censusOthers s.drive.update.range
    (s.drive.update.level / 1000)

theorem State.tickEngine_drive : s.tickEngine.drive = s.drive := by
  unfold State.tickEngine; dsimp only; (repeat' split) <;> simp

theorem State.tickEngine_acq : s.tickEngine.acq = s.acq := by
  unfold State.tickEngine; dsimp only; (repeat' split) <;> simp

/-- Of the bay interface the walk engine's counts change at most the claim, which reaching the rest level lowers (R83). -/
theorem State.tickEngine_bay : s.tickEngine.bay = { s.bay with drivenClaim := s.tickEngine.bay.drivenClaim } := by
  unfold State.tickEngine; dsimp only; (repeat' split) <;> rfl

@[simp] theorem State.takeSample_drive : (s.takeSample i).drive = s.drive.update := State.tickEngine_drive _

theorem State.takeSample_acq : (s.takeSample i).acq = s.acq.sample s.store.channels s.store.config i
    (s.bay.sample i s.lineSettle).censusOthers s.drive.update.range (s.drive.update.level / 1000) :=
  State.tickEngine_acq _

@[simp] theorem State.takeSample_store : (s.takeSample i).store = s.store := State.outer_store (s.takeSample_outer i)

theorem State.takeSample_bay : (s.takeSample i).bay =
    { s.bay.sample i s.lineSettle with drivenClaim := (s.takeSample i).bay.drivenClaim } := State.tickEngine_bay _

theorem State.takeSample_latest : (s.takeSample i).acq.latest = some (s.sampleRecord i) := by
  rw [State.takeSample_acq]; rfl

end

/-- With no detector armed, or with both deliveries put after the other events, a sample of a settled state is what its
blocks take (R90). -/
theorem State.deliverEarly_of_quiet {s : State} {i : SampleInput}
    (quiet : s.acq.detectors.Quiet ∨ (i.alarmLate = true ∧ i.kneeLate = true)) :
    (s.takeSample i).deliverEarly i = s.takeSample i := by
  rcases quiet with ⟨-, alarm, -, knee⟩ | ⟨alarm, knee⟩
  · have armed : (s.takeSample i).acq.detectors.alarmArmed = false := by rw [State.takeSample_acq]; exact alarm
    have threshold : (s.takeSample i).acq.detectors.knee = none := by rw [State.takeSample_acq]; exact knee
    have noAlarm : (s.takeSample i).alarmDetect = none := by simp [State.alarmDetect, Detectors.alarmDue, armed]
    have noKnee : (s.takeSample i).kneeEvent = none := by simp [State.kneeEvent, Detectors.kneeDue, threshold]
    unfold State.deliverEarly
    simp [noAlarm, noKnee]
  · exact State.deliverEarly_of_late _ _ alarm knee

theorem exec_sample_of_quiet {s : State} {i : SampleInput} (settled : s.Settled)
    (quiet : s.acq.detectors.Quiet ∨ (i.alarmLate = true ∧ i.kneeLate = true)) :
    exec (.sample i) s = .next (s.takeSample i) := by
  rw [exec_sample_of_settled i s settled, State.deliverEarly_of_quiet quiet]

/-! ### O29 -/

/-- A due event is the first of those that the settling takes. -/
theorem State.settleDue_of_due {s t : State} (due : firstDue s dueEvents = some t) : s.settleDue = t.takeDue 63 := by
  unfold State.settleDue
  rw [show dueRounds = 63 + 1 from rfl, State.takeDue, due]

/-- Once nothing is due, more rounds take nothing. -/
theorem State.takeDue_succ_of_settled (n : Nat) (s : State) (settled : (s.takeDue n).Settled) :
    s.takeDue (n + 1) = s.takeDue n := by
  induction n generalizing s with
  | zero =>
    change s.Settled at settled
    simp only [State.takeDue, firstDue_of_none s dueEvents settled]
  | succ n ih =>
    cases due : firstDue s dueEvents with
    | none =>
      simp only [State.takeDue, due]
    | some t =>
      have first (k : Nat) : s.takeDue (k + 1) = t.takeDue k := by rw [State.takeDue, due]
      rw [first (n + 1), first n]
      rw [first n] at settled
      exact ih t settled

theorem State.settleDue_idem {s : State} (settled : s.settleDue.Settled) : s.settleDue.settleDue = s.settleDue :=
  State.settleDue_of_settled _ settled

theorem exec_sample_eq (i : SampleInput) (s : State) :
    exec (.sample i) s = .next ((s.settleDue.takeSample i).deliverEarly i) := rfl

/-- What a reading shows of a contribution that has moved since the last sample (R45). -/
theorem Contribution.shown_moved (c : Contribution) (value settle lag : Nat) :
    ((c.move value settle).tick.shown lag = value
        ∨ ((c.move value settle).tick.shown lag = c.current ∧ 1 < settle)
        ∨ ∃ left, 1 < left ∧ ((c.move value settle).tick.shown lag, left) ∈ c.fading)
      ∧ (lag = 0 → (c.move value settle).tick.shown lag = value)
      ∧ (c.move value settle).tick.current = value
      ∧ ∀ v left, (v, left) ∈ (c.move value settle).tick.fading → 1 ≤ left
          ∧ ((v, left + 1) ∈ c.fading ∨ (v = c.current ∧ v ≠ value ∧ left + 1 = settle)) := by
  have fades (v left : Nat) (mem : (v, left) ∈ (c.move value settle).tick.fading) : 1 ≤ left
      ∧ ((v, left + 1) ∈ c.fading ∨ (v = c.current ∧ v ≠ value ∧ left + 1 = settle)) := by
    obtain ⟨pos, before⟩ := Contribution.mem_tick mem
    exact ⟨pos, Contribution.mem_move before⟩
  have current : (c.move value settle).tick.current = value := by rw [Contribution.tick_current, Contribution.move_current]
  refine ⟨?_, fun zero => by rw [zero]; exact current, current, fades⟩
  rcases (c.move value settle).tick.shown_cases lag with shown | ⟨left, mem⟩
  · exact .inl (shown.trans current)
  · obtain ⟨pos, before⟩ := fades _ _ mem
    rcases before with fading | ⟨stood, -, span⟩
    · exact .inr (.inr ⟨left + 1, by omega, fading⟩)
    · exact .inr (.inl ⟨stood, by omega⟩)

/-- The readings of a sample and what the lines show (R44 to R47). -/
theorem Bay.sample_reads (b : Bay) (i : SampleInput) (settle : Nat) :
    (b.sample i settle).bayTotal
        = min ((i.peersClaim + 20 * (b.claimOnLine.move b.drivenClaim settle).tick.shown i.claimLag + 10) / 20) 2047
      ∧ (b.sample i settle).censusReading
        = min ((i.peersCensus + 250 * (b.censusOnLine.move b.censusUnits settle).tick.shown i.censusLag + 125) / 250) 16
      ∧ (b.sample i settle).claimOnLine = (b.claimOnLine.move b.drivenClaim settle).tick
      ∧ (b.sample i settle).censusOthers = (b.sample i settle).censusReading
          - (if ({ b with releaseSpan := b.releaseSpan.map (· - 1) } : Bay).countsOwn then 1 else 0) := by
  unfold Bay.sample Bay.tickProtocol
  dsimp only
  split <;> exact ⟨rfl, rfl, rfl, rfl⟩

/-- census_others leaves out the own unit while it is asserted and through the span after its release (R46). -/
theorem Bay.countsOwn_iff (b : Bay) : ({ b with releaseSpan := b.releaseSpan.map (· - 1) } : Bay).countsOwn = true
    ↔ b.ownUnit ≠ .released ∨ ∃ n, b.releaseSpan = some n ∧ 1 < n := by
  unfold Bay.countsOwn
  rw [Bool.or_eq_true, OwnUnit.asserted_iff]
  refine or_congr Iff.rfl ?_
  cases b.releaseSpan with
  | none => simp
  | some n => simp; omega

/-- Settles O29, by the settling, the readings and what the lines show. -/
theorem sampleReadsBayLines : Obligations.SampleReadsBayLines := by
  refine ⟨fun i s t due settled => ?_, fun i s settled => ?_, fun i s settled quiet => ?_⟩
  · have first := State.settleDue_of_due due
    have same : t.settleDue = s.settleDue := by
      rw [first]
      rw [first] at settled
      exact State.takeDue_succ_of_settled 63 t settled
    exact ⟨same, by rw [exec_sample_eq, exec_sample_eq, same]⟩
  · rw [exec_sample_eq, exec_sample_eq, State.settleDue_idem settled]
  · have bay := s.takeSample_bay i
    generalize claimEq : (s.takeSample i).bay.drivenClaim = driven at bay
    obtain ⟨total, census, line, others⟩ := s.bay.sample_reads i s.lineSettle
    obtain ⟨shown, newest, current, fades⟩ :=
      Contribution.shown_moved s.bay.claimOnLine s.bay.drivenClaim s.lineSettle i.claimLag
    obtain ⟨unitShown, unitNewest, -, -⟩ :=
      Contribution.shown_moved s.bay.censusOnLine s.bay.censusUnits s.lineSettle i.censusLag
    have units : s.bay.censusUnits = if s.bay.ownUnit = .released then 0 else 1 := by
      unfold Bay.censusUnits
      cases s.bay.ownUnit <;> rfl
    rw [units] at unitShown unitNewest
    rw [← units] at unitShown unitNewest
    obtain ⟨-, -, unit, -⟩ := s.bay.sample_spec i s.lineSettle
    refine ⟨_, (s.bay.claimOnLine.move s.bay.drivenClaim s.lineSettle).tick.shown i.claimLag,
      (s.bay.censusOnLine.move s.bay.censusUnits s.lineSettle).tick.shown i.censusLag, exec_sample_of_quiet settled quiet, ?_⟩
    rw [bay, ← units]
    refine ⟨total, census, shown, unitShown, newest, unitNewest, ?_, fun v left mem => ?_, fun own => ?_, fun released spent => ?_,
      unit, by simp⟩
    · change (s.bay.sample i s.lineSettle).claimOnLine.current = _
      rw [line]; exact current
    · change (v, left) ∈ (s.bay.sample i s.lineSettle).claimOnLine.fading at mem
      rw [line] at mem
      exact fades v left mem
    · change (s.bay.sample i s.lineSettle).censusOthers = (s.bay.sample i s.lineSettle).censusReading - 1
      rw [others, if_pos ((Bay.countsOwn_iff _).2 own)]
    · change (s.bay.sample i s.lineSettle).censusOthers = (s.bay.sample i s.lineSettle).censusReading
      rw [others, if_neg, Nat.sub_zero]
      intro own
      rcases (Bay.countsOwn_iff _).1 own with asserted | ⟨n, span, long⟩
      · exact asserted released
      · exact absurd (spent n span) (Nat.not_le.2 long)

/-! ### O32 -/

theorem Bay.tickProtocol_count (b : Bay) : b.tickProtocol.protocolCount = match b.protocol with
    | .idle => b.protocolCount
    | .quiet => if b.censusOthers = 0 then b.protocolCount + 1 else 0
    | _ => b.protocolCount - 1 := by
  unfold Bay.tickProtocol
  cases b.protocol <;> rfl

theorem Bay.tickProtocol_censusOthers (b : Bay) : b.tickProtocol.censusOthers = b.censusOthers := by
  unfold Bay.tickProtocol; split <;> rfl

/-- The protocol count at a sample (R47, R59). -/
theorem Bay.sample_count (b : Bay) (i : SampleInput) (settle : Nat) :
    (b.sample i settle).protocolCount = match b.protocol with
      | .idle => b.protocolCount
      | .quiet => if (b.sample i settle).censusOthers = 0 then b.protocolCount + 1 else 0
      | _ => b.protocolCount - 1 := by
  unfold Bay.sample
  rw [Bay.tickProtocol_count, Bay.tickProtocol_censusOthers]
  rfl

section
variable {s : State} (i : SampleInput)

theorem State.takeSample_engine_of_stepping {c : StepContext} (stepping : s.engine.stepping = true) (step : s.engine.step = some c) :
    (s.takeSample i).engine = { s.engine with
      step := some { c with timeLeft := c.timeLeft - 1, wait := c.wait.map (· - 1) } } := by
  change State.engine (State.tickEngine _) = _
  unfold State.tickEngine
  rw [if_pos (by exact stepping)]
  simp [step]

/-- In PAGE_WAIT the limit counts, and a rest level to be counted as reached is (R40, R83). -/
theorem State.takeSample_of_pageWait (walk : s.engine.walk = .pageWait) :
    (s.takeSample i).engine = { s.engine with
        pageWaitLeft := s.engine.pageWaitLeft - 1
        rest := if s.engine.rest = .atNextUpdate then .reached else s.engine.rest }
      ∧ (s.takeSample i).bay.drivenClaim = if s.engine.rest = .atNextUpdate
          then min s.bay.drivenClaim (claimOf (s.drive.update.level / 1000) s.engine.ratings.vNom) else s.bay.drivenClaim := by
  have claim := (s.bay.sample_spec i s.lineSettle).1
  let u : State := ((s.setBay (s.bay.sample i s.lineSettle)).setDrive s.drive.update).setAcq (s.takeSample i).acq
  have sampled : s.takeSample i = u.tickEngine := by
    unfold u; rw [State.takeSample_acq]; rfl
  have notStepping : u.engine.stepping = false := by simp [u, Engine.stepping, walk]
  rw [sampled]
  unfold State.tickEngine
  rw [if_neg (by rw [notStepping]; decide), if_pos (by exact walk)]
  dsimp only
  by_cases rest : s.engine.rest = .atNextUpdate
  · rw [if_pos (by exact rest), if_pos rest, if_pos rest]
    refine ⟨rfl, ?_⟩
    rw [State.reachRest_bay]
    change min (s.bay.sample i s.lineSettle).drivenClaim _ = _
    rw [claim]; rfl
  · rw [if_neg (by exact rest), if_neg rest, if_neg rest]
    exact ⟨rfl, claim⟩

/-- The blanks at a sample: a counting one counts, any other stays (R95). -/
theorem State.takeSample_blank (ch : Channel) : (s.takeSample i).acq.blanks.get ch = (s.acq.blanks.get ch).tick := by
  rw [State.takeSample_acq]
  exact PerChannel.get_tabulate _ _

end

/-- Settles O32, block by block. -/
theorem sampleRunsCounts : Obligations.SampleRunsCounts := by
  intro i s settled quiet
  have bay := s.takeSample_bay i
  have count := s.bay.sample_count i s.lineSettle
  have spec := s.bay.sample_spec i s.lineSettle
  refine ⟨_, exec_sample_of_quiet settled quiet, by simp, ?_, by simp, fun c n counting => ?_, fun c other => ?_, fun waits => ?_,
    fun quietWait => ?_, ?_, fun p c inStep => ?_, fun walk => ?_⟩
  · rw [State.takeSample_drive, Drive.update_coupling]
    cases s.drive.coupling <;> rfl
  · rw [State.takeSample_blank, counting]; rfl
  · rw [State.takeSample_blank]
    cases blank : s.acq.blanks.get c with
    | counting n => exact absurd blank (other n)
    | closed => rfl
    | waiting => rfl
  · rw [bay]
    change (s.bay.sample i s.lineSettle).protocolCount = _
    rw [count]
    rcases waits with h | h | h | h <;> rw [h]
  · rw [bay]
    change (s.bay.sample i s.lineSettle).protocolCount = _
    rw [count, quietWait]
  · rw [bay]; exact spec.2.2.2.2.2.2.2
  · have engine := State.takeSample_engine_of_stepping i inStep.stepping inStep.2.1
    obtain ⟨walk, step, waiting, phase⟩ := inStep
    refine ⟨_, ⟨?_, by rw [engine], ?_, ?_⟩, rfl, rfl⟩ <;> rw [engine]
    · exact walk
    · exact waiting
    · exact phase
  · obtain ⟨engine, claim⟩ := State.takeSample_of_pageWait i walk
    refine ⟨by rw [engine]; exact walk, by rw [engine], fun rest => ⟨by rw [engine, if_pos rest], ?_⟩, fun other => ?_⟩
    · rw [claim, if_pos rest, State.takeSample_drive]
    · rw [claim, if_neg other]

end Sys2Proof.Machine


/-! ## The generator and the codes of a sample (O30, O31) -/

namespace Sys2Proof.Machine

/-! ### O31 -/

section
variable {d : Drive}

/-- What an update leaves alone of the enables, the hold and the pulse's count (R71). -/
theorem Drive.update_keeps (d : Drive) : d.update.loadEnable = d.loadEnable ∧ d.update.dropHold = d.dropHold
    ∧ d.update.lineSetpoint = d.lineSetpoint ∧ d.update.lineEnable = d.lineEnable ∧ d.update.shelfEnable = d.shelfEnable
    ∧ d.update.completed = d.completed := by
  unfold Drive.update Drive.checkDown
  dsimp only
  (repeat' split) <;> simp [Drive.holdLevel]

theorem Drive.act_of_ramp {stop slope : Nat} (acting : d.status = .acting) (active : d.active = .ramp none stop slope) :
    d.act = { d with
      level := rampUpdate d.level (stop * 1000) slope
      status := if rampUpdate d.level (stop * 1000) slope = stop * 1000 then .ended else .acting } := by
  unfold Drive.act; rw [acting, active]

theorem Drive.act_of_start {start stop slope : Nat} (acting : d.status = .acting)
    (active : d.active = .ramp (some start) stop slope) :
    d.act = { d with level := start * 1000, active := .ramp none stop slope } := by
  unfold Drive.act; rw [acting, active]

theorem Drive.act_of_level {target : Nat} (acting : d.status = .acting) (active : d.active = .level target) :
    d.act = { d with level := target, status := .ended } := by
  unfold Drive.act; rw [acting, active]

theorem Drive.act_of_pulse {lo hi period high cycles : Nat} {p : PulsePosition} (acting : d.status = .acting)
    (active : d.active = .pulse lo hi period high cycles) (position : d.pulse = some p) :
    d.act = { d with
      level := (if (p.next period).sample ≤ high then hi else lo) * 1000
      pulse := some (p.next period)
      cycleEnded := decide (period ≤ (p.next period).sample) } := by
  unfold Drive.act; rw [acting, active, position]; rfl

/-- DOWN goes down by its slope, and ends at level 0 (R78). -/
theorem Drive.update_of_down {target : LoadRange} {slope : Nat} (acting : d.status = .acting)
    (change : d.rangeChange = .down target false) (active : d.active = .ramp none 0 slope) :
    d.update.level = d.level - slope ∧ d.update.rangeChange = .down target (d.level - slope == 0) := by
  have act := Drive.act_of_ramp acting active
  rw [Nat.zero_mul, rampUpdate_zero] at act
  have actLevel : d.act.level = d.level - slope := by rw [act]
  unfold Drive.update Drive.checkDown
  dsimp only
  rw [Drive.act_rangeChange, change, actLevel]
  dsimp only
  by_cases zero : d.level - slope = 0
  · rw [if_pos zero]
    exact ⟨actLevel, by rw [zero]; rfl⟩
  · rw [if_neg zero]
    exact ⟨actLevel, by rw [Drive.act_rangeChange, change, beq_false_of_ne zero]⟩

end

/-- Settles O31, by the set in force. -/
theorem sampleMovesGenerator : Obligations.SampleMovesGenerator := by
  intro i s settled quiet acting
  refine ⟨_, exec_sample_of_quiet settled quiet, ?_⟩
  rw [State.takeSample_drive]
  obtain ⟨load, hold, setpoint, line, shelf, completed⟩ := s.drive.update_keeps
  refine ⟨fun stop slope active still => ?_, fun start stop slope active still => ?_, fun target active still => ?_,
    fun lo hi period high cycles k n active still position => ?_, fun target slope change active => ?_,
    fun limit within => within.of_span_le s.drive.span_update_le,
    Drive.update_range _, load, Drive.update_staged _, hold, setpoint, line, shelf, completed, by simp⟩
  · rw [Drive.update_of_noChange still, Drive.act_of_ramp acting active]
    refine ⟨rampUpdate_rising _ _ _, rampUpdate_falling _ _ _, ?_⟩
    dsimp only
    split <;> simp_all
  · rw [Drive.update_of_noChange still, Drive.act_of_start acting active]
    exact ⟨rfl, rfl, acting⟩
  · rw [Drive.update_of_noChange still, Drive.act_of_level acting active]
    exact ⟨rfl, rfl⟩
  · rw [Drive.update_of_noChange still, Drive.act_of_pulse acting active position]
    refine ⟨fun inside => ?_, fun last => ?_⟩
    · have next : (PulsePosition.next ⟨k, n⟩ period) = ⟨k, n + 1⟩ := if_pos inside
      rw [next]
      exact ⟨rfl, rfl, by simp; omega⟩
    · have next : (PulsePosition.next ⟨k, n⟩ period) = ⟨k + 1, 1⟩ := if_neg (Nat.not_lt.2 last)
      rw [next]
      exact ⟨rfl, rfl⟩
  · obtain ⟨level, range⟩ := Drive.update_of_down acting change active
    exact ⟨level, by rw [range, level]⟩

/-! ### O30 -/

/-- EFF in permille, saturating (R114). -/
theorem efficiency_of_pos {pOut : Nat} {pLine : Int} (pos : 0 < pLine) :
    efficiency pOut pLine = min (1000 * pOut / pLine.toNat) 1000 := by
  obtain ⟨n, rfl⟩ := Int.eq_ofNat_of_zero_le pos.le
  have posNat : 0 < n := by exact_mod_cast pos
  unfold efficiency
  rw [if_neg (not_le.2 pos), Int.toNat_natCast]
  by_cases saturates : n < pOut
  · rw [if_pos (by exact_mod_cast saturates), Nat.min_eq_right]
    rw [Nat.le_div_iff_mul_le posNat]
    omega
  · rw [if_neg (by exact_mod_cast saturates), Nat.min_eq_left]
    rw [← Nat.lt_succ_iff, Nat.div_lt_iff_lt_mul posNat]
    omega

/-- An open window that is not at its length takes the sample by its policy (R99). -/
theorem Window.take_of_running {w : Window} (opened : w.state = .opened) (running : w.mode = .counted → w.count < w.length)
    (r : SampleRecord) : w.take r = match r.disturbed, w.policy, w.mode with
      | false, _, _ => w.accumulate r
      | true, .mark, _ => (w.accumulate r).disturb
      | true, .restart, .counted => { w.clear.disturb with state := .waiting, restarts := w.restarts + 1 }
      | true, .restart, .span => w.disturb := by
  unfold Window.take
  rw [opened]
  exact if_neg fun done => absurd (running done.1) (Nat.not_lt.2 done.2)

/-- A window takes a sample by its state, mode and policy (R99). -/
theorem Window.takes_take (w : Window) (r : SampleRecord) : w.Takes (w.take r) r := by
  have joins := w.accumulates_accumulate r
  refine ⟨fun ended => ?_, fun opened counted complete => ?_, fun opened running counts => ?_,
    fun opened counted running disturbed restarts => ?_, fun opened span disturbed restarts => ?_, fun waits disturbed => ?_,
    fun waits undisturbed => ?_⟩
  · rcases ended with state | state <;> simp [Window.take, state]
  · simp [Window.take, opened, counted, complete]
  · rw [Window.take_of_running opened running]
    cases disturbed : r.disturbed with
    | false => exact ⟨joins, rfl, rfl, rfl⟩
    | true =>
      have mark := counts.resolve_left (by simp [disturbed])
      rw [mark]
      exact ⟨joins, rfl, rfl, rfl⟩
  · rw [Window.take_of_running opened fun _ => running, disturbed, restarts, counted]
    refine ⟨rfl, rfl, rfl, rfl, ?_⟩
    simp [Window.clear, Window.disturb, Accumulator.empty]
  · have taken : w.take r = w.disturb := by rw [Window.take_of_running opened (by simp [span]), disturbed, restarts, span]
    exact taken
  · have taken : w.take r = w.disturb := by simp [Window.take, waits, disturbed]
    exact taken
  · have taken : w.take r = w.accumulate r := by simp [Window.take, waits, undisturbed]
    rw [taken]
    exact ⟨joins, rfl, rfl, rfl⟩

section
variable {a : Acquisition} {profiles : PerChannel ChannelProfile} {config : Option BayConfig} {i : SampleInput}
  {others load : Nat} {range : LoadRange} {r : SampleRecord} (made : r = a.nextRecord profiles config i others range load)
include made

/-- The raw value of a channel: scaled and clamped, with its flag (R91, R112). -/
theorem SampleRecord.raw_of_made (c : Channel) :
    r.raw.get c = max (channelRange c).1 (min (channelRange c).2 (scaledValue (profiles.get c) (sampleCode i c)))
      ∧ (r.overRange.get c = true ↔ r.raw.get c ≠ scaledValue (profiles.get c) (sampleCode i c)) := by
  have raw : r.raw.get c = channelValue c (profiles.get c) (sampleCode i c) := by
    rw [made]; exact PerChannel.get_tabulate _ _
  have exceeds : r.overRange.get c = channelOver c (profiles.get c) (sampleCode i c) := by
    rw [made]; exact PerChannel.get_tabulate _ _
  refine ⟨raw, ?_⟩
  rw [exceeds, raw, channelOver, bne_iff_ne]

/-- The averages after a sample and its averaged values (R92). -/
theorem SampleRecord.average_of_made (c : Channel) :
    (a.joinAverages profiles i).get c
        = (a.averages.get c ++ [r.raw.get c]).drop ((a.averages.get c).length + 1 - (profiles.get c).averaging)
      ∧ r.average.get c = ((a.joinAverages profiles i).get c).sum / (((a.joinAverages profiles i).get c).length : Int) := by
  have raw : r.raw.get c = channelValue c (profiles.get c) (sampleCode i c) := by
    rw [made]; exact PerChannel.get_tabulate _ _
  refine ⟨?_, ?_⟩
  · rw [raw]; exact PerChannel.get_tabulate _ _
  · rw [made]; exact PerChannel.get_tabulate _ _

/-- The derived values of a sample and their flags (R93, R113, R114). -/
theorem SampleRecord.derived_of_made :
    r.pOut = (r.average.vOut * r.average.iOut / 10000).toNat ∧ (r.average.pLine ≤ 0 → r.eff = 0)
      ∧ (0 < r.average.pLine → r.eff = min (1000 * r.pOut / r.average.pLine.toNat) 1000)
      ∧ (r.pOutOver = true ↔ r.overRange.vOut = true ∨ r.overRange.iOut = true)
      ∧ (r.effOver = true ↔ r.overRange.vOut = true ∨ r.overRange.iOut = true ∨ r.overRange.pLine = true
          ∨ (0 < r.average.pLine ∧ r.average.pLine < r.pOut)) := by
  have pOut : r.pOut = outputPower r.average.vOut r.average.iOut := by rw [made]; rfl
  have eff : r.eff = efficiency r.pOut r.average.pLine := by rw [made]; rfl
  have pOutOver : r.pOutOver = (r.overRange.vOut || r.overRange.iOut) := by rw [made]; rfl
  have effOver : r.effOver = (r.overRange.vOut || r.overRange.iOut || r.overRange.pLine
      || efficiencySaturated r.pOut r.average.pLine) := by rw [made]; rfl
  refine ⟨pOut, fun none => ?_, fun pos => ?_, ?_, ?_⟩
  · rw [eff]; exact if_pos none
  · rw [eff, efficiency_of_pos pos]
  · rw [pOutOver, Bool.or_eq_true]
  · rw [effOver, efficiencySaturated]; simp [or_assoc]

/-- The alarm reading under the configured polarity (R102). -/
theorem SampleRecord.alarm_of_made {g : BayConfig} (configured : config = some g) :
    r.alarm = true ↔ (i.alarmHigh = true ↔ g.alarmPolarity = .activeHigh) := by
  have alarm : r.alarm = alarmReading config a.nextSeq i.alarmHigh := by rw [made]; rfl
  rw [alarm, configured]
  unfold alarmReading
  dsimp only
  cases g.alarmPolarity <;> simp

end

/-- The alarm detection of an armed sample (R102, R110). -/
theorem alarmFound_iff (alarm unseen : Bool) (latest : Option SampleRecord) :
    alarmFound alarm ((latest.map (·.alarm)).getD false) unseen = true
      ↔ alarm = true ∧ (unseen = true ∨ ∀ x, latest = some x → x.alarm = false) := by
  unfold alarmFound
  cases latest with
  | none => simp
  | some x => simp [or_comm]

/-- A blank whose flag is clear at a sample is CLOSED or has counted to 0 (R94, R97). -/
theorem Blank.isOpen_eq_false (b : Blank) : b.isOpen = false ↔ b = .closed ∨ b = .counting 0 := by
  cases b <;> simp [Blank.isOpen]

/-- The values a record presents to windows, history and captures (R93, R97, R98, R107). -/
theorem SampleRecord.presents (r : SampleRecord) : r.Presents :=
  ⟨fun _ => ⟨rfl, rfl⟩, rfl, rfl, rfl, rfl, rfl⟩

/-- A collecting capture takes the sample's pair (R106, R108). -/
theorem Capture.take_of_collecting {c : Capture} (collecting : c.state = .collecting) (p : RawSample) : c.take p =
    { c with fill := c.fill ++ [p], left := if c.mode = .trip then c.left - 1 else c.left } := by
  unfold Capture.take
  rw [collecting]
  cases mode : c.mode <;> simp

theorem Capture.take_of_resting {c : Capture} (resting : c.state ≠ .collecting) (p : RawSample) : c.take p = c := by
  unfold Capture.take
  cases state : c.state with
  | collecting => exact absurd state resting
  | idle => rfl
  | done => rfl

/-- Settles O30, part by part of the sample. -/
theorem sampleTakesCodes : Obligations.SampleTakesCodes := by
  intro i s settled quiet
  have acq := s.takeSample_acq i
  have bay := s.takeSample_bay i
  obtain ⟨r, made⟩ : ∃ r, r = s.sampleRecord i := ⟨_, rfl⟩
  have latest := s.takeSample_latest i
  rw [← made] at latest
  obtain ⟨pOut, noLine, line, pOutOver, effOver⟩ := SampleRecord.derived_of_made made
  have others : (s.takeSample i).bay.censusOthers = (s.bay.sample i s.lineSettle).censusOthers := by rw [bay]
  have window : (s.takeSample i).acq.window = s.acq.window.take r := by rw [acq, made]; rfl
  have detectors : (s.takeSample i).acq.detectors = s.acq.detectors.test r
      (alarmFound r.alarm ((s.acq.latest.map (·.alarm)).getD false) s.acq.alarmUnseen) := by rw [acq, made]; rfl
  have capture : (s.takeSample i).acq.capture = s.acq.capture.take r.pair := by rw [acq, made]; rfl
  have averages : (s.takeSample i).acq.averages = s.acq.joinAverages s.store.channels i := by rw [acq]; rfl
  refine ⟨_, r, exec_sample_of_quiet settled quiet, latest, by rw [made]; rfl, by rw [acq]; rfl, ?_, ?_, r.presents,
    fun c => (SampleRecord.raw_of_made made c).1, fun c => (SampleRecord.raw_of_made made c).2, fun c => ?_, fun c => ?_,
    pOut, noLine, line, pOutOver, effOver, ?_, fun c => ?_, fun g configured => SampleRecord.alarm_of_made made configured,
    by rw [acq, made]; rfl, by rw [window]; exact Window.takes_take _ _, fun d armed => ?_, fun d armed => ?_,
    by rw [detectors]; rfl, ?_, fun v armed => ?_, fun collecting => ?_, fun resting => ?_, by simp, by simp⟩
  · rw [State.takeSample_drive, made]; rfl
  · rw [State.takeSample_drive, made]; rfl
  · rw [averages]; exact (SampleRecord.average_of_made made c).1
  · rw [averages]; exact (SampleRecord.average_of_made made c).2
  · rw [others, made]; exact decide_eq_true_iff
  · have flag : r.blank.get c = (s.acq.blanks.get c).tick.isOpen := by rw [made]; exact PerChannel.get_tabulate _ _
    rw [State.takeSample_blank, flag, Blank.isOpen_eq_false]
  · rw [detectors]; simp [Detectors.test, armed, RunDetector.next]
  · rw [detectors]; simp [Detectors.test, armed, RunDetector.next]
  · rw [detectors]
    change (s.acq.detectors.alarmArmed && _) = true ↔ _
    rw [Bool.and_eq_true, alarmFound_iff]
  · rw [detectors]; simp [Detectors.test, armed]
  · rw [capture, Capture.take_of_collecting collecting]
  · rw [capture, Capture.take_of_resting resting]

end Sys2Proof.Machine


/-! ## The end of SETTLE and the start of BODY (O44, O45) -/

namespace Sys2Proof.Machine

/-! ### Detectors at BODY start -/

/-- An armed alarm detector detects at its first sample (R102, R110). -/
theorem Acquisition.alarmEdge_iff (a : Acquisition) : a.alarmEdge = true ↔ ¬ a.NoAlarmFound := by
  unfold Acquisition.alarmEdge Acquisition.NoAlarmFound alarmFound
  cases a.latest with
  | none => simp
  | some x => cases x.alarm <;> cases a.alarmPrevious <;> cases a.alarmUnseen <;> simp

section
variable {v t : State}

theorem State.ArmsCollapse.of_latest {threshold : Nat}
    (armed : t.acq.detectors.collapse = some (RunDetector.next ⟨threshold, 0⟩ (v.acq.rawBelow threshold))) :
    v.ArmsCollapse t threshold := by
  refine ⟨_, armed, rfl, fun x latest => ?_⟩
  simp [RunDetector.next, Acquisition.rawBelow, latest]

theorem State.ArmsAlarm.of_edge (armed : t.acq.detectors.alarmArmed = true) (hit : t.acq.detectors.alarmHit = v.acq.alarmEdge) :
    v.ArmsAlarm t := ⟨armed, by rw [hit, Acquisition.alarmEdge_iff]⟩

/-- Both detectors of a step that is not a trip step (R127). -/
theorem State.guards_armDetectors (s : State) (detectors : s.armDetectors.acq.detectors = t.acq.detectors)
    (latest : s.acq.latest = v.acq.latest) (previous : s.acq.alarmPrevious = v.acq.alarmPrevious)
    (unseen : s.acq.alarmUnseen = v.acq.alarmUnseen) (ratings : s.engine.ratings = v.engine.ratings) : v.Guards t := by
  refine ⟨State.ArmsCollapse.of_latest ?_, State.ArmsAlarm.of_edge ?_ ?_⟩ <;> rw [← detectors]
  · unfold Acquisition.rawBelow
    rw [← latest, ← ratings]; rfl
  · rfl
  · unfold Acquisition.alarmEdge
    rw [← latest, ← previous, ← unseen]; rfl

/-- The detectors of a trip step, by its source (R140, R143). -/
theorem State.awaits_armTripDetectors (detect : Detect) (threshold : Nat)
    (detectors : t.acq.detectors = (v.armTripDetectors detect threshold).acq.detectors) : v.Awaits t detect threshold := by
  unfold State.Awaits
  cases detect with
  | collapse => exact ⟨State.ArmsCollapse.of_latest (by rw [detectors]; rfl), by rw [detectors]; rfl⟩
  | alarm => exact ⟨by rw [detectors]; rfl, State.ArmsAlarm.of_edge (by rw [detectors]; rfl) (by rw [detectors]; rfl)⟩
  | either => exact ⟨State.ArmsCollapse.of_latest (by rw [detectors]; rfl),
      State.ArmsAlarm.of_edge (by rw [detectors]; rfl) (by rw [detectors]; rfl)⟩

end

/-! ### Sets at BODY start -/

/-- No set waits with nothing to hold it back (R73). -/
def Drive.Served (d : Drive) : Prop := d.staged = none ∨ d.busy = true

theorem Drive.Served.releaseStaged {d : Drive} (h : d.Served) : d.releaseStaged = d := by
  rcases h with none | busy
  · exact Drive.releaseStaged_of_none none
  · exact Drive.releaseStaged_of_busy busy

theorem Drive.Served.stage {d : Drive} (h : d.Served) (g : GenSet) (req : Request) : (d.stage g req).Served := by
  have waits (d' : Drive) (held : d'.busy = true) : d'.Served := .inr held
  unfold Drive.stage
  cases req with
  | plain =>
    dsimp only
    split
    · exact h
    · split
      next busy => exact waits _ busy
      next => exact .inl rfl
  | winddown =>
    dsimp only
    split
    next busy => exact waits _ busy
    next => exact .inl rfl
  | applying range =>
    dsimp only
    split
    next busy => exact waits _ busy
    next =>
      unfold Drive.proceed
      dsimp only
      split
      · exact .inl rfl
      · refine waits _ ?_
        simp [Drive.busy, Drive.beginRangeChange]

theorem State.takesSet_stageStep {v w : State} (drive : w.drive = v.drive) (g : GenSet) {limit : Nat}
    (clamped : limit = clampLimit w.engine.ratings.iMax v.drive.range) :
    v.TakesSet (w.stageStep g .plain) (g.clamp limit) := by
  intro hold free
  rw [State.stageStep_plain_drive w g (by rw [drive]; exact hold) (by rw [drive]; exact free), State.clampFor_plain, drive, clamped]
  exact ⟨rfl, rfl, rfl, rfl⟩

/-! ### What BODY start requests -/

/-- BODY of the context `c` has been started in `v`, `t` being the state with its requests made (R96, R101, R102, R127). -/
structure State.Started (v t : State) (c c' : StepContext) : Prop where
  inStep : t.StepIn .body c'
  record : c'.record = c.record
  bodySeq : c'.bodySeq = c.bodySeq
  capture : t.acq.capture = v.acq.capture
  blanks : t.acq.blanks = v.acq.blanks
  late : t.acq.alarmLate = v.acq.alarmLate
  alarm : t.acq.detectors.alarmDue = if c.record.body.armsAlarm then v.acq.alarmEdge else v.acq.detectors.alarmDue
  level : t.drive.level = v.drive.level
  served : v.drive.Served → t.drive.Served
  bay : t.bay = v.bay
  queue : t.queue = v.queue

section
variable {v : State} {c : StepContext}

/-- A set is staged with the requests made so far. -/
theorem State.Started.stageStep {w : State} {d : StepContext} (h : v.Started w c d) (g : GenSet) :
    ∃ c', v.Started (w.stageStep g .plain) c c' :=
  ⟨{ d with clamped := d.clamped || w.clampFor g .plain != g },
    { inStep := State.stageStep_stepIn h.inStep g .plain
      record := h.record
      bodySeq := h.bodySeq
      capture := h.capture
      blanks := h.blanks
      late := h.late
      alarm := h.alarm
      level := by rw [State.stageStep_drive]; exact (Drive.standsIn_stage_plain _ _).1.trans h.level
      served := fun served => by rw [State.stageStep_drive]; exact (h.served served).stage _ _
      bay := h.bay
      queue := (State.stageStep_queue _ _ _).trans h.queue }⟩

/-- The context changes with the requests made so far. -/
theorem State.Started.mapStep {w : State} {d : StepContext} (h : v.Started w c d) {f : StepContext → StepContext}
    (record : (f d).record = d.record) (bodySeq : (f d).bodySeq = d.bodySeq) : v.Started (w.mapStep f) c (f d) where
  inStep := by
    obtain ⟨walk, step, waiting, phase⟩ := h.inStep
    exact ⟨walk, by rw [State.mapStep_engine, step]; rfl, waiting, phase⟩
  record := record.trans h.record
  bodySeq := bodySeq.trans h.bodySeq
  capture := h.capture
  blanks := h.blanks
  late := h.late
  alarm := h.alarm
  level := h.level
  served := h.served
  bay := h.bay
  queue := (State.mapStep_queue _ _).trans h.queue

/-- A window is opened beside the requests made so far. -/
theorem State.Started.of_window {w u : State} {d : StepContext} (h : v.Started w c d) (drive : u.drive = w.drive)
    (rest : (u.engine, u.bay, u.queue) = (w.engine, w.bay, w.queue))
    (acq : (u.acq.capture, u.acq.blanks, u.acq.alarmLate, u.acq.detectors)
      = (w.acq.capture, w.acq.blanks, w.acq.alarmLate, w.acq.detectors)) : v.Started u c d := by
  simp only [Prod.mk.injEq] at rest acq
  obtain ⟨engine, bay, queue⟩ := rest
  obtain ⟨capture, blanks, late, detectors⟩ := acq
  obtain ⟨inStep, record, bodySeq, h4, h5, h6, h7, h8, h9, h10, h11⟩ := h
  exact ⟨by unfold State.StepIn at inStep ⊢; rwa [engine], record, bodySeq, by rwa [capture], by rwa [blanks], by rwa [late],
    by rwa [detectors], by rwa [drive], by rwa [drive], by rwa [bay], by rwa [queue]⟩

/-- Requests of acquisition and of the drive unit alone. -/
theorem State.started_of_acq {w : State} (inStep : v.StepIn .body c) (engine : w.engine = v.engine) (level : w.drive.level = v.drive.level)
    (served : v.drive.Served → w.drive.Served) (bay : w.bay = v.bay) (queue : w.queue = v.queue)
    (capture : w.acq.capture = v.acq.capture) (blanks : w.acq.blanks = v.acq.blanks) (late : w.acq.alarmLate = v.acq.alarmLate)
    (alarm : w.acq.detectors.alarmDue = if c.record.body.armsAlarm then v.acq.alarmEdge else v.acq.detectors.alarmDue) :
    v.Started w c c :=
  ⟨by unfold State.StepIn at inStep ⊢; rwa [engine], rfl, rfl, capture, blanks, late, alarm, level, served, bay, queue⟩

theorem State.armTripDetectors_acq (v : State) (detect : Detect) (threshold : Nat) :
    (v.armTripDetectors detect threshold).acq.window = v.acq.window
      ∧ (v.armTripDetectors detect threshold).acq.latest = v.acq.latest
      ∧ (v.armTripDetectors detect threshold).acq.capture = v.acq.capture
      ∧ (v.armTripDetectors detect threshold).acq.blanks = v.acq.blanks
      ∧ (v.armTripDetectors detect threshold).acq.alarmLate = v.acq.alarmLate
      ∧ (v.armTripDetectors detect threshold).acq.detectors.alarmDue
        = if (detect != .collapse) then v.acq.alarmEdge else v.acq.detectors.alarmDue := by
  cases detect <;> exact ⟨rfl, rfl, rfl, rfl, rfl, rfl⟩

/-- A trip step's detectors and its window (R140). -/
theorem State.started_trip (inStep : v.StepIn .body c) {detect : Detect} (threshold : Nat)
    (arms : c.record.body.armsAlarm = (detect != .collapse)) :
    v.Started ((v.armTripDetectors detect threshold).openWindow .span 0 []) c c
      ∧ v.Opens ((v.armTripDetectors detect threshold).openWindow .span 0 []).acq.window .span 0 (fun _ => False) := by
  obtain ⟨window, latest, capture, blanks, late, alarm⟩ := v.armTripDetectors_acq detect threshold
  refine ⟨State.started_of_acq inStep rfl rfl id rfl (State.openWindow_queue _ _ _ _) capture blanks late (by rw [arms]; exact alarm), ?_⟩
  exact ((v.armTripDetectors detect threshold).opens_openWindow .span 0 List.nodup_nil fun ch => by simp).of_same
    (by rw [window]; exact ⟨rfl, rfl⟩) latest rfl

/-- What BODY start requests for each kind (R127 to R131, R140, R144, R147, R152, R158, R164). -/
theorem State.starts_startBody (inStep : v.StepIn .body c) : ∃ c', v.Started v.startBody c c'
    ∧ v.BodyStarts v.startBody c c' (clampLimit v.engine.ratings.iMax v.drive.range) c.record.body := by
  have step := inStep.2.1
  have record : v.engine.record = c.record := Engine.record_of_step step
  have checked (mode : WindowMode) (length : Nat) :
      v.Opens (v.openWindow mode length (windowChannels [] c.record)).acq.window mode length
        (· ∈ c.record.checks.map (·.channel)) :=
    v.opens_openWindow mode length (nodup_windowChannels _ _) fun ch => by simp [mem_windowChannels]
  have withVoltage (mode : WindowMode) (length : Nat) :
      v.Opens (v.openWindow mode length (windowChannels [.measured .vOut] c.record)).acq.window mode length
        (fun ch => ch = .measured .vOut ∨ ch ∈ c.record.checks.map (·.channel)) :=
    v.opens_openWindow mode length (nodup_windowChannels _ _) fun ch => by rw [mem_windowChannels, List.mem_singleton]
  have guards (mode : WindowMode) (length : Nat) (channels : List CheckChannel) (t : State)
      (detectors : (v.openWindow mode length channels).armDetectors.acq.detectors = t.acq.detectors) : v.Guards t :=
    State.guards_armDetectors (v.openWindow mode length channels) detectors rfl rfl rfl rfl
  have started (mode : WindowMode) (length : Nat) (channels : List CheckChannel) (arms : c.record.body.armsAlarm = true) :
      v.Started (v.openWindow mode length channels).armDetectors c c :=
    State.started_of_acq inStep rfl rfl id rfl rfl rfl rfl rfl (by rw [arms]; rfl)
  unfold State.startBody
  rw [record]
  dsimp only
  cases body : c.record.body with
  | none => exact ⟨c, State.started_of_acq inStep rfl rfl id rfl rfl rfl rfl rfl (by rw [body]; rfl), trivial⟩
  | hold iSet =>
    exact ⟨c, started _ _ _ (by rw [body]; rfl), checked .counted c.record.window, guards _ _ _ _ rfl, rfl⟩
  | ramp iFrom iTo slope =>
    obtain ⟨c', staged⟩ := (started .span 0 (windowChannels [] c.record) (by rw [body]; rfl)).stageStep (.ramp (some iFrom) iTo slope)
    exact ⟨c', staged, checked .span 0, guards _ _ _ _ rfl, State.takesSet_stageStep rfl (.ramp (some iFrom) iTo slope) rfl⟩
  | pulse lo hi period high cycles =>
    obtain ⟨c', staged⟩ := (started .span 0 (windowChannels [] c.record) (by rw [body]; rfl)).stageStep (.pulse lo hi period high cycles)
    refine ⟨c', staged, checked .span 0, guards _ _ _ _ rfl, State.takesSet_stageStep rfl (.pulse lo hi period high cycles) rfl,
      fun hold free => ?_⟩
    dsimp only
    rw [State.stageStep_plain_drive (v.openWindow .span 0 _).armDetectors _ hold free]
    exact ⟨rfl, rfl⟩
  | tripSearch iFrom slope iCeiling detect threshold lo hi =>
    obtain ⟨armed, opened⟩ := State.started_trip inStep threshold (detect := detect) (by rw [body]; rfl)
    obtain ⟨c', staged⟩ := armed.stageStep (.ramp (some iFrom) iCeiling slope)
    exact ⟨c', staged, opened, State.awaits_armTripDetectors detect threshold rfl,
      State.takesSet_stageStep rfl (.ramp (some iFrom) iCeiling slope) rfl⟩
  | tripTime iPre iOver detect threshold tMin tMax =>
    obtain ⟨armed, opened⟩ := State.started_trip inStep threshold (detect := detect) (by rw [body]; rfl)
    obtain ⟨c', staged⟩ := armed.stageStep (GenSet.levelAt iOver)
    exact ⟨_, staged.mapStep (f := fun c => { c with wait := some (tMax + Config.tripWaitExtra) }) rfl rfl, opened,
      State.awaits_armTripDetectors detect threshold rfl, State.takesSet_stageStep rfl (GenSet.levelAt iOver) rfl, rfl⟩
  | recover iRest resetPulse =>
    by_cases none : resetPulse = 0
    · have waits : v.Started (v.setAcq (v.acq.armRegulation v.engine.ratings.vRegLow)) c c :=
        State.started_of_acq inStep rfl rfl id rfl rfl rfl rfl rfl (by rw [body]; rfl)
      refine ⟨{ c with stage := .regulationWait }, ?_, ?_, fun _ => ⟨rfl, ?_, ?_⟩, fun some => absurd none some⟩
      all_goals dsimp only; rw [if_pos none]
      · exact waits.mapStep (f := fun c => { c with stage := .regulationWait }) rfl rfl
      · rfl
      · rfl
      · refine ⟨_, rfl, rfl, fun x latest => ?_⟩
        simp [RunDetector.next, Acquisition.averageAtLeast, latest]
    · have pulses : v.Started (v.setDrive (v.drive.startResetPulse (resetPulse * 10))) c c :=
        State.started_of_acq inStep rfl rfl id rfl rfl rfl rfl rfl (by rw [body]; rfl)
      refine ⟨{ c with stage := .resetPulse }, ?_, ?_, fun zero => absurd zero none, fun _ => ⟨rfl, ?_, ?_⟩⟩
      all_goals dsimp only; rw [if_neg none]
      · exact pulses.mapStep (f := fun c => { c with stage := .resetPulse }) rfl rfl
      all_goals rfl
  | derate curveV curveT iFrom slope iCeiling kneeDrop tolLo tolHi =>
    exact ⟨_, (started _ _ _ (by rw [body]; rfl)).mapStep (f := fun c => { c with stage := .reference }) rfl rfl,
      withVoltage .counted c.record.window, guards _ _ _ _ rfl, rfl, rfl, rfl⟩
  | dropout iHold lead dropout restore vMin =>
    have coupled : v.Started (v.setDrive (v.drive.startCoupling lead dropout restore)).armDetectors c c := by
      refine State.started_of_acq inStep rfl ?_ ?_ rfl rfl rfl rfl rfl (by rw [body]; rfl)
      · change (v.drive.startCoupling lead dropout restore).level = _
        unfold Drive.startCoupling; split <;> rfl
      · intro _
        refine .inr ?_
        change (v.drive.startCoupling lead dropout restore).busy = true
        unfold Drive.startCoupling Drive.busy
        split <;> simp
    by_cases none : lead = 0
    · refine ⟨c, ?_, ?_, fun _ => ⟨?_, ?_⟩, fun some => absurd none some⟩
      all_goals dsimp only; rw [if_pos none]
      · exact coupled.of_window rfl rfl rfl
      · exact State.guards_armDetectors (v.setDrive _) rfl rfl rfl rfl rfl
      · have opens := (v.setDrive (v.drive.startCoupling lead dropout restore)).armDetectors.opens_openDropoutWindow
        rw [show (v.setDrive (v.drive.startCoupling lead dropout restore)).armDetectors.engine.record = c.record from record] at opens
        exact opens.of_same ⟨rfl, rfl⟩ rfl rfl
      · change v.drive.startCoupling lead dropout restore = _
        exact if_pos none
    · refine ⟨c, ?_, ?_, fun zero => absurd zero none, fun _ => ⟨?_, ?_⟩⟩
      all_goals dsimp only; rw [if_neg none]
      · exact coupled
      · exact State.guards_armDetectors (v.setDrive _) rfl rfl rfl rfl rfl
      · rfl
      · change v.drive.startCoupling lead dropout restore = _
        exact if_neg none

end

/-! ### The end of SETTLE -/

section
variable {s : State} {c : StepContext}

theorem Acquisition.settled_iff (a : Acquisition) (set : PerChannel Bool) :
    a.settled set = true ↔ ∀ d, set.get d = true → a.blanks.get d = .closed := by
  have all (d : Channel) : d ∈ [Channel.vOut, .iOut, .vLine, .pLine, .tInlet] := by cases d <;> simp
  unfold Acquisition.settled
  rw [List.all_eq_true]
  refine ⟨fun h d open_ => ?_, fun h d _ => ?_⟩
  · have := h d (all d)
    simpa [open_] using this
  · cases chosen : set.get d with
    | false => rfl
    | true => simp [h d chosen]

theorem State.checkSettle_of_open (inStep : s.StepIn .settle c) (waits : ∃ d, c.settleSet.get d = true ∧ s.acq.blanks.get d ≠ .closed) :
    s.checkSettle = s := by
  obtain ⟨d, chosen, open_⟩ := waits
  unfold State.checkSettle
  rw [inStep.2.2.2, inStep.2.1]
  exact if_neg fun settled => open_ ((Acquisition.settled_iff _ _).1 settled d chosen)

theorem State.checkSettle_of_settled (inStep : s.StepIn .settle c)
    (settled : ∀ d, c.settleSet.get d = true → s.acq.blanks.get d = .closed) : s.checkSettle = s.enterBody.deliverFound := by
  unfold State.checkSettle
  rw [inStep.2.2.2, inStep.2.1]
  exact if_pos ((Acquisition.settled_iff _ _).2 settled)

theorem State.checkSettle_of_other (other : s.engine.phase ≠ .settle) : s.checkSettle = s := by
  unfold State.checkSettle
  split
  next phase _ => exact absurd phase other
  next => rfl

/-- The context at BODY start (R26). -/
def StepContext.begun (c : StepContext) (seq : Seq) : StepContext := { c with bodySeq := seq, stage := .main }

/-- BODY is entered, with its requests not yet made (R26, R106). -/
def State.entersBody (s : State) : State :=
  ((s.mapStep (fun c => c.begun s.acq.seq)).setPhase .body).startCapture

theorem State.enterBody_eq (s : State) : s.enterBody = s.entersBody.startBody := rfl

theorem State.entersBody_stepIn {p : Phase} (inStep : s.StepIn p c) : s.entersBody.StepIn .body (c.begun s.acq.seq) := by
  obtain ⟨walk, step, waiting, -⟩ := inStep
  unfold State.entersBody State.StepIn
  rw [State.startCapture_engine]
  exact ⟨walk, by rw [State.setPhase_engine, State.mapStep_engine, step]; rfl, waiting, rfl⟩

theorem State.entersBody_acq (s : State) : s.entersBody.acq = { s.acq with capture := s.acq.startedCapture } := by
  unfold State.entersBody; rw [State.startCapture_acq]; rfl

/-- What the requests are judged against: the drive unit, the latest sample and what acquisition holds (R96). -/
theorem State.BodyStarts.of_same {v t : State} {d c' : StepContext} {limit : Nat} {body : StepBody}
    (h : v.BodyStarts t d c' limit body) (drive : v.drive = s.drive) (ratings : v.engine.ratings = s.engine.ratings)
    (store : v.store = s.store) (record : d.record = c.record) (acq : ∃ capture, v.acq = { s.acq with capture := capture }) :
    s.BodyStarts t c c' limit body := by
  obtain ⟨capture, acq⟩ := acq
  cases body with
  | none => trivial
  | _ =>
    simpa only [State.BodyStarts, State.Opens, State.Guards, State.Awaits, State.ArmsCollapse, State.ArmsAlarm, State.TakesSet,
      Acquisition.NoAlarmFound, drive, ratings, store, record, acq] using h

theorem State.startsCapture_startedCapture {t : State} (capture : t.acq.capture = s.acq.startedCapture) : s.StartsCapture t := by
  unfold State.StartsCapture
  rw [capture]
  refine ⟨fun terminal => ?_, fun other => Acquisition.startedCapture_of_not_terminal other⟩
  unfold Acquisition.startedCapture
  rw [terminal]
  cases s.acq.latest with
  | none => exact ⟨rfl, by simp⟩
  | some r => exact ⟨rfl, by simp⟩

/-- BODY has begun (R26, R96). -/
structure State.BeginsBody (s t : State) (c c' : StepContext) : Prop where
  inStep : t.StepIn .body c'
  record : c'.record = c.record
  bodySeq : c'.bodySeq = s.acq.seq
  requests : s.BodyStarts t c c' (clampLimit s.engine.ratings.iMax s.drive.range) c.record.body
  capture : s.StartsCapture t
  blanks : t.acq.blanks = s.acq.blanks
  late : t.acq.alarmLate = s.acq.alarmLate
  alarm : t.acq.detectors.alarmDue = if c.record.body.armsAlarm then s.acq.alarmEdge else s.acq.detectors.alarmDue
  level : t.drive.level = s.drive.level
  served : s.drive.Served → t.drive.Served
  bay : t.bay = s.bay
  queue : t.queue = s.queue

theorem State.beginsBody_enterBody {p : Phase} (inStep : s.StepIn p c) : ∃ c', s.BeginsBody s.enterBody c c' := by
  have acq := s.entersBody_acq
  have drive : s.entersBody.drive = s.drive := by unfold State.entersBody; rw [State.startCapture_drive]; rfl
  have bay : s.entersBody.bay = s.bay := by unfold State.entersBody; rw [State.startCapture_bay]; rfl
  have store : s.entersBody.store = s.store := by unfold State.entersBody; rw [State.startCapture_store]; rfl
  have queue : s.entersBody.queue = s.queue := by unfold State.entersBody; rw [State.startCapture_queue]; rfl
  have ratings : s.entersBody.engine.ratings = s.engine.ratings := by
    unfold State.entersBody; rw [State.startCapture_engine]; rfl
  obtain ⟨c', started, requests⟩ := State.starts_startBody (State.entersBody_stepIn inStep)
  rw [← State.enterBody_eq] at started requests
  rw [drive, ratings] at requests
  refine ⟨c', started.inStep, started.record, started.bodySeq,
    requests.of_same drive ratings store rfl ⟨_, acq⟩, State.startsCapture_startedCapture ?_, ?_, ?_, ?_, ?_, ?_, ?_, ?_⟩
  · rw [started.capture, acq]
  · rw [started.blanks, acq]
  · rw [started.late, acq]
  · rw [started.alarm, acq]; rfl
  · rw [started.level, drive]
  · intro served
    exact started.served (by rw [drive]; exact served)
  · rw [started.bay, bay]
  · rw [started.queue, queue]

/-- No alarm is delivered at BODY start when its operand puts it later or the first sample finds none (R102). -/
theorem State.BeginsBody.deliverFound {t : State} {c' : StepContext} (h : s.BeginsBody t c c')
    (quiet : s.acq.alarmLate = true ∨ (s.acq.detectors.alarmArmed = false
      ∧ (c.record.body.armsAlarm = false ∨ s.acq.NoAlarmFound))) : t.deliverFound = t := by
  unfold State.deliverFound
  refine if_neg ?_
  rw [h.late, h.alarm]
  rcases quiet with late | ⟨unarmed, none⟩
  · simp [late]
  · have notDue : s.acq.detectors.alarmDue = false := by simp [Detectors.alarmDue, unarmed]
    rcases none with arms | noAlarm
    · simp [arms, notDue]
    · have noEdge : s.acq.alarmEdge = false := by
        rw [← Bool.not_eq_true, Acquisition.alarmEdge_iff]; exact fun h => h noAlarm
      simp [noEdge, notDue]

/-! ### O45 -/

theorem exec_blankClose {ch : Channel} (closes : s.acq.blanks.get ch = .counting 0) :
    exec (.blankClose ch) s = .next (s.setAcq (s.acq.closeBlank ch)).checkSettle := by
  change Host.Outcome.next ((State.blankClose ch s).getD s) = _
  simp [State.blankClose, closes]

theorem PerChannel.get_put {α : Type} (p : PerChannel α) (c d : Channel) (x : α) :
    (p.put c x).get d = if d = c then x else p.get d := by
  cases c <;> cases d <;> rfl

/-! ### Blank flags -/

/-- From `s` to `v` the blanks have changed, and the latest sample carries their flags (R94, R97). -/
def Acquisition.Reblanked (a a' : Acquisition) : Prop :=
  ∃ blanks flags, a' = { a with blanks := blanks, latest := a.latest.map (fun r => { r with blank := flags }) }

section
variable {v t : State} {c' : StepContext} (flags : s.acq.Reblanked v.acq)
include flags

theorem State.Opens.of_reblanked (store : v.store = s.store) {w : Window} {mode : WindowMode} {length : Nat}
    {wanted : CheckChannel → Prop} (h : v.Opens w mode length wanted) : s.Opens w mode length wanted := by
  obtain ⟨blanks, flags, acq⟩ := flags
  obtain ⟨fresh, h1, h2, h3, h4, restarts, disturbed, h5, h6, h7, policy, h8, h9, h10, h11, none, some⟩ := h
  rw [acq] at restarts disturbed none some
  rw [store] at policy
  refine ⟨fresh, h1, h2, h3, h4, restarts, disturbed, h5, h6, h7, policy, h8, h9, h10, h11, fun latest => none (by simp [latest]),
    fun r latest => some { r with blank := flags } (by simp [latest])⟩

theorem State.ArmsCollapse.of_reblanked {threshold : Nat} (h : v.ArmsCollapse t threshold) : s.ArmsCollapse t threshold := by
  obtain ⟨blanks, flags, acq⟩ := flags
  obtain ⟨d, armed, limit, run⟩ := h
  rw [acq] at run
  exact ⟨d, armed, limit, fun x latest => run { x with blank := flags } (by simp [latest])⟩

theorem Acquisition.noAlarmFound_of_reblanked : v.acq.NoAlarmFound ↔ s.acq.NoAlarmFound := by
  obtain ⟨blanks, flags, acq⟩ := flags
  unfold Acquisition.NoAlarmFound
  rw [acq]
  cases s.acq.latest <;> simp

theorem State.ArmsAlarm.of_reblanked (h : v.ArmsAlarm t) : s.ArmsAlarm t := by
  unfold State.ArmsAlarm at h ⊢
  rwa [Acquisition.noAlarmFound_of_reblanked flags] at h

theorem State.Awaits.of_reblanked {detect : Detect} {threshold : Nat} (h : v.Awaits t detect threshold) :
    s.Awaits t detect threshold := by
  have detectors : v.acq.detectors = s.acq.detectors := by obtain ⟨blanks, flags, acq⟩ := flags; rw [acq]
  unfold State.Awaits at h ⊢
  rw [detectors] at h
  obtain ⟨collapse, alarm⟩ := h
  refine ⟨?_, ?_⟩
  · split at collapse
    next is => rw [if_pos is]; exact collapse
    next other => rw [if_neg other]; exact collapse.of_reblanked flags
  · split at alarm
    next is => rw [if_pos is]; exact alarm
    next other => rw [if_neg other]; exact alarm.of_reblanked flags

/-- The requests of BODY start do not look at the blanks and their flags (R96). -/
theorem State.BodyStarts.of_reblanked (drive : v.drive = s.drive) (ratings : v.engine.ratings = s.engine.ratings)
    (store : v.store = s.store) {limit : Nat} {body : StepBody} (h : v.BodyStarts t c c' limit body) :
    s.BodyStarts t c c' limit body := by
  have window : v.acq.window = s.acq.window := by obtain ⟨blanks, flags, acq⟩ := flags; rw [acq]
  have detectors : v.acq.detectors = s.acq.detectors := by obtain ⟨blanks, flags, acq⟩ := flags; rw [acq]
  have guards (h : v.Guards t) : s.Guards t := by
    unfold State.Guards at h ⊢
    rw [← ratings]
    exact ⟨h.1.of_reblanked flags, h.2.of_reblanked flags⟩
  have takes {g : GenSet} (h : v.TakesSet t g) : s.TakesSet t g := by
    unfold State.TakesSet at h ⊢; rwa [drive] at h
  cases body with
  | none => trivial
  | hold iSet =>
    obtain ⟨opens, guarded, held⟩ := h
    exact ⟨opens.of_reblanked flags store, guards guarded, held.trans drive⟩
  | ramp iFrom iTo slope =>
    obtain ⟨opens, guarded, set⟩ := h
    exact ⟨opens.of_reblanked flags store, guards guarded, takes set⟩
  | pulse lo hi period high cycles =>
    obtain ⟨opens, guarded, set, position⟩ := h
    rw [drive] at position
    exact ⟨opens.of_reblanked flags store, guards guarded, takes set, position⟩
  | tripSearch iFrom slope iCeiling detect threshold lo hi =>
    obtain ⟨opens, awaits, set⟩ := h
    exact ⟨opens.of_reblanked flags store, awaits.of_reblanked flags, takes set⟩
  | tripTime iPre iOver detect threshold tMin tMax =>
    obtain ⟨opens, awaits, set, wait⟩ := h
    exact ⟨opens.of_reblanked flags store, awaits.of_reblanked flags, takes set, wait⟩
  | recover iRest resetPulse =>
    obtain ⟨kept, waits, pulses⟩ := h
    refine ⟨kept.trans window, fun zero => ?_, fun some => ?_⟩
    · obtain ⟨stage, held, d, armed, threshold, run⟩ := waits zero
      obtain ⟨blanks, flags, acq⟩ := flags
      rw [acq] at run
      exact ⟨stage, held.trans drive, d, armed, threshold.trans (by rw [ratings]),
        fun x latest => run { x with blank := flags } (by simp [latest])⟩
    · obtain ⟨stage, same, pulse⟩ := pulses some
      exact ⟨stage, same.trans detectors, by rw [pulse, drive]⟩
  | derate curveV curveT iFrom slope iCeiling kneeDrop tolLo tolHi =>
    obtain ⟨opens, guarded, knee, held, stage⟩ := h
    exact ⟨opens.of_reblanked flags store, guards guarded, knee.trans (by rw [detectors]), held.trans drive, stage⟩
  | dropout iHold lead dropout restore vMin =>
    obtain ⟨guarded, offs, leads⟩ := h
    refine ⟨guards guarded, fun zero => ?_, fun some => ?_⟩
    · obtain ⟨opens, held⟩ := offs zero
      exact ⟨opens.of_reblanked flags store, by rw [held, drive]⟩
    · obtain ⟨kept, held⟩ := leads some
      exact ⟨kept.trans window, by rw [held, drive]⟩

theorem State.StartsCapture.of_reblanked (h : v.StartsCapture t) : s.StartsCapture t := by
  obtain ⟨blanks, flags, acq⟩ := flags
  unfold State.StartsCapture at h ⊢
  rw [acq] at h
  obtain ⟨terminal, other⟩ := h
  exact ⟨fun mode => ⟨(terminal mode).1, fun x latest => (terminal mode).2 { x with blank := flags } (by simp [latest])⟩, other⟩

end

/-- Settles O45, by the check of the settle set and the requests of BODY start. -/
theorem blankCloses : Obligations.BlankCloses := by
  intro s ch closes
  have run := exec_blankClose closes
  let u : State := s.setAcq (s.acq.closeBlank ch)
  refine ⟨fun other => ?_, fun c d inStep ne chosen open_ => ?_, fun c inStep closed quiet => ?_⟩
  · rw [State.checkSettle_of_other (s := u) other] at run
    exact ⟨u, run, rfl, rfl, rfl, rfl, rfl, rfl, rfl, rfl, rfl⟩
  · have still : u.acq.blanks.get d ≠ .closed := by
      change (s.acq.blanks.put ch .closed).get d ≠ _
      rw [PerChannel.get_put, if_neg ne]; exact open_
    rw [State.checkSettle_of_open (s := u) inStep ⟨d, chosen, still⟩] at run
    exact ⟨u, run, inStep, rfl⟩
  · have settled (d : Channel) (chosen : c.settleSet.get d = true) : u.acq.blanks.get d = .closed := by
      change (s.acq.blanks.put ch .closed).get d = _
      rw [PerChannel.get_put]
      split
      · rfl
      next ne => exact closed d chosen ne
    rw [State.checkSettle_of_settled (s := u) inStep settled] at run
    obtain ⟨c', begins⟩ := State.beginsBody_enterBody (s := u) inStep
    have flags : s.acq.Reblanked u.acq := ⟨_, _, rfl⟩
    rw [begins.deliverFound (by rwa [Acquisition.noAlarmFound_of_reblanked flags])] at run
    exact ⟨_, c', run, begins.inStep, begins.record, begins.bodySeq, begins.requests.of_reblanked flags rfl rfl rfl,
      begins.capture.of_reblanked flags, begins.bay, begins.queue⟩

/-! ### O44 -/

theorem exec_applyComplete (inStep : s.StepIn .applying c) (ended : s.drive.status = .ended) (unstaged : s.drive.staged = none) :
    exec .applyComplete s = .next s.reportSetEnd := by
  have stepping := inStep.stepping
  obtain ⟨-, -, -, phase⟩ := inStep
  change Host.Outcome.next (s.applyComplete.getD s) = _
  simp [State.applyComplete, stepping, phase, ended, unstaged]

theorem State.reportSetEnd_of_applying (inStep : s.StepIn .applying c) (unstaged : s.drive.staged = none) :
    s.reportSetEnd = (s.applied.checkSettle).setDrive s.applied.checkSettle.drive.releaseStaged := by
  have stepping := inStep.stepping
  obtain ⟨walk, -, -, phase⟩ := inStep
  have taken : (s.setDrive s.drive.holdLevel).takeSetEnd = s.applied.checkSettle := by
    unfold State.takeSetEnd
    rw [show (s.setDrive s.drive.holdLevel).engine = s.engine from rfl, walk, phase]
    dsimp only
    rw [if_pos (by exact stepping), if_pos (by exact Option.isNone_iff_eq_none.2 unstaged)]
    rfl
  unfold State.reportSetEnd
  dsimp only
  rw [taken]

theorem State.applied_engine (s : State) : s.applied.engine = { s.engine with phase := .settle } := rfl

theorem State.applied_drive (s : State) : s.applied.drive = s.drive.holdLevel := rfl

theorem State.applied_bay (step : s.engine.step = some c) : s.applied.bay =
    s.bay.lowerClaim (claimOf c.record.body.peak s.engine.ratings.vNom) := by
  have claim : s.stepClaim = claimOf c.record.body.peak s.engine.ratings.vNom := by
    unfold State.stepClaim; rw [Engine.record_of_step step]
  rw [← claim]; rfl

theorem State.applied_reblanked (s : State) : s.acq.Reblanked s.applied.acq := ⟨_, _, rfl⟩

/-- The blanks that an APPLY completion leaves (R95). -/
theorem State.applied_blank (s : State) (ch : Channel) : s.applied.acq.blanks.get ch = s.blankAfterApply ch := by
  have blank : s.applied.acq.blanks.get ch = match s.acq.blanks.get ch with
      | .waiting => Blank.ofCount ((s.store.channels.get ch).settle
          + (if s.drive.rangeChanged then (s.store.channels.get ch).rangeSettle else 0))
      | b => b := PerChannel.get_tabulate _ _
  rw [blank]
  unfold State.blankAfterApply
  cases s.acq.blanks.get ch <;> simp [Blank.ofCount]

/-- The state in which APPLY has completed, as any state shows it that keeps its bay, blanks, level and queue. -/
theorem State.completesApply_of_applied {t : State} (step : s.engine.step = some c) (bay : t.bay = s.applied.bay)
    (blanks : t.acq.blanks = s.applied.acq.blanks) (level : t.drive.level = s.drive.level) (queue : t.queue = s.queue) :
    s.CompletesApply t c := by
  rw [State.applied_bay step] at bay
  refine ⟨by rw [bay]; rfl, fun within covered => ?_, by rw [bay]; rfl, fun ch => by rw [blanks, State.applied_blank], level, queue⟩
  rw [level, bay]
  exact le_min covered (claimOf_mono _ within)

/-- Settles O44, by the completion and the requests of BODY start. -/
theorem applyCompletesIntoSettle : Obligations.ApplyCompletesIntoSettle := by
  intro s c inStep ended unstaged
  have run := exec_applyComplete inStep ended unstaged
  rw [State.reportSetEnd_of_applying inStep unstaged] at run
  obtain ⟨walk, step, waiting, phase⟩ := inStep
  have inSettle : s.applied.StepIn .settle c := by
    unfold State.StepIn; rw [State.applied_engine]; exact ⟨walk, step, waiting, rfl⟩
  have queue : s.applied.queue = s.queue := rfl
  refine ⟨fun ⟨ch, chosen, open_⟩ => ?_, fun closed quiet => ?_⟩
  · rw [State.checkSettle_of_open inSettle ⟨ch, chosen, by rw [State.applied_blank]; exact open_⟩, State.applied_drive,
      Drive.releaseStaged_of_none (d := s.drive.holdLevel) unstaged] at run
    exact ⟨_, run, inSettle, State.completesApply_of_applied step rfl rfl rfl queue, rfl, rfl⟩
  · rw [State.checkSettle_of_settled inSettle fun d chosen => by rw [State.applied_blank]; exact closed d chosen] at run
    obtain ⟨c', begins⟩ := State.beginsBody_enterBody inSettle
    have flags := s.applied_reblanked
    have late : s.applied.acq.alarmLate = s.acq.alarmLate := rfl
    have detectors : s.applied.acq.detectors = s.acq.detectors := rfl
    rw [begins.deliverFound (by rwa [late, detectors, Acquisition.noAlarmFound_of_reblanked flags])] at run
    have served : s.applied.enterBody.drive.Served := begins.served (.inl unstaged)
    rw [served.releaseStaged, State.setDrive_self] at run
    let u : State := s.setDrive s.drive.holdLevel
    have flags' : u.acq.Reblanked s.applied.acq := flags
    exact ⟨_, c', run, begins.inStep, begins.record, begins.bodySeq,
      State.completesApply_of_applied step begins.bay begins.blanks begins.level (begins.queue.trans queue),
      State.BodyStarts.of_reblanked (s := u) flags' rfl rfl rfl begins.requests, begins.capture.of_reblanked flags⟩

end

end Sys2Proof.Machine


/-! ## Trips (O33, O34) -/

namespace Sys2Proof.Machine

/-! ### What stands while the walk goes on, of the drive unit and the detectors -/

/-- What staging, a step's end and a trip drop keep of the drive unit and the detectors. -/
structure DriveKeeps (P : Drive → Detectors → Prop) : Prop where
  fields : ∀ d k line completed changed, P d k →
    P { d with lineSetpoint := line, completed := completed, rangeChanged := changed } k
  stage : ∀ d k g req, P d k → P (d.stage g req) k
  ended : ∀ d k, P d k → P d.endResetPulse .disarmed
  dropped : ∀ d k, P d k → P d.tripDrop k

/-- A property of the drive unit and the detectors holds of a state. -/
def State.Has (P : Drive → Detectors → Prop) (s : State) : Prop := P s.drive s.acq.detectors

section
variable {P : Drive → Detectors → Prop} {s : State}

theorem State.Has.of_same (h : s.Has P) {t : State} (drive : t.drive = s.drive) (detectors : t.acq.detectors = s.acq.detectors) :
    t.Has P := by
  unfold State.Has at h ⊢; rwa [drive, detectors]

variable (keeps : DriveKeeps P)
include keeps

theorem DriveKeeps.endStep (h : s.Has P) (cause : EndCause) (vs : List Verdict) {c : StepContext}
    (step : s.engine.step = some c) : (s.endStep cause vs).Has P := by
  have ended := keeps.ended _ _ h
  have drive : P (s.endDrive cause c) .disarmed := by
    unfold State.endDrive
    split
    · exact keeps.dropped _ _ ended
    · exact ended
  unfold State.Has
  rw [s.endStep_drive cause vs c step, s.endStep_acq cause vs c step]
  split
  · exact keeps.dropped _ _ drive
  · exact drive

theorem DriveKeeps.enterApply (h : s.Has P) : s.enterApply.Has P := by
  unfold State.Has
  rw [State.enterApply_drive, State.enterApply_detectors]
  exact keeps.stage _ _ _ _ (keeps.fields s.drive _ _ _ _ h)

theorem DriveKeeps.admitted (h : s.Has P) : s.admitted.Has P := by
  rw [State.admitted_eq]
  split
  · exact h
  · exact keeps.enterApply (s := s.setBay s.bay.idleProtocol) h

theorem DriveKeeps.enterWinddown (h : s.Has P) (reason : Reason) : (s.enterWinddown reason).Has P := by
  unfold State.Has
  rw [State.enterWinddown_drive, State.enterWinddown_detectors]
  exact keeps.stage _ _ _ _ (keeps.fields s.drive _ _ s.drive.completed s.drive.rangeChanged h)

theorem DriveKeeps.compareRest (h : s.Has P) : s.compareRest.Has P := by
  unfold State.compareRest
  (repeat' split)
  · exact h
  · exact State.Has.of_same (s := s.setDrive _) (keeps.stage s.drive _ _ .plain h) rfl rfl
  · exact h

theorem DriveKeeps.enterAdmit (h : s.Has P) (index : Nat) : (s.enterAdmit index).Has P := by
  have begun : (s.beginStep index).Has P := keeps.fields s.drive _ s.drive.lineSetpoint 0 s.drive.rangeChanged h
  unfold State.enterAdmit
  dsimp only
  split
  · exact keeps.admitted begun
  · split
    · exact keeps.endStep begun _ _ (c := s.freshContext index) rfl
    · exact begun.of_same (State.beginAttempt_drive _) (by rw [State.beginAttempt_acq])

theorem DriveKeeps.walkKeeps : WalkKeeps (State.Has P) (State.Has P) where
  weaken _ h := h
  engine _ _ h := h
  queue _ _ h := h
  winddown _ reason h := keeps.enterWinddown h reason
  rest _ h := keeps.compareRest h
  admission _ index _ h := ⟨keeps.enterAdmit h index, fun _ => keeps.enterAdmit h index⟩

theorem DriveKeeps.goOn (h : s.Has P) : s.goOn.Has P := keeps.walkKeeps.goOn h

theorem DriveKeeps.tripExit (h : s.Has P) {c : StepContext} (step : s.engine.step = some c) : s.tripExit.Has P := by
  obtain ⟨capture, acq, -⟩ := s.startTripCapture_acq
  have started : s.startTripCapture.Has P := h.of_same (State.startTripCapture_drive _) (by rw [acq])
  unfold State.tripExit
  dsimp only
  split
  · exact started
  · exact keeps.endStep started _ _ (by rw [State.startTripCapture_engine]; exact step)

end

theorem driveKeeps_served : DriveKeeps (fun d _ => d.Served) where
  fields _ _ _ _ _ h := h
  stage _ _ g req h := h.stage g req
  ended d _ h := by
    rw [Drive.endResetPulse_eq]; exact h
  dropped d _ _ := .inl (by rw [Drive.tripDrop_eq])

theorem driveKeeps_kneeless : DriveKeeps (fun _ k => k.knee = none) where
  fields _ _ _ _ _ h := h
  stage _ _ _ _ h := h
  ended _ _ _ := rfl
  dropped _ _ h := h

/-! ### The delivery -/

/-- The state in which a trip has dropped the drive unit and disarmed the detectors (R79, R103). -/
def State.tripped (s : State) : State := (s.setAcq s.acq.disarmTrips).tripDrop

/-- The step takes the trip by its kind and phase (R103). -/
theorem State.deliverTrip_eq {s : State} {c : StepContext} (step : s.engine.step = some c) : s.deliverTrip =
    if c.record.kind.tripKind then
      if s.engine.phase = .body then s.tripped.takeOwnTrip s.tripEvent c else s.tripped.takeLateTrip s.tripEvent
    else if c.record.kind = .dropout then s.tripped.takeDropoutTrip s.tripEvent s.drive.coupling.span
    else s.tripped.takeUnexpectedTrip s.tripEvent s.windowEnds := by
  have kind : s.engine.kind = c.record.kind := Engine.kind_of_step step
  unfold State.deliverTrip
  extract_lets t span completes u
  rw [show u.engine = s.engine from rfl, step, kind]
  rfl

section
variable {s : State} {c : StepContext}

/-- The context that a trip step's own trip leaves (R141, R146, R148). -/
def StepContext.ownTrip (c : StepContext) (t : Trip) (bodySeq : Seq) (count : Nat) : StepContext :=
  { c with
    figures := { c.figures with
      trip := some t, tTrip := if c.record.kind = .tripTime then some (tripTime t.date bodySeq) else none }
    contributions := c.contributions ++ tripVerdict c.record.body t.iTrip (tripTime t.date bodySeq)
    windowCount := count
    wait := none }

/-- A trip step's own trip: in EXIT, before the trip capture (R141). -/
theorem State.takeOwnTrip_spec (t : Trip) (d : StepContext) (step : s.engine.step = some c) :
    ∃ u : State, s.takeOwnTrip t d = u.tripExit
      ∧ u.engine = { s.engine with phase := .exiting, step := some (c.ownTrip t d.bodySeq s.acq.window.count) }
      ∧ u.drive = s.drive ∧ u.bay = s.bay.assertUnit .trip ∧ u.acq = { s.acq with window := s.acq.window.close }
      ∧ u.queue = s.queue := by
  have record : s.engine.record = c.record := Engine.record_of_step step
  have kind : s.engine.kind = c.record.kind := Engine.kind_of_step step
  obtain ⟨v, made⟩ : ∃ v : State, v = (s.setBay (s.bay.assertUnit .trip)).mapFigures (fun g => { g with
    trip := some t, tTrip := if s.engine.kind = .tripTime then some (tripTime t.date d.bodySeq) else none }) := ⟨_, rfl⟩
  have stepV : v.engine.step = some { c with figures := { c.figures with
      trip := some t, tTrip := if c.record.kind = .tripTime then some (tripTime t.date d.bodySeq) else none } } := by
    rw [made, State.mapFigures_engine, kind]
    simp only [State.setBay_engine, step, Option.map_some]
  have recordV : v.engine.record = c.record := (Engine.record_of_step stepV).trans rfl
  have own : s.takeOwnTrip t d = ((((v.contribute (tripVerdict c.record.body t.iTrip (tripTime t.date d.bodySeq))).closeCounting).mapStep
      (fun c => { c with wait := none })).setPhase .exiting).tripExit := by
    rw [← recordV, made]; rfl
  refine ⟨_, own, ?_, ?_, ?_, ?_, ?_⟩
  · simp only [State.setPhase_engine, State.mapStep_engine, State.closeCounting_engine, State.contribute_engine,
      State.contribute_acq, stepV, Option.map_some]
    rw [made]; rfl
  all_goals simp [made]

/-- The context of a step that a trip ends unexpectedly, with its window evaluated at the sample that completes it (R103,
R135, R156). -/
def State.unexpectedContext (s : State) (c : StepContext) (t : Trip) (completes : Bool) : StepContext :=
  let watched : StepContext := { c with
    figures := if c.record.kind = .recover then { c.figures with watchMin := s.windowMin } else c.figures }
  let judged := if completes then s.evaluatedContext watched else c
  { judged with figures := { judged.figures with trip := some t } }

/-- An unexpected trip ends the step in its phase (R27, R135). -/
theorem State.takeUnexpectedTrip_spec (t : Trip) (completes : Bool) (step : s.engine.step = some c) :
    ∃ u : State, s.takeUnexpectedTrip t completes = u.endStep .trip [.unexpectedTrip]
      ∧ u.engine = { s.engine with step := some (s.unexpectedContext c t completes) }
      ∧ u.drive = s.drive ∧ u.bay = s.bay.assertUnit .trip ∧ u.acq = { s.acq with window := { s.acq.window with state := if completes then .done else s.acq.window.state } }
      ∧ u.queue = s.queue := by
  cases completes with
  | false =>
    refine ⟨_, rfl, ?_, rfl, rfl, rfl, rfl⟩
    simp only [Bool.false_eq_true, if_false, State.mapFigures_engine, State.setBay_engine, step]
    rfl
  | true =>
    have evaluated : ∃ e : State, s.evaluateAtTrip = e.evaluateWindow
        ∧ e = s.setEngine { s.engine with step := some { c with
          figures := if c.record.kind = .recover then { c.figures with watchMin := s.windowMin } else c.figures } } := by
      have kind : s.engine.kind = c.record.kind := Engine.kind_of_step step
      unfold State.evaluateAtTrip
      by_cases recovers : c.record.kind = .recover
      · rw [kind, recovers, if_pos rfl]
        exact ⟨_, rfl, by simp [State.mapFigures, State.mapStep, step]⟩
      · rw [kind, if_neg recovers]
        refine ⟨s, ?_, ?_⟩
        · split
          next is => exact absurd is recovers
          next => rfl
        · rw [← step]; rfl
    obtain ⟨e, is, eq⟩ := evaluated
    have stepE : e.engine.step = some { c with
        figures := if c.record.kind = .recover then { c.figures with watchMin := s.windowMin } else c.figures } := by rw [eq]; rfl
    have acq : e.acq = s.acq := by rw [eq]; rfl
    refine ⟨_, rfl, ?_, ?_, ?_, ?_, ?_⟩
    all_goals
      simp only [if_true, is, State.mapFigures_engine, State.setBay_engine, State.mapFigures_drive, State.setBay_drive,
        State.mapFigures_bay, State.setBay_bay, State.mapFigures_acq, State.setBay_acq, State.mapFigures_queue,
        State.setBay_queue, State.evaluateWindow_step stepE, State.evaluateWindow_drive, State.evaluateWindow_bay,
        State.evaluateWindow_acq, State.evaluateWindow_queue]
    · rw [eq]; rfl
    · rw [eq]; rfl
    · rw [eq]; rfl
    · rw [acq]
    · rw [eq]; rfl

/-- The context of a DROPOUT step that a trip ends (R165, R167). -/
def State.dropoutContext (s : State) (c : StepContext) (t : Trip) (span : Option TripSpan) : StepContext :=
  let marked : StepContext := { c with figures := { c.figures with trip := some t, tripSpan := span } }
  if s.acq.window.live then
    s.evaluatedContext { marked with figures := { marked.figures with vMin := s.windowMin } }
  else marked

/-- A trip ends a DROPOUT step in EXIT (R167). -/
theorem State.takeDropoutTrip_spec (t : Trip) (span : Option TripSpan) (step : s.engine.step = some c) :
    ∃ (u : State) (window : Window) (capture : Capture), s.takeDropoutTrip t span = u.endStep .trip [.holdup]
      ∧ u.engine = { s.engine with step := some (s.dropoutContext c t span), phase := .exiting }
      ∧ u.drive = s.drive ∧ u.bay = s.bay ∧ u.acq = { s.acq with window := window, capture := capture }
      ∧ window.live = false ∧ u.queueAtEnd = s.queueAtEnd ∧ u.finishedCapture = s.finishedCapture := by
  let v : State := s.mapFigures (fun g => { g with trip := some t, tripSpan := span })
  let d : StepContext := { c with figures := { c.figures with trip := some t, tripSpan := span } }
  have stepV : v.engine.step = some d := by simp [v, step, d]
  have evaluated : ∃ window, v.evaluateDropout.engine = { s.engine with step := some (s.dropoutContext c t span) }
      ∧ v.evaluateDropout.drive = s.drive ∧ v.evaluateDropout.bay = s.bay
      ∧ v.evaluateDropout.acq = { s.acq with window := window } ∧ window.live = false := by
    unfold State.evaluateDropout State.dropoutContext
    cases live : s.acq.window.live with
    | true =>
      have stepW : (v.mapFigures (fun g => { g with vMin := v.windowMin })).engine.step
          = some { d with figures := { d.figures with vMin := s.windowMin } } := by
        rw [State.mapFigures_engine, stepV]; rfl
      refine ⟨{ s.acq.window with state := .done }, ?_, ?_, ?_, ?_, rfl⟩
      all_goals rw [if_pos (by exact live)]
      · rw [State.evaluateWindow_step stepW]; rfl
      · rw [State.evaluateWindow_drive]; rfl
      · rw [State.evaluateWindow_bay]; rfl
      · rw [State.evaluateWindow_acq]; rfl
    | false =>
      refine ⟨s.acq.window, ?_, ?_, ?_, ?_, live⟩
      all_goals rw [if_neg (by rw [show v.acq.window.live = false from live]; decide)]
      · rw [if_neg Bool.false_ne_true, State.mapFigures_engine, step]; rfl
      all_goals rfl
  obtain ⟨window, engine, drive, bay, acq, closed⟩ := evaluated
  obtain ⟨queueEnd, captureEnd⟩ := v.evaluateDropout.endBody_atEnd
  have capture : v.evaluateDropout.acq.capture = s.acq.capture := by rw [acq]
  have queue : v.evaluateDropout.queue = s.queue := by rw [State.evaluateDropout_queue]; rfl
  have tag : v.evaluateDropout.engine.record.tag = s.engine.record.tag := by
    rw [Engine.record_of_step (c := s.dropoutContext c t span) (by rw [engine]), Engine.record_of_step step]
    unfold State.dropoutContext
    dsimp only
    split <;> rfl
  refine ⟨v.evaluateDropout.endBody, window, v.evaluateDropout.bodyEndCapture, rfl, ?_, ?_, ?_, ?_, closed,
    queueEnd.trans (State.queueAtEnd_congr queue capture tag), captureEnd.trans (State.finishedCapture_congr queue capture)⟩
  · rw [State.endBody_engine, engine]
  · rw [State.endBody_drive, drive]
  · rw [State.endBody_bay, bay]
  · rw [State.endBody_acq, acq]

section
variable {P : Drive → Detectors → Prop} (keeps : DriveKeeps P)
include keeps

/-- What the drop and the disarming leave is kept by the delivery. -/
theorem DriveKeeps.deliverTrip (h : s.tripped.Has P) (step : s.engine.step = some c) : s.deliverTrip.Has P := by
  have stepT : s.tripped.engine.step = some c := step
  rw [State.deliverTrip_eq step]
  split
  · split
    · obtain ⟨u, own, engine, drive, -, acq, -⟩ := State.takeOwnTrip_spec s.tripEvent c stepT
      rw [own]
      exact keeps.tripExit (h.of_same drive (by rw [acq])) (by rw [engine])
    · exact keeps.tripExit (s := (s.tripped.setBay _).mapFigures _) h (by rw [State.mapFigures_engine, State.setBay_engine, stepT]; rfl)
  · split
    · obtain ⟨u, window, capture, ends, engine, drive, -, acq, -⟩ :=
        State.takeDropoutTrip_spec s.tripEvent s.drive.coupling.span stepT
      rw [ends]
      exact keeps.endStep (h.of_same drive (by rw [acq])) _ _ (by rw [engine])
    · obtain ⟨u, ends, engine, drive, -, acq, -⟩ := State.takeUnexpectedTrip_spec s.tripEvent s.windowEnds stepT
      rw [ends]
      exact keeps.endStep (h.of_same drive (by rw [acq])) _ _ (by rw [engine])

end

/-! ### Who delivers a trip -/

theorem Detectors.collapseDue_iff (d : Detectors) : d.collapseDue = true ↔ ∃ c, d.collapse = some c ∧ 3 ≤ c.run := by
  unfold Detectors.collapseDue
  cases d.collapse with
  | none => simp
  | some c => exact decide_eq_true_iff.trans ⟨fun run => ⟨c, rfl, run⟩, fun ⟨_, is, run⟩ => by injection is with is; rwa [is]⟩

theorem Detectors.tripBack_eq (d : Detectors) : d.tripBack = if d.collapseDue then 2 else 0 := by
  unfold Detectors.tripBack
  cases armed : d.collapse with
  | none => simp [Detectors.collapseDue, armed]
  | some c =>
    by_cases run : 3 ≤ c.run
    · rw [if_pos ((Detectors.collapseDue_iff d).2 ⟨c, armed, run⟩)]; exact if_pos run
    · rw [if_neg fun due => ?_]
      · exact if_neg run
      · obtain ⟨e, is, runs⟩ := (Detectors.collapseDue_iff d).1 due
        rw [armed] at is
        injection is with is
        exact run (is ▸ runs)

theorem State.alarmDetect_of_due (stepping : s.engine.stepping = true) (armed : s.acq.detectors.alarmArmed = true)
    (hit : s.acq.detectors.alarmHit = true) : s.alarmDetect = some s.deliverTrip.goOn := by
  simp [State.alarmDetect, stepping, Detectors.alarmDue, armed, hit]

/-- With no knee detector armed the walk that goes on after a trip has no knee to deliver. -/
theorem State.kneeEvent_of_kneeless (knee : s.acq.detectors.knee = none) : s.kneeEvent = none := by
  simp [State.kneeEvent, Detectors.kneeDue, knee]

theorem State.deliverFound_of_found (armed : s.acq.detectors.alarmArmed = true) (hit : s.acq.detectors.alarmHit = true)
    (early : s.acq.alarmLate = false) : s.deliverFound = s.deliverTrip.goOn :=
  if_pos (by simp [Detectors.alarmDue, armed, hit, early])

/-- A delivered trip is taken by the step in progress, and the walk goes on (R103). -/
theorem State.Delivers.taken {u : State} {out : Host.Outcome State Fault Refusal} {p : Phase} (delivers : s.Delivers u out)
    (inStep : u.StepIn p c) : out = .next u.deliverTrip.goOn := by
  rcases delivers with ⟨same, ⟨d, armed, run⟩, outcome⟩ | ⟨armed, hit, ⟨same, outcome⟩ | ⟨i, settled, early, knee, made, outcome⟩
    | ⟨ch, d, closes, inSettle, closed, early, made, outcome⟩ | ⟨d, applying, ended, unstaged, closed, early, made, outcome⟩⟩
  · subst same
    rw [outcome]
    change Host.Outcome.next (u.collapseDetect.getD u) = _
    have due : u.acq.detectors.collapseDue = true := (Detectors.collapseDue_iff _).2 ⟨d, armed, run⟩
    simp [State.collapseDetect, inStep.stepping, due]
  · subst same
    rw [outcome, State.alarmDetect_of_due inStep.stepping armed hit]; rfl
  · rw [outcome, exec_sample_of_settled i s settled, ← made]
    have taken : (if i.alarmLate then u else u.alarmDetect.getD u) = u.deliverTrip.goOn := by
      rw [early, State.alarmDetect_of_due inStep.stepping armed hit]; rfl
    unfold State.deliverEarly
    rw [taken]
    dsimp only
    split
    · rfl
    next notLate =>
      have kneeless : u.tripped.Has (fun _ k => k.knee = none) := knee.resolve_right notLate
      have gone : u.deliverTrip.goOn.acq.detectors.knee = none :=
        driveKeeps_kneeless.goOn (driveKeeps_kneeless.deliverTrip kneeless inStep.2.1)
      rw [State.kneeEvent_of_kneeless gone]; rfl
  · rw [outcome, exec_blankClose closes]
    have settled (e : Channel) (chosen : d.settleSet.get e = true) : (s.setAcq (s.acq.closeBlank ch)).acq.blanks.get e = .closed := by
      change (s.acq.blanks.put ch .closed).get e = _
      rw [PerChannel.get_put]
      split
      · rfl
      next ne => exact closed e chosen ne
    rw [State.checkSettle_of_settled (s := s.setAcq (s.acq.closeBlank ch)) inSettle settled, ← made]
    obtain ⟨c', begins⟩ := State.beginsBody_enterBody (s := s.setAcq (s.acq.closeBlank ch)) inSettle
    rw [← made] at begins
    rw [State.deliverFound_of_found armed hit (begins.late.trans early)]
  · rw [outcome, exec_applyComplete applying ended unstaged, State.reportSetEnd_of_applying applying unstaged]
    have inSettle : s.applied.StepIn .settle d := by
      obtain ⟨walk, step, waiting, -⟩ := applying
      unfold State.StepIn; rw [State.applied_engine]; exact ⟨walk, step, waiting, rfl⟩
    rw [State.checkSettle_of_settled inSettle closed, ← made]
    obtain ⟨c', begins⟩ := State.beginsBody_enterBody inSettle
    rw [← made] at begins
    rw [State.deliverFound_of_found armed hit (begins.late.trans early)]
    have dropped : u.tripped.Has (fun d _ => d.Served) := .inl (by
      change u.drive.tripDrop.staged = none
      rw [Drive.tripDrop_eq])
    have served : u.deliverTrip.goOn.drive.Served := driveKeeps_served.goOn (driveKeeps_served.deliverTrip dropped inStep.2.1)
    rw [served.releaseStaged, State.setDrive_self]

/-! ### O33 -/

theorem State.Delivers.tripDue {u : State} {out : Host.Outcome State Fault Refusal} (delivers : s.Delivers u out) :
    u.acq.detectors.tripDue = true := by
  unfold Detectors.tripDue
  rw [Bool.or_eq_true]
  rcases delivers with ⟨same, armed, -⟩ | ⟨armed, hit, -⟩
  · rw [same]; exact .inl ((Detectors.collapseDue_iff _).2 armed)
  · exact .inr (by simp [Detectors.alarmDue, armed, hit])

theorem OwnUnit.assertFor_trip (unit : OwnUnit) : unit.assertFor .trip = .trip := by cases unit <;> rfl

/-! ### I_trip -/

theorem largest_mem {l : List Int} (some : l ≠ []) : largest l ∈ l := by
  induction l with
  | nil => exact absurd rfl some
  | cons x l ih =>
    cases l with
    | nil => simp [largest]
    | cons y l =>
      rw [largest.eq_3 x (y :: l) (by simp)]
      rcases max_choice x (largest (y :: l)) with first | later
      · rw [first]; simp
      · rw [later]; exact List.mem_cons_of_mem _ (ih (by simp))

theorem le_largest {l : List Int} {x : Int} (mem : x ∈ l) : x ≤ largest l := by
  induction l with
  | nil => simp at mem
  | cons y l ih =>
    cases l with
    | nil => simp at mem; simp [largest, mem]
    | cons z l =>
      rw [largest.eq_3 y (z :: l) (by simp)]
      rcases List.mem_cons.1 mem with rfl | mem
      · exact le_max_left _ _
      · exact (ih mem).trans (le_max_right _ _)

/-- The samples of the history that I_trip is taken over (R121). -/
theorem mem_tripCurrentWindow (history : List RawSample) (back : Nat) (p : RawSample) :
    p ∈ tripCurrentWindow history back ↔ ∃ k, k < 16 ∧ history[back + k]? = some p := by
  unfold tripCurrentWindow
  rw [List.mem_iff_getElem?]
  refine exists_congr fun k => ?_
  rw [List.getElem?_take, List.getElem?_drop]
  by_cases inside : k < 16
  · simp [inside, Config.tripCurrentSamples]
  · simp [inside, Config.tripCurrentSamples]

/-- I_trip is the largest raw I_OUT of its samples, with their over-range mark (R121). -/
theorem isTripCurrent_tripCurrent (history : List RawSample) (back : Nat) :
    IsTripCurrent history back (tripCurrent history back) := by
  refine ⟨fun within => ?_, fun k p inside sample => ?_, ?_⟩
  · have some : (tripCurrentWindow history back).map (·.iOut) ≠ [] := by
      have first : history[back] ∈ tripCurrentWindow history back :=
        (mem_tripCurrentWindow _ _ _).2 ⟨0, by decide, List.getElem?_eq_getElem within⟩
      exact List.ne_nil_of_mem (List.mem_map_of_mem first)
    obtain ⟨p, mem, is⟩ := List.mem_map.1 (largest_mem some)
    obtain ⟨k, inside, sample⟩ := (mem_tripCurrentWindow _ _ _).1 mem
    exact ⟨k, p, inside, sample, is⟩
  · exact le_largest (List.mem_map_of_mem ((mem_tripCurrentWindow _ _ _).2 ⟨k, inside, sample⟩))
  · change (tripCurrentWindow history back).any (·.iOver) = true ↔ _
    rw [List.any_eq_true]
    refine ⟨fun ⟨p, mem, marked⟩ => ?_, fun ⟨k, p, inside, sample, marked⟩ => ?_⟩
    · obtain ⟨k, inside, sample⟩ := (mem_tripCurrentWindow _ _ _).1 mem
      exact ⟨k, p, inside, sample, marked⟩
    · exact ⟨p, (mem_tripCurrentWindow _ _ _).2 ⟨k, inside, sample⟩, marked⟩

/-- The trip event, field by field (R103, R121). -/
theorem State.tripEvent_spec (u : State) :
    u.tripEvent.date = u.acq.seq - BitVec.ofNat 32 u.acq.detectors.tripBack
      ∧ u.tripEvent.source = u.acq.detectors.tripSource
      ∧ u.tripEvent.iTrip = (tripCurrent u.acq.history u.acq.detectors.tripBack).1
      ∧ u.tripEvent.mark = (tripCurrent u.acq.history u.acq.detectors.tripBack).2 := by
  rw [Detectors.tripBack_eq, Detectors.tripSource, Detectors.tripBack_eq]
  unfold State.tripEvent Detectors.alarmDue
  refine ⟨rfl, ?_, rfl, rfl⟩
  cases collapse : u.acq.detectors.collapseDue <;> simp [collapse]

/-- Whether the latest sample completes the step's window (R103, R134, R136). -/
theorem State.windowEnds_iff {u : State} {p : Phase} (inStep : u.StepIn p c) : u.windowEnds = true ↔ u.Completes p c := by
  obtain ⟨-, step, -, phase⟩ := inStep
  have complete : u.acq.window.complete = true ↔ u.acq.window.mode = .counted ∧ u.acq.window.state = .opened
      ∧ u.acq.window.length ≤ u.acq.window.count := by simp [Window.complete, and_assoc]
  have last : u.drive.lastCycle = true ↔ ∃ lo hi period high cycles, u.drive.active = .pulse lo hi period high cycles
      ∧ (u.drive.stopPending = true ∨ (cycles ≠ 0 ∧ cycles ≤ u.drive.completed + 1)) := by
    unfold Drive.lastCycle
    cases active : u.drive.active <;> simp
  unfold State.windowEnds State.Completes StepRecord.kind
  rw [Engine.record_of_step step]
  cases body : c.record.body <;> simp [StepBody.kind, complete, last, phase]

section
variable {u : State} {p : Phase}

/-- What a trip leaves of the drive unit when it ends the step (R79, R88). -/
theorem State.dropsEnding_of_end {u e : State} {vs : List Verdict} (step : e.engine.step = some c) (drive : e.drive = u.tripped.drive)
    (detectors : e.acq.detectors = u.tripped.acq.detectors) (queue : e.queueAtEnd = u.queueAtEnd) :
    ∃ d, u.DropsEnding d ∧ d.StandsIn (e.endStep .trip vs).goOn.drive
      ∧ (32 ≤ u.queueAtEnd.length → (e.endStep .trip vs).goOn.drive = d) := by
  have quiet : e.acq.detectors.tripDue = false := by rw [detectors]; rfl
  have ended : (e.endStep .trip vs).drive = u.drive.tripDrop.endResetPulse := by
    rw [e.endStep_drive _ _ _ step]
    simp [State.tripMeetsEnd, State.endDrive, quiet, drive, State.tripped]
  refine ⟨_, ⟨u.drive.tripDrop, u.drive.dropsTo_tripDrop, Drive.endResetPulse_eq _⟩, ?_, fun full => ?_⟩
  · rw [← ended]; exact State.standsIn_endStep_goOn _ _ _ step
  · rw [State.goOn_of_full _ (by rw [e.endStep_queue _ _ _ step, queue]; exact full), ended]

/-- An evaluation contributes LIMIT at most (R29, R100). -/
theorem State.rank_evaluatedContext {n : Nat} (ranks : ∀ v ∈ c.contributions, n < v.rank) (below : n < (.limit : Verdict).rank) :
    ∀ v ∈ (u.evaluatedContext c).contributions, n < v.rank := by
  intro v mem
  rcases List.mem_append.1 mem with earlier | limit
  · exact ranks v earlier
  · by_cases passes : (c.record.checks.map u.acq.window.evaluate).all (·.pass) = true
    · rw [if_pos passes] at limit; simp at limit
    · rw [if_neg passes, List.mem_singleton] at limit
      rw [limit]; exact below

/-- Settles O33, by the delivery and the end of the step. -/
theorem tripEndsStepUnexpectedly : Obligations.TripEndsStepUnexpectedly := by
  refine ⟨fun history back => isTripCurrent_tripCurrent history back, fun s u out p c back delivers inStep backEq ranks kinds => ?_⟩
  have taken := delivers.taken inStep
  obtain ⟨date, source, iTrip, mark⟩ := u.tripEvent_spec
  have completes := State.windowEnds_iff inStep
  obtain ⟨walk, step, waiting, phase⟩ := inStep
  obtain ⟨e, ends, engine, drive, bay, acq, queue⟩ :=
    State.takeUnexpectedTrip_spec (s := u.tripped) u.tripEvent u.windowEnds step
  have notTrip : c.record.kind.tripKind = false ∧ c.record.kind ≠ .dropout := by
    rcases kinds with kind | kind | kind | kind | kind <;> rw [kind] <;> decide
  rw [State.deliverTrip_eq step, if_neg (by rw [notTrip.1]; decide), if_neg notTrip.2, ends] at taken
  let d : StepContext := u.tripped.unexpectedContext c u.tripEvent u.windowEnds
  have stepE : e.engine.step = some d := by rw [engine]
  have tag : e.engine.record.tag = u.engine.record.tag := by
    rw [Engine.record_of_step stepE, Engine.record_of_step step]
    unfold d State.unexpectedContext
    dsimp only
    split <;> rfl
  have queueEnd : e.queueAtEnd = u.queueAtEnd := State.queueAtEnd_congr queue (by rw [acq]; rfl) tag
  have captureEnd : e.finishedCapture = u.finishedCapture := State.finishedCapture_congr queue (by rw [acq]; rfl)
  have offers := State.offersResult_endStep (s := u) (u := e) .trip [.unexpectedTrip] stepE queueEnd captureEnd
  have record : d.record = c.record := by
    unfold d State.unexpectedContext
    dsimp only
    split <;> rfl
  have contributed : ∀ v ∈ d.contributions, 4 < v.rank := by
    unfold d State.unexpectedContext
    dsimp only
    split
    · exact State.rank_evaluatedContext ranks (by decide)
    · exact ranks
  have verdict : verdictOf (d.contributions ++ [.unexpectedTrip]) = .unexpectedTrip :=
    verdictOf_concat_of_rank (by decide) contributed
  have level : e.drive.level = 0 := by rw [drive]; change u.drive.tripDrop.level = 0; rw [Drive.tripDrop_eq]
  have unit : e.bay.ownUnit = .trip := by rw [bay]; exact OwnUnit.assertFor_trip _
  refine ⟨_, e.endResult .trip [.unexpectedTrip] d, u.tripEvent, taken, offers.offered, verdict, ?_, ?_, ?_, rfl,
    by rw [date, backEq], source, by rw [iTrip, backEq], by rw [mark, backEq],
    State.dropsEnding_of_end stepE drive (by rw [acq]) queueEnd, fun done => ?_, fun notDone => ?_⟩
  · change e.engine.phase = p
    rw [engine]; exact phase
  · exact State.endLevel_of_resting .trip
      ((admitted_of_rank fun v mem => (Nat.lt_succ_self 3).trans (contributed v mem)).append ⟨by decide, by decide⟩) level
  · change (e.endBay .trip [.unexpectedTrip] d).ownUnit.asserted = true
    rw [OwnUnit.asserted_iff, State.endBay_unit_of_fail _ _ _ _ (by rw [verdict]; decide), unit]
    decide
  · have ends := completes.2 done
    have is : d = u.tripped.unexpectedContext c u.tripEvent true := by unfold d; rw [ends]
    have closed : e.acq.window.live = false := by rw [acq, ends]; rfl
    refine ⟨by rw [is]; rfl, ?_, fun recovers => ?_⟩
    · change (e.endContext [.unexpectedTrip] d).windowCount = _
      rw [State.endContext, closed, is]; rfl
    · change d.figures.watchMin = _
      rw [is, State.unexpectedContext, if_pos rfl, if_pos recovers]; rfl
  · have ends : u.windowEnds = false := Bool.eq_false_iff.2 fun ends => notDone (completes.1 ends)
    have is : d = u.tripped.unexpectedContext c u.tripEvent false := by unfold d; rw [ends]
    have same : e.acq.window = u.acq.window := by rw [acq, ends]; rfl
    refine ⟨by rw [is]; rfl, by rw [is]; rfl, fun notDerate started => ?_⟩
    change (e.endContext [.unexpectedTrip] d).windowCount = _
    have live : u.acq.window.live = true := by
      unfold Window.live
      rcases started with opened | waits
      · rw [opened]; rfl
      · rw [waits]; rfl
    have kind : d.record.kind ≠ .derate := by rw [record]; exact notDerate
    simp [State.endContext, same, live, kind]

end

end

end Sys2Proof.Machine


/-! ## The own trip of a trip step and the trip of DROPOUT (O34) -/

namespace Sys2Proof.Machine

/-! ### The trip capture -/

/-- The `n` whole blocks of the pairs `m`, numbered from the next index of capture (R108, R109). -/
def State.blocks (s : State) (m : List RawSample) (n : Nat) : List Record :=
  (List.range n).map fun k => .captureBlock ⟨s.engine.record.tag, s.acq.capture.nextIndex + k, (m.drop (12 * k)).take 12⟩

/-- Capture once `n` whole blocks of the pairs `m` have been placed and the others fill. -/
def Capture.blocked (c : Capture) (m : List RawSample) (n : Nat) : Capture :=
  { c with fill := m.drop (12 * n), nextIndex := c.nextIndex + n, posted := c.posted + n }

/-- The first twelve pairs make the first block, and the others the blocks after it. -/
theorem State.blocks_succ {s u : State} {f l : List RawSample} (n : Nat) (full : f.length = 12)
    (tag : u.engine.record.tag = s.engine.record.tag) (next : u.acq.capture.nextIndex = s.acq.capture.nextIndex + 1) :
    s.blocks (f ++ l) (n + 1) = .captureBlock ⟨s.engine.record.tag, s.acq.capture.nextIndex, f⟩ :: u.blocks l n := by
  unfold State.blocks
  rw [List.range_succ_eq_map, List.map_cons, List.map_map]
  refine congrArg₂ _ ?_ (List.map_congr_left fun k _ => ?_)
  · simp [← full]
  · have skips : (f ++ l).drop (12 * (k + 1)) = l.drop (12 * k) := by
      rw [show 12 * (k + 1) = f.length + 12 * k by omega, List.drop_length_add_append]
    simp only [Function.comp, skips, tag, next, Nat.succ_eq_add_one, Nat.add_assoc, Nat.add_comm 1 k]

/-- While at least 8 entries stay free, the pairs are placed in whole blocks of 12 and the others fill (R108, R109). -/
theorem State.offerPairs_spec (l : List RawSample) : ∀ (s : State) (m : List RawSample), m = s.acq.capture.fill ++ l →
    s.acq.capture.fill.length < 12 → s.queue.length + m.length / 12 ≤ 25 →
    (State.offerPairs l s).acq.capture = s.acq.capture.blocked m (m.length / 12)
      ∧ (State.offerPairs l s).queue = s.queue ++ s.blocks m (m.length / 12) := by
  induction l with
  | nil =>
    intro s m all short _
    have none : m.length / 12 = 0 := by rw [all, List.append_nil]; omega
    rw [none]
    exact ⟨by simp [State.offerPairs, Capture.blocked, all], by simp [State.offerPairs, State.blocks]⟩
  | cons p l ih =>
    intro s m all short free
    have all' : m = (s.acq.capture.fill ++ [p]) ++ l := by rw [all]; simp
    have length : (s.acq.capture.fill ++ [p]).length = s.acq.capture.fill.length + 1 := by simp
    let joined := s.setCapture { s.acq.capture with fill := s.acq.capture.fill ++ [p] }
    by_cases full : 12 ≤ (s.acq.capture.fill ++ [p]).length
    · have twelve : (s.acq.capture.fill ++ [p]).length = 12 := by omega
      have count : m.length / 12 = l.length / 12 + 1 := by rw [all', List.length_append, twelve]; omega
      let placed := (joined.setQueue (s.queue ++ [.captureBlock ⟨s.engine.record.tag, s.acq.capture.nextIndex, s.acq.capture.fill ++ [p]⟩])).setCapture
        { s.acq.capture with fill := [], nextIndex := s.acq.capture.nextIndex + 1, posted := s.acq.capture.posted + 1 }
      have offered : joined.offerBlock = placed := by
        unfold State.offerBlock
        rw [if_pos]
        · rfl
        · change 8 ≤ 32 - s.queue.length
          omega
      have unfolds : State.offerPairs (p :: l) s = State.offerPairs l placed := by
        rw [State.offerPairs, ← offered]
        exact congrArg _ (if_pos full)
      obtain ⟨capture, queue⟩ := ih placed l rfl (by change 0 < 12; decide) (by
        change (s.queue ++ [_]).length + _ ≤ 25
        simp only [List.length_append, List.length_singleton]; omega)
      rw [unfolds, count]
      refine ⟨?_, ?_⟩
      · rw [capture]
        have skips : m.drop (12 * (l.length / 12 + 1)) = l.drop (12 * (l.length / 12)) := by
          rw [all', show 12 * (l.length / 12 + 1) = (s.acq.capture.fill ++ [p]).length + 12 * (l.length / 12) by omega,
            List.drop_length_add_append]
        unfold Capture.blocked
        rw [skips]
        simp [placed, Nat.add_assoc, Nat.add_comm 1]
      · rw [queue, all', State.blocks_succ (s := s) (u := placed) _ twelve rfl rfl]
        simp [placed]
    · have unfolds : State.offerPairs (p :: l) s = State.offerPairs l joined := by
        rw [State.offerPairs]
        exact congrArg _ (if_neg full)
      rw [unfolds]
      exact ih joined m all' (Nat.lt_of_not_le full) free

/-- The trip capture takes the history, oldest first, and collects 48 samples more (R108). -/
theorem State.startTripCapture_spec {s : State} (mode : s.acq.capture.mode = .trip) (fill : s.acq.capture.fill = [])
    (free : s.queue.length + s.acq.history.length / 12 ≤ 25) :
    s.startTripCapture.acq.capture
        = { s.acq.capture.blocked s.acq.history.reverse (s.acq.history.length / 12) with state := .collecting, left := 48 }
      ∧ s.startTripCapture.queue = s.queue ++ s.blocks s.acq.history.reverse (s.acq.history.length / 12) := by
  have started := State.offerPairs_spec s.acq.history.reverse
    (s.setCapture { s.acq.capture with state := .collecting, left := Config.tripCaptureAfter }) s.acq.history.reverse
    (by simp [fill]) (by simp [fill]) (by simpa using free)
  rw [List.length_reverse] at started
  unfold State.startTripCapture
  rw [if_pos mode]
  exact ⟨started.1.trans rfl, started.2.trans rfl⟩

/-! ### The trip step in EXIT -/

section
variable {s : State} {c : StepContext}

/-- A trip step without a capture ends at the delivery sample with its unit held (R136, R142, R149). -/
theorem State.tripExit_ends {u v : State} (step : v.engine.step = some c) (phase : v.engine.phase = .exiting)
    (unit : v.bay.ownUnit = .trip) (level : v.drive.level = 0) (kind : c.record.kind ≠ .recover)
    (mode : v.acq.capture.mode = .none) (idle : v.acq.capture.state = .idle) (contributed : Admitted c.contributions)
    (queue : v.queue = u.queue) (capture : v.acq.capture = u.acq.capture) (tag : v.engine.record.tag = u.engine.record.tag) :
    ∃ r, u.Offered v.tripExit.goOn r ∧ r.endPhase = .exiting ∧ r.exitLevel = 0 ∧ r.censusHeld = true
      ∧ r.verdict = verdictOf c.contributions ∧ r.figures = c.figures
      ∧ (v.acq.window.live = false → r.windowCount = c.windowCount) := by
  have unstarted : v.startTripCapture = v := if_neg (by rw [mode]; decide)
  have ends : v.tripExit = v.endStep .normal [] := by
    unfold State.tripExit
    rw [unstarted]
    exact if_neg (by rw [idle]; decide)
  rw [ends]
  refine ⟨v.endResult .normal [] c, (State.offersResult_endStep .normal [] step (State.queueAtEnd_congr queue capture tag)
      (State.finishedCapture_congr queue capture)).offered, phase,
    State.endLevel_of_resting .normal (by rwa [List.append_nil]) level, ?_, ?_, rfl, fun closed => ?_⟩
  · change (v.endBay .normal [] c).ownUnit.asserted = true
    rw [OwnUnit.asserted_iff, State.endBay_unit, unit, if_neg (by simp [kind])]
    decide
  · exact congrArg verdictOf (List.append_nil _)
  · change (v.endContext [] c).windowCount = _
    simp [State.endContext, closed]

/-- A trip step takes a trip in BODY as its own, and in EXIT beside NO_TRIP, and goes to its trip exit (R141, R149). -/
theorem State.deliverTrip_of_tripStep {s : State} {p : Phase} (inStep : s.StepIn p c) (kind : c.record.kind.tripKind = true)
    (place : p = .body ∨ p = .exiting) :
    ∃ (v : State) (c' : StepContext), s.deliverTrip = v.tripExit ∧ v.engine = { s.engine with phase := .exiting, step := some c' }
      ∧ v.drive = s.tripped.drive ∧ v.bay = s.bay.assertUnit .trip
      ∧ v.acq = { s.acq.disarmTrips with window := if p = .body then s.acq.window.close else s.acq.window }
      ∧ v.queue = s.queue
      ∧ c' = if p = .body then c.ownTrip s.tripEvent c.bodySeq s.acq.window.count
          else { c with figures := { c.figures with trip := some s.tripEvent } } := by
  obtain ⟨-, step, -, phase⟩ := inStep
  rw [State.deliverTrip_eq step, if_pos kind, phase]
  rcases place with rfl | rfl
  · obtain ⟨v, own, engine, drive, bay, acq, queue⟩ := State.takeOwnTrip_spec (s := s.tripped) s.tripEvent c step
    rw [if_pos rfl]
    exact ⟨v, _, own, engine, drive, bay, acq, queue, rfl⟩
  · rw [if_neg (by decide)]
    refine ⟨(s.tripped.setBay (s.bay.assertUnit .trip)).mapFigures (fun g => { g with trip := some s.tripEvent }),
      { c with figures := { c.figures with trip := some s.tripEvent } }, rfl, ?_, rfl, rfl, rfl, rfl, rfl⟩
    have engine : (s.tripped.setBay (s.bay.assertUnit .trip)).engine = s.engine := rfl
    rw [State.mapFigures_engine, engine, step, ← phase]
    rfl

/-- t_trip counts from the sample after BODY start (R122). -/
theorem tripTime_eq (date bodySeq : Seq) : tripTime date bodySeq =
    if date = bodySeq then 0 else (date - (bodySeq + 1)).toNat := rfl

/-- A trip ends a DROPOUT step with HOLDUP (R167). -/
theorem State.rank_dropoutContext {u : State} {t : Trip} {span : Option TripSpan} (contributed : c.contributions = []) :
    ∀ v ∈ (u.dropoutContext c t span).contributions, (.holdup : Verdict).rank < v.rank := by
  unfold State.dropoutContext
  dsimp only
  split
  · exact State.rank_evaluatedContext (by simp [contributed]) (by decide)
  · simp [contributed]

theorem State.dropoutContext_keeps (u : State) (c : StepContext) (t : Trip) (span : Option TripSpan) :
    (u.dropoutContext c t span).record = c.record ∧ (u.dropoutContext c t span).figures.trip = some t
      ∧ (u.dropoutContext c t span).figures.tripSpan = span := by
  unfold State.dropoutContext
  dsimp only
  split <;> exact ⟨rfl, rfl, rfl⟩

/-- Settles O34, by the delivery, the trip capture and the end of the step. -/
theorem tripIsOwnTripOfTripStep : Obligations.TripIsOwnTripOfTripStep := by
  intro s u out c back delivers backEq
  obtain ⟨date, -, iTrip, -⟩ := u.tripEvent_spec
  rw [← backEq] at date iTrip
  have rest : u.tripped.drive.level = 0 := by
    change u.drive.tripDrop.level = 0
    rw [Drive.tripDrop_eq]
  refine ⟨fun inStep contributed mode idle => ?_, fun blocks place kind mode idle fill count free => ?_,
    fun inStep contributed kind mode idle => ?_, fun iHold lead dropout restore vMin inStep contributed body unit => ?_⟩
  · have ends (kind : c.record.kind.tripKind = true) : ∃ t r, out = .next t ∧ u.Offered t r ∧ r.endPhase = .exiting ∧ r.exitLevel = 0
        ∧ r.censusHeld = true ∧ r.figures = (c.ownTrip u.tripEvent c.bodySeq u.acq.window.count).figures
        ∧ r.windowCount = u.acq.window.count
        ∧ r.verdict = verdictOf (tripVerdict c.record.body u.tripEvent.iTrip (tripTime u.tripEvent.date c.bodySeq)) := by
      obtain ⟨v, c', own, engine, drive, bay, acq, queue, context⟩ := State.deliverTrip_of_tripStep inStep kind (.inl rfl)
      rw [if_pos rfl] at context acq
      have contributions : c'.contributions = tripVerdict c.record.body u.tripEvent.iTrip (tripTime u.tripEvent.date c.bodySeq) := by
        rw [context]
        exact (congrArg (· ++ _) contributed).trans (List.nil_append _)
      have record : c'.record = c.record := by rw [context]; rfl
      have admitted : Admitted c'.contributions := by
        rw [contributions]
        refine admitted_of_rank fun v mem => ?_
        unfold tripVerdict at mem
        (repeat' split at mem) <;> simp at mem <;> rw [mem] <;> decide
      have stepV : v.engine.step = some c' := by rw [engine]
      obtain ⟨r, offered, phase, level, held, verdict, figures, counted⟩ := State.tripExit_ends (u := u) stepV (by rw [engine])
        (by rw [bay]; exact OwnUnit.assertFor_trip _) (by rw [drive]; exact rest)
        (by rw [record]; intro is; rw [is] at kind; exact absurd kind (by decide)) (by rw [acq]; exact mode)
        (by rw [acq]; exact idle) admitted queue (by rw [acq]; rfl)
        (by rw [Engine.record_of_step stepV, Engine.record_of_step inStep.2.1, record])
      refine ⟨_, r, delivers.taken inStep, by rw [own]; exact offered, phase, level, held, by rw [figures, context],
        (counted (by rw [acq]; rfl)).trans (by rw [context]; rfl), by rw [verdict, contributions]⟩
    refine ⟨fun iFrom slope iCeiling detect threshold lo hi body => ?_, fun iPre iOver detect threshold tMin tMax body => ?_⟩
    · obtain ⟨t, r, taken, offered, phase, level, held, figures, counted, verdict⟩ := ends (by
        rw [StepRecord.kind, body]; rfl)
      refine ⟨t, r, u.tripEvent, taken, offered, phase, level, held, by rw [figures]; rfl, iTrip, counted, ?_⟩
      rw [verdict, body]
      change verdictOf (if _ then _ else _) = _
      split <;> rfl
    · obtain ⟨t, r, taken, offered, phase, level, held, figures, counted, verdict⟩ := ends (by
        rw [StepRecord.kind, body]; rfl)
      refine ⟨t, r, tripTime u.tripEvent.date c.bodySeq, taken, offered, phase, level, held, ?_, counted, ?_, ?_⟩
      · rw [figures]
        exact if_pos (by rw [StepRecord.kind, body]; rfl)
      · rw [tripTime_eq, date]
      · rw [verdict, body]
        change verdictOf (if _ then _ else if _ then _ else _) = _
        (repeat' split) <;> rfl
  · have tripKind : c.record.kind.tripKind = true := by rcases kind with kind | kind <;> rw [kind] <;> rfl
    obtain ⟨p, inStep, phase⟩ : ∃ p, u.StepIn p c ∧ (p = .body ∨ p = .exiting) := by
      rcases place with body | ⟨exits, -⟩
      · exact ⟨_, body, .inl rfl⟩
      · exact ⟨_, exits, .inr rfl⟩
    obtain ⟨v, c', own, engine, drive, bay, acq, queue, context⟩ := State.deliverTrip_of_tripStep inStep tripKind phase
    have stepV : v.engine.step = some c' := by rw [engine]
    have trip : c'.figures.trip = some u.tripEvent ∧ c'.record = c.record := by
      rw [context]; split <;> exact ⟨rfl, rfl⟩
    obtain ⟨capture, placed⟩ := State.startTripCapture_spec (s := v) (by rw [acq]; exact mode) (by rw [acq]; exact fill)
      (by rw [queue, acq]; rw [count] at free; exact free)
    have captureV : v.acq.capture = u.acq.capture := by rw [acq]; rfl
    have history : v.acq.history = u.acq.history := by rw [acq]; rfl
    rw [captureV, history, ← count] at capture
    rw [queue, history, ← count] at placed
    have waits : v.startTripCapture.engine.waiting = none := by
      rw [State.startTripCapture_engine, engine]; exact inStep.2.2.1
    have collects : v.tripExit = v.startTripCapture := if_pos (by rw [capture])
    obtain ⟨started, acqStarted, -⟩ := v.startTripCapture_acq
    have detectors : v.startTripCapture.acq.detectors = u.acq.disarmTrips.detectors := by rw [acqStarted, acq]
    refine ⟨v.startTripCapture, c', u.tripEvent, ?_, ⟨?_, ?_, waits, ?_⟩, trip.1, date, ?_, ?_, ?_, ?_, ?_, ?_, ?_, ?_, ?_, ?_, ?_⟩
    · rw [delivers.taken inStep, own, collects, State.goOn_of_none _ waits]
    · rw [State.startTripCapture_engine, engine]; exact inStep.1
    · rw [State.startTripCapture_engine]; exact stepV
    · rw [State.startTripCapture_engine, engine]
    · rw [State.startTripCapture_drive, drive]; exact rest
    · rw [State.startTripCapture_drive, drive]
      change u.drive.tripDrop.dropHold = true
      rw [Drive.tripDrop_eq]
    · rw [State.startTripCapture_drive, drive]
      change u.drive.tripDrop.loadEnable = _
      rw [Drive.tripDrop_eq]
    · rw [State.startTripCapture_bay, bay]; exact OwnUnit.assertFor_trip _
    · rw [detectors]; rfl
    · rw [detectors]; rfl
    · rw [capture]
    · rw [capture]
    · rw [capture]; rfl
    · rw [capture]; rfl
    · rw [placed]
      unfold State.blocks
      rw [captureV, Engine.record_of_step stepV, trip.2]
  · have tripKind : c.record.kind.tripKind = true := by rcases kind with kind | kind <;> rw [kind] <;> rfl
    obtain ⟨v, c', own, engine, drive, bay, acq, queue, context⟩ := State.deliverTrip_of_tripStep inStep tripKind (.inr rfl)
    rw [if_neg (by decide)] at context
    have stepV : v.engine.step = some c' := by rw [engine]
    have contributions : c'.contributions = [.noTrip] := by rw [context]; exact contributed
    have record : c'.record = c.record := by rw [context]
    obtain ⟨r, offered, phase, level, held, verdict, figures, -⟩ := State.tripExit_ends (u := u) stepV (by rw [engine])
      (by rw [bay]; exact OwnUnit.assertFor_trip _) (by rw [drive]; exact rest)
      (by rw [record]; intro is; rw [is] at tripKind; exact absurd tripKind (by decide)) (by rw [acq]; exact mode)
      (by rw [acq]; exact idle) (by rw [contributions]; exact ⟨by decide, by decide⟩) queue (by rw [acq]; rfl)
      (by rw [Engine.record_of_step stepV, Engine.record_of_step inStep.2.1, record])
    exact ⟨_, r, u.tripEvent, delivers.taken inStep, by rw [own]; exact offered, by rw [verdict, contributions]; rfl, phase, level,
      held, by rw [figures, context], date, by rw [figures, context]⟩
  · have notTrip : c.record.kind = .dropout := by rw [StepRecord.kind, body]; rfl
    have taken := delivers.taken inStep
    obtain ⟨-, step, -, -⟩ := inStep
    obtain ⟨e, window, capture, ends, engine, drive, bay, acq, closed, queueEnd, captureEnd⟩ :=
      State.takeDropoutTrip_spec (s := u.tripped) u.tripEvent u.drive.coupling.span step
    rw [State.deliverTrip_eq step, if_neg (by rw [notTrip]; decide), if_pos notTrip, ends] at taken
    let d : StepContext := u.tripped.dropoutContext c u.tripEvent u.drive.coupling.span
    have stepE : e.engine.step = some d := by rw [engine]
    obtain ⟨record, trip, span⟩ := u.tripped.dropoutContext_keeps c u.tripEvent u.drive.coupling.span
    have ranks := State.rank_dropoutContext (u := u.tripped) (t := u.tripEvent) (span := u.drive.coupling.span) contributed
    have verdict : verdictOf (d.contributions ++ [.holdup]) = .holdup := verdictOf_concat_of_rank (by decide) ranks
    have offers := State.offersResult_endStep (s := u) (u := e) .trip [.holdup] stepE queueEnd captureEnd
    refine ⟨_, e.endResult .trip [.holdup] d, u.tripEvent, taken, offers.offered, verdict, ?_, ?_, ?_, trip,
      State.dropsEnding_of_end stepE drive (by rw [acq]) queueEnd, date, fun n off restored lead => ?_, fun n restored off => ?_,
      fun n restore => ?_, fun reopened => ?_, fun shut => ?_⟩
    · change e.engine.phase = _
      rw [engine]
    · exact State.endLevel_of_resting .trip ((admitted_of_rank fun v mem => lt_trans (by decide) (ranks v mem)).append
        ⟨by decide, by decide⟩) (by rw [drive]; exact rest)
    · change (e.endBay .trip [.holdup] d).ownUnit.asserted = true ↔ _
      have bayU : e.bay.ownUnit = u.bay.ownUnit := by rw [bay]; rfl
      rw [OwnUnit.asserted_iff, State.endBay_unit_of_fail _ _ _ _ (by rw [verdict]; decide), bayU]
      rcases unit with unit | unit <;> rw [unit] <;> decide
    · exact span.trans (by rw [lead]; rfl)
    · exact span.trans (by rw [off]; rfl)
    · exact span.trans (by rw [restore]; rfl)
    · have live : u.tripped.acq.window.live = true := by
        change u.acq.window.live = true
        unfold Window.live
        rcases reopened with opened | waits
        · rw [opened]; rfl
        · rw [waits]; rfl
      change d.figures.vMin = _ ∧ d.checks = _
      unfold d State.dropoutContext
      rw [if_pos live]
      exact ⟨rfl, rfl⟩
    · have live : u.tripped.acq.window.live = false := by
        change u.acq.window.live = false
        unfold Window.live
        rw [shut]; rfl
      change d.figures.vMin = _ ∧ d.checks = _
      unfold d State.dropoutContext
      rw [live]
      exact ⟨rfl, rfl⟩

end

end Sys2Proof.Machine


/-! ## DERATE (O47) -/

namespace Sys2Proof.Machine

/-- The drive unit that holds no set back does not begin to at a sample (R71, R73). -/
theorem Drive.busy_update {d : Drive} (free : d.busy = false) : d.update.busy = false := by
  simp only [Drive.busy, Bool.or_eq_false_iff, bne_eq_false_iff_eq] at free ⊢
  obtain ⟨⟨noPulse, noChange⟩, uncoupled⟩ := free
  rw [Drive.update_of_noChange noChange]
  refine ⟨⟨?_, ?_⟩, ?_⟩
  · unfold Drive.pulsing at noPulse
    unfold Drive.pulsing Drive.act
    dsimp only
    split at noPulse
    next => exact absurd noPulse (by decide)
    next none =>
      split
      next lo hi period high cycles active acting =>
        split at active
        all_goals simp_all
      next => rfl
  · exact (Drive.act_rangeChange _).trans noChange
  · rw [uncoupled]; rfl

theorem curveMissing_iff (store : PlanStore) (id : Nat) (axis : Axis) : curveMissing store id axis = true
    ↔ (store.curve id).points = [] ∨ (store.curve id).axis ≠ some axis := by
  unfold curveMissing
  simp

section
variable {s : State} {c : StepContext} {curveV : Nat} {curveT : Option Nat} {iFrom slope iCeiling kneeDrop tolLo tolHi : Nat}

/-! ### The reference window -/

theorem State.windowDone_of_derate (step : s.engine.step = some c)
    (body : c.record.body = .derate curveV curveT iFrom slope iCeiling kneeDrop tolLo tolHi) :
    s.windowDone = s.evaluateWindow.derateFigures curveV curveT iFrom slope iCeiling kneeDrop tolLo tolHi := by
  unfold State.windowDone
  dsimp only
  rw [State.evaluateWindow_step step, Engine.record_of_step (c := s.evaluatedContext c) rfl,
    show (s.evaluatedContext c).record.body = _ from body]

theorem curveMissing_or_iff (store : PlanStore) (curveV : Nat) (curveT : Option Nat) :
    (curveMissing store curveV .voltage || curveT.any (fun id => curveMissing store id .temperature)) = true
      ↔ curveMissing store curveV .voltage = true ∨ ∃ id, curveT = some id ∧ curveMissing store id .temperature = true := by
  cases curveT <;> simp

/-- A curve that is missing ends the step with LIMIT and an expected power of 0 (R11, R160). -/
theorem State.derateFigures_of_missing {u : State} {v : Int} (mean : u.acq.window.statistic (.measured .vOut) .mean = some v)
    (missing : curveMissing u.store curveV .voltage = true
      ∨ ∃ id, curveT = some id ∧ curveMissing u.store id .temperature = true) :
    u.derateFigures curveV curveT iFrom slope iCeiling kneeDrop tolLo tolHi
      = ((u.mapFigures (fun g => { g with vRef := some v, pExp := some 0, curveMissing := true })).endBody).endStep .normal [.limit] := by
  unfold State.derateFigures
  rw [if_pos ((curveMissing_or_iff _ _ _).2 missing), mean]
  rfl

/-- The context in which the ramp of a DERATE step runs (R116, R117, R159, R160). -/
def StepContext.expects (c : StepContext) (v : Int) (pExp tolLo tolHi : Nat) (inlet : Option Int) (mark : Bool) : StepContext :=
  { c with
    figures := { c.figures with vRef := some v, tUsed := inlet, tUsedMark := mark, pExp := some pExp }
    limits := (powerLow pExp tolLo, powerHigh pExp tolHi)
    stage := .kneeRamp }

/-- With its curves, a DERATE step forms its figures and starts its ramp (R116, R117, R160). -/
theorem State.derateFigures_of_curves {u : State} {v : Int} {x : SampleRecord} {yV yT : Nat}
    (step : u.engine.step = some c) (mean : u.acq.window.statistic (.measured .vOut) .mean = some v) (latest : u.acq.latest = some x)
    (voltage : curveMissing u.store curveV .voltage = false)
    (temperature : ∀ id, curveT = some id → curveMissing u.store id .temperature = false)
    (onV : yV = curveValue (u.store.curve curveV).points c.record.lineSetpoint)
    (onT : ∀ id, curveT = some id → yT = curveValue (u.store.curve id).points x.average.tInlet) (noT : curveT = none → yT = 1000) :
    ∃ w : State, u.derateFigures curveV curveT iFrom slope iCeiling kneeDrop tolLo tolHi
        = (w.stageStep (.ramp (some iFrom) iCeiling slope) .plain).setAcq
            ((u.acq.armKnee (v - kneeDrop)).openWindowNext u.store.channels)
      ∧ w.engine = { u.engine with step := some (c.expects v (expectedPower u.engine.ratings.pRated yV yT) tolLo tolHi
          (curveT.map fun _ => x.average.tInlet) (curveT.isSome && x.overRange.tInlet)) }
      ∧ w.drive = u.drive ∧ w.bay = u.bay ∧ w.queue = u.queue := by
  have inlet : u.inletNow = (x.average.tInlet, x.overRange.tInlet) := by unfold State.inletNow; rw [latest]
  have present : (curveMissing u.store curveV .voltage || curveT.any (fun id => curveMissing u.store id .temperature)) ≠ true := by
    rw [Ne, curveMissing_or_iff]
    rintro (missing | ⟨id, is, missing⟩)
    · rw [voltage] at missing; exact absurd missing (by decide)
    · rw [temperature id is] at missing; exact absurd missing (by decide)
  have used : (if curveT.isSome then some u.inletNow.1 else none) = curveT.map fun _ => x.average.tInlet := by
    rw [inlet]; cases curveT <;> rfl
  refine ⟨(u.mapFigures (fun g => { g with
      vRef := some v
      tUsed := curveT.map fun _ => x.average.tInlet
      tUsedMark := curveT.isSome && x.overRange.tInlet
      pExp := some (expectedPower u.engine.ratings.pRated yV yT) })).mapStep (fun c => { c with
        limits := (powerLow (expectedPower u.engine.ratings.pRated yV yT) tolLo,
          powerHigh (expectedPower u.engine.ratings.pRated yV yT) tolHi)
        stage := .kneeRamp }),
    ?_, ?_, rfl, rfl, rfl⟩
  · unfold State.derateFigures
    rw [if_neg present, mean, Engine.record_of_step step, ← onV, used, inlet]
    cases curveT with
    | none => obtain rfl := noT rfl; rfl
    | some id => obtain rfl := onT id rfl; rfl
  · rw [State.mapStep_engine, State.mapFigures_engine, step]; rfl

/-! ### The end of the ramp -/

/-- The ramp of a DERATE step ends: its window closes, BODY ends and the return is staged (R161). -/
theorem State.endKneeRamp_spec {u : State} (inStep : u.StepIn .body c) (hold : u.drive.dropHold = false) (free : u.drive.busy = false)
    (body : c.record.body = .derate curveV curveT iFrom slope iCeiling kneeDrop tolLo tolHi) (vs : List Verdict) :
    ∃ c', (u.endKneeRamp vs).StepIn .exiting c' ∧ c'.contributions = c.contributions ++ vs ∧ c'.figures = c.figures
      ∧ (u.endKneeRamp vs).acq.window.state = .closed ∧ (u.endKneeRamp vs).acq.detectors.knee = none
      ∧ (u.endKneeRamp vs).acq.latest = u.acq.latest
      ∧ (u.endKneeRamp vs).drive = u.drive.takeForce (.ramp none (min iFrom (clampLimit u.engine.ratings.iMax u.drive.range)) u.engine.safeSlope) := by
  obtain ⟨walk, step, waiting, phase⟩ := inStep
  obtain ⟨v, made⟩ : ∃ v : State, v = ((u.contribute vs).setAcq { u.acq.disarmKnee with window := u.acq.window.close }).endBody :=
    ⟨_, rfl⟩
  have engine : v.engine = { u.engine with phase := .exiting, step := some { c with contributions := c.contributions ++ vs } } := by
    rw [made, State.endBody_engine]
    change { (u.contribute vs).engine with phase := .exiting } = _
    rw [State.contribute_engine, step]
    rfl
  have drive : v.drive = u.drive := by rw [made, State.endBody_drive]; rfl
  have inV : v.StepIn .exiting { c with contributions := c.contributions ++ vs } := by
    refine ⟨?_, ?_, ?_, ?_⟩ <;> rw [engine]
    · exact walk
    · exact waiting
  have record : v.engine.record = c.record := (Engine.record_of_step inV.2.1).trans rfl
  have slopes : v.engine.safeSlope = u.engine.safeSlope := by rw [engine]; rfl
  have ratings : v.engine.ratings = u.engine.ratings := by rw [engine]; rfl
  have returns : u.endKneeRamp vs = v.stageStep (.ramp none iFrom u.engine.safeSlope) .plain := by
    change State.stageReturn (State.endBody _) = _
    rw [← show v = State.endBody _ from made, State.stageReturn, record, body, slopes]
    rfl
  rw [returns]
  refine ⟨_, State.stageStep_stepIn inV _ _, rfl, rfl, ?_, ?_, ?_, ?_⟩
  · rw [State.stageStep_acq, made, State.endBody_acq]; rfl
  · rw [State.stageStep_acq, made, State.endBody_acq]; rfl
  · rw [State.stageStep_acq, made, State.endBody_acq]; rfl
  · rw [State.stageStep_plain_drive _ _ (by rw [drive]; exact hold) (by rw [drive]; exact free), State.clampFor_plain, drive, ratings]
    rfl

/-! ### The knee -/

/-- With no alarm to deliver at once, a sample of a settled state delivers its knee (R90, R105). -/
theorem exec_sample_of_knee {i : SampleInput} (settled : s.Settled)
    (quiet : s.acq.detectors.alarmArmed = false ∨ i.alarmLate = true) (early : i.kneeLate = false) :
    exec (.sample i) s = .next ((s.takeSample i).kneeEvent.getD (s.takeSample i)) := by
  rw [exec_sample_of_settled i s settled]
  have unalarmed : (if i.alarmLate then s.takeSample i else (s.takeSample i).alarmDetect.getD (s.takeSample i)) = s.takeSample i := by
    rcases quiet with unarmed | late
    · have armed : (s.takeSample i).acq.detectors.alarmArmed = false := by rw [State.takeSample_acq]; exact unarmed
      have none : (s.takeSample i).alarmDetect = none := by simp [State.alarmDetect, Detectors.alarmDue, armed]
      rw [none]; exact ite_self _
    · rw [if_pos late]
  unfold State.deliverEarly
  rw [unalarmed, early]
  rfl

/-- The knee is found at the sample whose V_OUT is at or below the threshold (R105). -/
theorem State.kneeDue_takeSample {i : SampleInput} {threshold : Int} (armed : s.acq.detectors.knee = some threshold) :
    (s.takeSample i).acq.detectors.kneeDue = true ↔ (s.sampleRecord i).average.vOut ≤ threshold := by
  have found : (s.takeSample i).acq.detectors.kneeDue
      = ((s.acq.detectors.knee).isSome && match s.acq.detectors.knee with
          | some t => decide ((s.sampleRecord i).average.vOut ≤ t)
          | none => false) := by
    rw [State.takeSample_acq]; rfl
  rw [found, armed]
  simp

end

/-- Settles O47, by the reference window, the knee, and the ends of the ramp and the return. -/
theorem derateFormsFigures : Obligations.DerateFormsFigures := by
  intro s c curveV curveT iFrom slope iCeiling kneeDrop tolLo tolHi iMax body limit
  have kind : c.record.kind = .derate := by rw [StepRecord.kind, body]; rfl
  refine ⟨curveMissing_iff s.store, fun v x inStep contributions mode opened complete mean latest => ⟨fun missing => ?_,
      fun yV yT pExp voltage temperature onV onT noT expected hold free => ?_⟩,
    fun i threshold settled inStep armed quiet early hold free => ?_,
    fun inStep stage ended unstaged hold still uncoupled => ?_, fun inStep ranks ended still => ?_⟩
  · have row := exec_windowDone inStep mode opened complete
    obtain ⟨walk, step, waiting, phase⟩ := inStep
    have store : s.evaluateWindow.store = s.store := State.evaluateWindow_store _
    rw [State.windowDone_of_derate step body,
      State.derateFigures_of_missing (v := v) (by rw [State.evaluateWindow_acq]; exact mean) (by rw [store]; exact missing)] at row
    obtain ⟨u, made⟩ : ∃ u : State, u = s.evaluateWindow.mapFigures
      (fun g => { g with vRef := some v, pExp := some 0, curveMissing := true }) := ⟨_, rfl⟩
    rw [← made] at row
    let d : StepContext := { s.evaluatedContext c with figures := { c.figures with vRef := some v, pExp := some 0, curveMissing := true } }
    have stepU : u.engine.step = some d := by
      rw [made, State.mapFigures_engine, State.evaluateWindow_step step]; rfl
    have acq : u.acq = s.evaluateWindow.acq := by rw [made]; rfl
    obtain ⟨r, offers, reports⟩ := State.ends_with_body (s := s) (u := u) stepU (by rw [made]; rfl)
      (by rw [acq, State.evaluateWindow_acq]) (by rw [Engine.record_of_step stepU, Engine.record_of_step step]; rfl) [.limit]
    refine ⟨_, r, row, offers.offered, reports.phase, ?_, by rw [reports.figures], by rw [reports.figures], by rw [reports.figures],
      ?_, reports.checks⟩
    · rw [reports.verdict, show d.contributions = _ from State.evaluatedContext_contributions s contributions]
      split <;> rfl
    · rw [reports.count (by rw [acq]; exact s.evaluateWindow_closed)]; rfl
  · have row := exec_windowDone inStep mode opened complete
    obtain ⟨walk, step, waiting, phase⟩ := inStep
    have store : s.evaluateWindow.store = s.store := State.evaluateWindow_store _
    have stepE := State.evaluateWindow_step step
    have drive : s.evaluateWindow.drive = s.drive := State.evaluateWindow_drive _
    obtain ⟨w, figures, engine, driveW, bay, queue⟩ := State.derateFigures_of_curves (u := s.evaluateWindow)
      (c := s.evaluatedContext c) (yV := yV) (yT := yT) (iFrom := iFrom) (slope := slope) (iCeiling := iCeiling) (kneeDrop := kneeDrop) (tolLo := tolLo)
      (tolHi := tolHi) (by rw [stepE]) (by rw [State.evaluateWindow_acq]; exact mean) (by rw [State.evaluateWindow_acq]; exact latest)
      (by rw [store]; exact voltage) (by rw [store]; exact temperature) (by rw [store]; exact onV) (by rw [store]; exact onT) noT
    have inW : w.StepIn .body ((s.evaluatedContext c).expects v
        (expectedPower s.evaluateWindow.engine.ratings.pRated yV yT) tolLo tolHi (curveT.map fun _ => x.average.tInlet)
        (curveT.isSome && x.overRange.tInlet)) := by
      refine ⟨?_, by rw [engine], ?_, ?_⟩ <;> rw [engine, stepE]
      · exact walk
      · exact waiting
      · exact phase
    have ratings : w.engine.ratings = s.engine.ratings := by rw [engine, stepE]; rfl
    have ratingsE : s.evaluateWindow.engine.ratings = s.engine.ratings := by rw [stepE]; rfl
    obtain ⟨walk', step', waiting', phase'⟩ := State.stageStep_stepIn inW (.ramp (some iFrom) iCeiling slope) .plain
    rw [State.windowDone_of_derate step body, figures,
      State.goOn_of_none ((w.stageStep _ _).setAcq ((s.evaluateWindow.acq.armKnee (v - kneeDrop)).openWindowNext _)) waiting'] at row
    have taken := State.stageStep_plain_drive w (.ramp (some iFrom) iCeiling slope) (by rw [driveW, drive]; exact hold)
      (by rw [driveW, drive]; exact free)
    rw [State.clampFor_plain, driveW, drive, ratings, ← limit] at taken
    rw [ratingsE, ← show pExp = expectedPower s.engine.ratings.pRated yV yT from expected] at step'
    refine ⟨_, _, row, ⟨walk', step', waiting', phase'⟩, rfl, rfl, rfl, rfl, rfl, rfl,
      State.evaluatedContext_contributions s contributions, ?_, ?_, rfl, rfl, rfl, rfl, rfl, rfl, ?_, ?_, ?_⟩
    · rw [State.setAcq_drive, taken]; rfl
    · rw [State.setAcq_drive, taken]; rfl
    · rw [State.setAcq_drive, taken]; rfl
    · rw [State.setAcq_bay, State.stageStep_bay, bay]; rfl
    · rw [State.setAcq_queue, State.stageStep_queue, queue]; rfl
  · have row := exec_sample_of_knee settled quiet early
    have stepping := inStep.stepping
    have taken := State.takeSample_engine_of_stepping (i := i) stepping inStep.2.1
    obtain ⟨walk, step, waiting, phase⟩ := inStep
    have inU : (s.takeSample i).StepIn .body { c with timeLeft := c.timeLeft - 1, wait := c.wait.map (· - 1) } := by
      refine ⟨?_, ?_, ?_, ?_⟩ <;> rw [taken]
      · exact walk
      · exact waiting
      · exact phase
    have latest := State.takeSample_latest (s := s) (i := i)
    have due := State.kneeDue_takeSample (i := i) armed
    generalize record : s.sampleRecord i = r at latest due
    by_cases below : r.average.vOut ≤ threshold
    · have event : (s.takeSample i).kneeEvent = some (s.takeSample i).knee := by
        unfold State.kneeEvent
        rw [inU.stepping, due.2 below]; rfl
      obtain ⟨u, made⟩ : ∃ u : State, u = (s.takeSample i).mapFigures
        (fun g => { g with pKnee := some (outputPower r.average.vOut r.average.iOut) }) := ⟨_, rfl⟩
      have knee : (s.takeSample i).knee
          = u.endKneeRamp (kneeVerdict (outputPower r.average.vOut r.average.iOut) c.limits.1 c.limits.2) := by
        unfold State.knee
        rw [latest, inU.2.1, made]
      have inF : u.StepIn .body { c with
          timeLeft := c.timeLeft - 1, wait := c.wait.map (· - 1)
          figures := { c.figures with pKnee := some (outputPower r.average.vOut r.average.iOut) } } := by
        obtain ⟨walk, step, waiting, phase⟩ := inU
        rw [made]
        refine ⟨walk, ?_, waiting, phase⟩
        rw [State.mapFigures_engine, step]; rfl
      have drive : u.drive = s.drive.update := by rw [made, State.mapFigures_drive, State.takeSample_drive]
      have engine : u.engine.ratings = s.engine.ratings ∧ u.engine.safeSlope = s.engine.safeSlope := by
        rw [made, State.mapFigures_engine, taken]; exact ⟨rfl, rfl⟩
      obtain ⟨c', inExit, contributed, figures, window, disarmed, kept, ramp⟩ := State.endKneeRamp_spec inF
        (by rw [drive, (Drive.update_keeps _).2.1]; exact hold) (by rw [drive]; exact Drive.busy_update free) body
        (kneeVerdict (outputPower r.average.vOut r.average.iOut) c.limits.1 c.limits.2)
      rw [engine.1, engine.2, drive, Drive.update_range, ← limit] at ramp
      rw [event, Option.getD_some, knee] at row
      refine ⟨_, r, row, by rw [kept, made]; exact latest, fun _ => ⟨c', outputPower r.average.vOut r.average.iOut, inExit, by rw [figures], rfl, contributed, window, disarmed,
        by rw [ramp]; rfl, by rw [ramp]; rfl⟩, fun above => absurd below (not_le.2 above)⟩
    · have event : (s.takeSample i).kneeEvent = none := by
        unfold State.kneeEvent
        rw [Bool.eq_false_iff.2 fun found => below (due.1 found), Bool.and_false]; rfl
      rw [event] at row
      exact ⟨_, r, row, latest, fun found => absurd found below, fun _ => ⟨_, inU, rfl⟩⟩
  · have row := exec_generatorSetEnd ended
    let u : State := s.setDrive s.drive.holdLevel
    have taken : u.takeSetEnd = u.endKneeRamp [.noKnee] := by
      rw [State.takeSetEnd_of_body (s := u) inStep]
      unfold State.setEndInBody
      rw [show u.engine.record = c.record from Engine.record_of_step inStep.2.1, show u.engine.step = some c from inStep.2.1, body]
      exact if_pos stage
    have free : u.drive.busy = false := by
      change (Drive.holdLevel s.drive).busy = false
      simp [Drive.busy, Drive.pulsing, Drive.holdLevel, still, uncoupled]
    obtain ⟨c', inExit, contributed, -, window, disarmed, -, ramp⟩ := State.endKneeRamp_spec (u := u) inStep hold free body [.noKnee]
    rw [show clampLimit u.engine.ratings.iMax u.drive.range = iMax from limit.symm] at ramp
    rw [State.reportSetEnd_of_unstaged (by rw [show s.setDrive s.drive.holdLevel = u from rfl, taken, ramp]; rfl),
      show s.setDrive s.drive.holdLevel = u from rfl, taken, State.goOn_of_none _ inExit.2.2.1] at row
    exact ⟨_, c', row, inExit, contributed, window, disarmed, by rw [ramp]; rfl, by rw [ramp]; rfl, by rw [ramp]; rfl⟩
  · have row := exec_generatorSetEnd ended
    let u : State := s.setDrive s.drive.holdLevel
    have taken : u.takeSetEnd = u.endStep .normal [] := by
      rw [State.takeSetEnd_of_exit (s := u) inStep]
      unfold State.setEndInExit
      rw [show u.engine.record = c.record from Engine.record_of_step inStep.2.1, body]
    have report : s.reportSetEnd = u.takeSetEnd.setDrive u.takeSetEnd.drive.releaseStaged := rfl
    rw [report, taken] at row
    obtain ⟨walk, step, waiting, phase⟩ := inStep
    obtain ⟨offers, reports⟩ := State.ends_in_exit (s := s) (u := u) step phase rfl rfl []
    have level := reports.level still (by rw [List.append_nil]; exact admitted_of_rank ranks)
    rw [kind, show Kind.derate.steady = false from rfl, Bool.and_false] at level
    exact ⟨_, _, row, (offers.setDrive _).offered, reports.phase, by rw [reports.verdict, List.append_nil], level⟩

end Sys2Proof.Machine


/-! ## The walk that goes on, in the words of the statements -/

namespace Sys2Proof.Machine

/-! ### What the decisions of the walk are read off -/

/-- Two states between which only the queue, the port, the records that wait, the tallies and the place of the walk have
moved: the decisions of R31, R39, R40 and R51 are the same in both. -/
structure State.Alike (s b : State) : Prop where
  bay : b.bay = s.bay
  drive : b.drive = s.drive
  acq : b.acq = s.acq
  store : b.store = s.store
  header : b.engine.header = s.engine.header
  profile : b.engine.profile = s.engine.profile
  pause : b.engine.pausePending = s.engine.pausePending
  abort : b.engine.abortPending = s.engine.abortPending

section
variable {s b : State} (alike : s.Alike b)
include alike

theorem State.Alike.ratings : b.engine.ratings = s.engine.ratings := by
  unfold Engine.ratings; rw [alike.profile]

theorem State.Alike.safeSlope : b.engine.safeSlope = s.engine.safeSlope := by
  unfold Engine.safeSlope; rw [alike.header]

theorem State.Alike.restLevel : b.engine.restLevel = s.engine.restLevel := by
  unfold Engine.restLevel; rw [alike.header]

theorem State.Alike.stopOnFail : b.engine.stopOnFail = s.engine.stopOnFail := by
  unfold Engine.stopOnFail; rw [alike.header]

theorem State.Alike.pageWaitSamples : b.engine.pageWaitSamples = s.engine.pageWaitSamples := by
  unfold Engine.pageWaitSamples; rw [alike.header]

theorem State.Alike.bayLimit : b.bayLimit = s.bayLimit := by simp [State.bayLimit, alike.store]

theorem State.Alike.slotClaim (index : Nat) :
    b.slotClaim index = claimOf (b.currentSlot index).body.peak s.engine.ratings.vNom := by
  rw [State.slotClaim, alike.ratings]

/-- The walk goes to WINDDOWN, and posts nothing yet (R41). -/
theorem State.Alike.windsDown (reason : Reason) : s.WindsDown (b.enterWinddown reason) reason [] :=
  ⟨rfl, (b.entersWinddown_enterWinddown reason).of_same alike.drive ⟨by rw [alike.acq], by rw [alike.acq]⟩ alike.store
    alike.ratings alike.safeSlope, by rw [State.enterWinddown_bay, alike.bay]⟩

end

/-- A record that waits has been placed in `t`, and what follows it (R30, R180). -/
def State.Extends (b t : State) (more : List Record) : Prop := t.queue = b.queue ++ more

/-- WINDDOWN entry offers nothing. -/
theorem State.enterWinddown_goOn {b : State} (none : b.engine.waiting = none) (reason : Reason) :
    (b.enterWinddown reason).goOn = b.enterWinddown reason :=
  State.goOn_of_none _ (by rw [State.enterWinddown_engine]; exact none)

/-! ### The tallies -/

/-- The tallies of R30, in the words of the statements. -/
theorem State.countedBy_of_tallies {s t : State} {r : StepResult} (tallies : t.engine.tallies = s.engine.tallies.count r) :
    s.CountedBy r t := by
  unfold State.CountedBy Tallies.count at *
  rw [tallies]
  by_cases pass : r.verdict = .pass
  · simp [pass, Verdict.failing, Config.tallyCeiling]
  · simp [pass, Verdict.failing, Config.tallyCeiling]

/-! ### ADMIT -/

theorem State.admitted_engine (u : State) : ∃ step phase, u.admitted.engine = { u.engine with step := step, phase := phase } := by
  rw [State.admitted_eq]
  split
  · exact ⟨_, _, rfl⟩
  · rw [State.enterApply_engine]; exact ⟨_, _, rfl⟩

/-- ADMIT entry moves of the walk engine the step, its phase and the record it offers (R23). -/
theorem State.enterAdmit_engine (s : State) (index : Nat) : ∃ step waiting phase, (s.enterAdmit index).engine =
    { (s.beginStep index).engine with step := step, waiting := waiting, phase := phase }
      ∧ (waiting = s.engine.waiting ∨ ∃ r, waiting = some (.stepResult r)) := by
  rcases Nat.lt_or_ge s.bay.drivenClaim (s.slotClaim index) with raises | driven
  · rcases Nat.lt_or_ge s.bayLimit (s.slotClaim index) with exceeds | within
    · rw [State.enterAdmit_of_over raises exceeds, State.endStep_engine _ _ _ (s.freshContext index) rfl]
      exact ⟨_, _, _, rfl, .inr ⟨_, rfl⟩⟩
    · rw [State.enterAdmit_of_raise raises within, State.beginAttempt_engine]
      exact ⟨_, _, _, rfl, .inl rfl⟩
  · obtain ⟨step, phase, engine⟩ := (s.beginStep index).admitted_engine
    rw [State.enterAdmit_of_driven driven, engine]
    exact ⟨_, _, _, rfl, .inl rfl⟩

/-- What a slot that enters ADMIT does, and what the walk offers with it (R24, R51, R54). -/
theorem State.Alike.admits {s b : State} (alike : s.Alike b) (none : b.engine.waiting = none) (index : Nat) :
    ∃ more, b.Extends (b.enterAdmit index).goOn more
      ∧ s.Admits (b.enterAdmit index).goOn (b.currentSlot index) index b.queue.length more
      ∧ (b.slotClaim index ≤ max s.bay.drivenClaim s.bayLimit →
        (b.enterAdmit index).goOn.engine.tallies = b.engine.tallies) := by
  have claim := alike.slotClaim index
  have tallies (stays : (b.enterAdmit index).goOn = b.enterAdmit index) :
      (b.enterAdmit index).goOn.engine.tallies = b.engine.tallies := by
    obtain ⟨step, waiting, phase, engine, -⟩ := b.enterAdmit_engine index
    rw [stays, engine]; rfl
  unfold State.Admits
  rw [← claim, ← alike.bayLimit, ← alike.bay, ← alike.pause, ← alike.drive]
  rcases Nat.lt_or_ge b.bay.drivenClaim (b.slotClaim index) with raises | driven
  · rcases Nat.lt_or_ge b.bayLimit (b.slotClaim index) with exceeds | within
    · obtain ⟨more, queue, offers, verdict, phase, -, indexEq, -, -, -, level, attempts, -⟩ :=
        State.endsOverBay_enterAdmit (s := b) raises exceeds
      refine ⟨more, queue, ⟨fun _ within => absurd within (Nat.not_le.2 exceeds), fun driven => absurd raises (Nat.not_lt.2 driven),
        fun _ _ => ⟨_, offers, verdict, phase, indexEq, level, attempts⟩⟩, fun within => ?_⟩
      exact absurd within (Nat.not_le.2 (max_lt raises exceeds))
    · obtain ⟨stays, ⟨last, pause, prior, -, unit, level, queue⟩, inStep, protocol, -, -, drives⟩ :=
        State.enterAdmit_raises (s := b) none raises within
      have kept := tallies stays
      rw [stays] at kept ⊢
      exact ⟨[], by rw [State.Extends, queue, List.append_nil], ⟨fun _ _ => ⟨rfl, last, pause, protocol, drives, prior, unit, level, _,
        inStep, rfl⟩, fun driven => absurd raises (Nat.not_lt.2 driven), fun _ exceeds => absurd within (Nat.not_le.2 exceeds)⟩,
        fun _ => kept⟩
  · obtain ⟨stays, ⟨last, pause, prior, -, unit, level, queue⟩, toGate, toApply, attempts, drives⟩ :=
      State.enterAdmit_driven (s := b) none driven
    have kept := tallies stays
    rw [stays] at kept ⊢
    refine ⟨[], by rw [State.Extends, queue, List.append_nil], ⟨fun raises => absurd driven (Nat.not_le.2 raises),
      fun _ => ⟨rfl, last, pause, drives, attempts, unit, level, b.drivenContext index, ?_, b.freshStep_drivenContext.1⟩,
      fun raises => absurd driven (Nat.not_le.2 raises)⟩, fun _ => kept⟩
    cases gated : (b.currentSlot index).kind.gated with
    | true => exact (toGate gated).1
    | false => exact (toApply gated).1

/-! ### Boundaries -/

/-- A boundary takes a pending pause or enters ADMIT (R31, R34, R39). -/
theorem State.Alike.meetsBoundary {s b : State} (alike : s.Alike b) (none : b.engine.waiting = none) (index : Nat) :
    ∃ more, b.Extends (b.boundary index).goOn more
      ∧ s.MeetsBoundary (b.boundary index).goOn (b.currentSlot index) index b.queue.length more
      ∧ ((s.engine.pausePending = true ∧ s.bay.ownUnit = .released)
          ∨ b.slotClaim index ≤ max s.bay.drivenClaim s.bayLimit →
        (b.boundary index).goOn.engine.tallies = b.engine.tallies) := by
  have released : b.bay.ownUnit.asserted = true ↔ s.bay.ownUnit ≠ .released := by rw [OwnUnit.asserted_iff, alike.bay]
  by_cases pauses : s.engine.pausePending = true ∧ s.bay.ownUnit = .released
  · have taken : b.boundary index = b.takePause index := by
      unfold State.boundary
      exact if_pos ⟨alike.pause.trans pauses.1, fun asserted => released.1 asserted pauses.2⟩
    have stays : (b.takePause index).goOn = b.takePause index := State.goOn_of_none _ none
    rw [taken, stays]
    refine ⟨[], (List.append_nil _).symm, ⟨fun _ _ => ⟨rfl, rfl, rfl, rfl, alike.bay, alike.drive⟩, fun goes => ?_⟩, fun _ => rfl⟩
    rcases goes with unpaused | held
    · rw [unpaused] at pauses; exact absurd pauses.1 (by decide)
    · exact absurd pauses.2 held
  · have goes : b.boundary index = b.enterAdmit index := by
      unfold State.boundary
      refine if_neg fun ⟨pending, free⟩ => pauses ⟨alike.pause.symm.trans pending, ?_⟩
      by_contra held
      exact free (released.2 held)
    obtain ⟨more, queue, admits, tallies⟩ := alike.admits none index
    rw [goes]
    exact ⟨more, queue, ⟨fun pending free => absurd ⟨pending, free⟩ pauses, fun _ => admits⟩,
      fun reach => tallies (reach.resolve_left pauses)⟩

/-! ### Page swaps and PAGE_WAIT -/

/-- What follows a PAGE_SWAP placed in RUNNING (R39). -/
theorem State.Alike.swapLeads {s b : State} (alike : s.Alike b) (none : b.engine.waiting = none) (walk : b.engine.walk = .running)
    {p : Page} (page : b.engine.page = some p) :
    ∃ more, b.Extends b.afterPageSwap.goOn more ∧ s.SwapLeads b.afterPageSwap.goOn p b.queue.length more := by
  let u := b.setPhase .none
  have alikeU : s.Alike u := ⟨alike.bay, alike.drive, alike.acq, alike.store, alike.header, alike.profile, alike.pause, alike.abort⟩
  have slot : u.currentSlot 0 = s.store.slot p 0 := by
    change b.store.slot (b.engine.page.getD .a) 0 = _
    rw [page, alike.store]; rfl
  have after : b.afterPageSwap = if u.engine.abortPending then u.enterWinddown .aborted
      else if (u.currentSlot 0).kind = .none then u.enterWinddown .emptyStep else u.boundary 0 := by
    unfold State.afterPageSwap
    exact if_neg (by rw [show (b.setPhase .none).engine.walk = b.engine.walk from rfl, walk]; decide)
  have winds (reason : Reason) : u.Extends (u.enterWinddown reason) [] := by simp [State.Extends]
  have stays (reason : Reason) := State.enterWinddown_goOn (b := u) none reason
  by_cases abort : s.engine.abortPending = true
  · rw [after, if_pos (alikeU.abort.trans abort), stays]
    exact ⟨[], winds _, fun _ => alikeU.windsDown _, fun other => absurd abort (by simp [other]), fun other => absurd abort (by simp [other])⟩
  · have going : u.engine.abortPending ≠ true := fun h => abort (alikeU.abort.symm.trans h)
    by_cases empty : (s.store.slot p 0).kind = .none
    · rw [after, if_neg going, if_pos (by rw [slot]; exact empty), stays]
      exact ⟨[], winds _, fun h => absurd h abort, fun _ _ => alikeU.windsDown _, fun _ filled => absurd empty filled⟩
    · obtain ⟨more, queue, meets, -⟩ := alikeU.meetsBoundary none 0
      rw [after, if_neg going, if_neg (by rw [slot]; exact empty)]
      rw [slot] at meets
      exact ⟨more, queue, fun h => absurd h abort, fun _ none => absurd none empty, fun _ _ => meets⟩

/-- The page and the mark stand, and no end of the walk is at hand that would clear them (R39, R41). -/
def State.OnPage (p : Page) (s : State) : Prop :=
  s.engine.page = some p ∧ s.engine.chain = none ∧ (s.engine.walk = .winddown → s.engine.releasesDone = false)
    ∧ ∀ w, s.engine.waiting ≠ some (.walkSummary w)

section
variable {p : Page} {b : State}

theorem State.OnPage.of_engine {u : State} (h : b.OnPage p) (engine : u.engine = b.engine) : u.OnPage p := by
  unfold State.OnPage at h ⊢; rwa [engine]

theorem State.OnPage.enterWinddown (h : b.OnPage p) (reason : Reason) : (b.enterWinddown reason).OnPage p := by
  obtain ⟨page, chain, -, noSummary⟩ := h
  unfold State.OnPage
  rw [State.enterWinddown_engine]
  exact ⟨page, chain, fun _ => rfl, noSummary⟩

theorem State.OnPage.boundary (h : b.OnPage p) (index : Nat) : (b.boundary index).OnPage p := by
  obtain ⟨page, chain, -, noSummary⟩ := h
  unfold State.boundary
  split
  · exact ⟨page, chain, fun walk => absurd walk (by simp [State.takePause]), noSummary⟩
  · obtain ⟨step, waiting, phase, engine, offered⟩ := b.enterAdmit_engine index
    unfold State.OnPage
    rw [engine]
    refine ⟨page, chain, fun walk => absurd walk (by simp), fun w => ?_⟩
    rcases offered with same | ⟨r, is⟩
    · rw [same]; exact noSummary w
    · rw [is]; simp

theorem State.OnPage.pageEnd (h : b.OnPage p) : b.pageEnd.OnPage p := by
  obtain ⟨page, chain, -, noSummary⟩ := h
  unfold State.pageEnd
  rw [chain]
  obtain ⟨rest, engine⟩ := State.compareRest_engine (b.setEngine { b.engine with
    walk := .pageWait, step := .none, phase := .none, pageWaitLeft := b.engine.pageWaitSamples })
  unfold State.OnPage State.enterPageWait
  rw [engine]
  exact ⟨page, chain, fun walk => absurd walk (by simp), noSummary⟩

theorem State.OnPage.branch (h : b.OnPage p) (v : Verdict) (r : StepRecord) : (b.branch v r).OnPage p := by
  unfold State.branch
  extract_lets next
  split
  · exact h.enterWinddown _
  · split
    · exact h.enterWinddown _
    · split
      · exact h.enterWinddown _
      · split
        · exact h.pageEnd
        · split
          · exact h.enterWinddown _
          · exact h.boundary _

theorem State.OnPage.afterPageSwap (h : b.OnPage p) : b.afterPageSwap.OnPage p := by
  have u : (b.setPhase .none).OnPage p := h
  unfold State.afterPageSwap
  dsimp only
  split
  next walk => rw [State.offerSummary_of_not_released _ (u.2.2.1 walk)]; exact u
  next =>
    split
    · exact u.enterWinddown _
    · split
      · exact u.enterWinddown _
      · exact u.boundary _

theorem State.OnPage.afterStepResult (h : b.OnPage p) (r : StepResult) : (b.afterStepResult r).OnPage p := by
  have u : (b.tallied r).OnPage p := h
  unfold State.afterStepResult
  dsimp only
  split
  next walk =>
    change (b.tallied r).offerSummary.OnPage p
    rw [State.offerSummary_of_not_released _ (u.2.2.1 walk)]; exact u
  next => exact u.branch _ _

/-- While the walk goes on without a mark, its page stands (R39). -/
theorem State.OnPage.placeRecords (n : Nat) (h : b.OnPage p) : (State.placeRecords n b).OnPage p := by
  induction n generalizing b with
  | zero => exact h
  | succ n ih =>
    rw [State.placeRecords_succ]
    split
    next r waiting =>
      split
      · have placed : (b.placed r).OnPage p := ⟨h.1, h.2.1, h.2.2.1, fun w => by simp⟩
        refine ih ?_
        cases r with
        | stepResult r => exact placed.afterStepResult r
        | pageSwap q => exact placed.afterPageSwap
        | walkSummary w => exact absurd waiting (h.2.2.2 w)
      · exact h
    next => exact h

theorem State.OnPage.goOn (h : b.OnPage p) : b.goOn.OnPage p := h.placeRecords _

end

/-- A page swap: the PAGE_SWAP is placed, with what follows it, or waits (R39, R40). -/
theorem State.Alike.swaps {s b : State} (alike : s.Alike b) (p : Page) :
    ∃ more, b.Extends (b.swapTo p).goOn more ∧ s.Swaps (b.swapTo p).goOn p b.queue.length more := by
  have waiting : (b.swapTo p).engine.waiting = some (.pageSwap p) := rfl
  rcases Nat.lt_or_ge b.queue.length 32 with free | full
  · let u := (b.swapTo p).placed (.pageSwap p)
    have went : (b.swapTo p).goOn = u.afterPageSwap.goOn := State.goOn_placed waiting free
    have alikeU : s.Alike u := ⟨alike.bay, alike.drive, alike.acq, alike.store, alike.header, alike.profile, alike.pause, alike.abort⟩
    obtain ⟨after, queue, leads⟩ := alikeU.swapLeads rfl rfl (p := p) rfl
    have length : u.queue.length = b.queue.length + 1 := by
      change (b.queue ++ [_]).length = _
      simp
    have onPage : u.OnPage p := ⟨rfl, rfl, fun walk => absurd (show WalkState.running = .winddown from walk) (by decide), fun w => by simp [u]⟩
    obtain ⟨page, chain, -⟩ := onPage.afterPageSwap.goOn
    rw [went]
    rw [length] at leads
    refine ⟨.stepLevel (.pageSwap p) :: after, ?_, page, chain, fun _ => ⟨after, rfl, leads⟩, fun full => absurd free (Nat.not_lt.2 full)⟩
    rw [State.Extends, queue]
    change (b.queue ++ [_]) ++ after = _
    simp
  · have stays := State.goOn_of_full (b.swapTo p) full
    rw [stays]
    exact ⟨[], (List.append_nil _).symm, rfl, rfl, fun free => absurd free (Nat.not_lt.2 full),
      fun _ => ⟨rfl, rfl, rfl, rfl, alike.bay, alike.drive⟩⟩

/-- PAGE_WAIT entry (R40, R83). -/
theorem State.Alike.comparesRest {s b : State} (alike : s.Alike b) : s.ComparesRest b.enterPageWait := by
  have compares := State.comparesRest_compareRest (b.setEngine { b.engine with
    walk := .pageWait, step := .none, phase := .none, pageWaitLeft := b.engine.pageWaitSamples })
  have rest : (b.setEngine { b.engine with
    walk := .pageWait, step := .none, phase := .none, pageWaitLeft := b.engine.pageWaitSamples }).engine.restLevel
      = s.engine.restLevel := alike.restLevel
  have slope : (b.setEngine { b.engine with
    walk := .pageWait, step := .none, phase := .none, pageWaitLeft := b.engine.pageWaitSamples }).engine.safeSlope
      = s.engine.safeSlope := alike.safeSlope
  unfold State.ComparesRest at compares ⊢
  rw [rest, slope, State.setEngine_drive, alike.drive] at compares
  exact compares

/-! ### The branch after a STEP_RESULT -/

/-- The walk that has placed and tallied a STEP_RESULT in RUNNING goes on by the first case that holds (R30, R31). -/
theorem State.Alike.resultLeads {s b : State} (alike : s.Alike b) (none : b.engine.waiting = none) (page : b.engine.page = s.engine.page)
    (chain : b.engine.chain = s.engine.chain) {r : StepResult} (tallies : b.engine.tallies = s.engine.tallies.count r)
    (record : StepRecord) : ∃ more, b.Extends (b.branch r.verdict record).goOn more
      ∧ s.ResultLeads (b.branch r.verdict record).goOn r record b.queue.length more := by
  have slot (index : Nat) : b.currentSlot index = s.currentSlot index := by
    unfold State.currentSlot; rw [page, alike.store]
  have winds (reason : Reason) : b.Extends (b.enterWinddown reason).goOn []
      ∧ s.CountedBy r (b.enterWinddown reason).goOn ∧ s.WindsDown (b.enterWinddown reason).goOn reason [] := by
    rw [State.enterWinddown_goOn none]
    exact ⟨by simp [State.Extends], State.countedBy_of_tallies (by rw [State.enterWinddown_engine]; exact tallies), alike.windsDown reason⟩
  have next : (if r.verdict.failing then record.nextFail else record.nextPass)
      = if r.verdict = .pass then record.nextPass else record.nextFail := by
    by_cases pass : r.verdict = .pass <;> simp [pass, Verdict.failing]
  have failing := r.verdict.failing_iff
  have branched : b.branch r.verdict record = if b.engine.abortPending then b.enterWinddown .aborted
      else if r.verdict.failing ∧ b.engine.stopOnFail then b.enterWinddown .fail
      else if (if r.verdict = .pass then record.nextPass else record.nextFail) = 33 then
        b.enterWinddown (if b.engine.tallies.allPass then .pass else .fail)
      else if (if r.verdict = .pass then record.nextPass else record.nextFail) = 32 then b.pageEnd
      else if (b.currentSlot (if r.verdict = .pass then record.nextPass else record.nextFail)).kind = .none then
        b.enterWinddown .emptyStep
      else b.boundary (if r.verdict = .pass then record.nextPass else record.nextFail) := by
    unfold State.branch
    rw [next]
  unfold State.ResultLeads
  dsimp only
  generalize (if r.verdict = .pass then record.nextPass else record.nextFail) = n at branched ⊢
  by_cases abort : s.engine.abortPending = true
  · rw [branched, if_pos (alike.abort.trans abort)]
    obtain ⟨queue, counted, down⟩ := winds .aborted
    exact ⟨[], queue, fun _ => ⟨counted, down⟩, fun h => absurd abort (by simp [h]), fun h => absurd abort (by simp [h])⟩
  have going : b.engine.abortPending ≠ true := fun h => abort (alike.abort.symm.trans h)
  by_cases stops : r.verdict ≠ .pass ∧ s.engine.stopOnFail = true
  · rw [branched, if_neg going, if_pos ⟨failing.2 stops.1, alike.stopOnFail.trans stops.2⟩]
    obtain ⟨queue, counted, down⟩ := winds .fail
    exact ⟨[], queue, fun h => absurd h abort, fun _ _ _ => ⟨counted, down⟩,
      fun _ h => absurd stops.2 (by simp [h stops.1])⟩
  have onward : ¬ (r.verdict.failing ∧ b.engine.stopOnFail) := fun ⟨fails, stop⟩ =>
    stops ⟨failing.1 fails, alike.stopOnFail.symm.trans stop⟩
  rw [branched, if_neg going, if_neg onward]
  rw [← slot n]
  suffices leads : ∃ more, b.Extends (State.goOn (if n = 33 then b.enterWinddown (if b.engine.tallies.allPass then .pass else .fail)
        else if n = 32 then b.pageEnd else if (b.currentSlot n).kind = .none then b.enterWinddown .emptyStep else b.boundary n)) more ∧ _ from by
    obtain ⟨more, queue, leads⟩ := leads
    exact ⟨more, queue, fun h => absurd h abort, fun _ fails stop => absurd ⟨fails, stop⟩ stops, fun _ _ => leads⟩
  by_cases ends : n = 33
  · subst ends
    obtain ⟨queue, counted, down⟩ := winds (if b.engine.tallies.allPass then .pass else .fail)
    have passes : b.engine.tallies.allPass = true ↔ s.engine.tallies.allPass = true ∧ r.verdict = .pass := by
      rw [tallies]
      unfold Tallies.count
      by_cases pass : r.verdict = .pass <;> simp [pass, Verdict.failing]
    rw [if_pos rfl]
    refine ⟨[], queue, fun _ => ⟨counted, ?_⟩, fun h => absurd h (by decide), fun _ h => absurd h (by decide),
      fun h => absurd h (by decide), fun h => absurd h (by decide)⟩
    rwa [if_congr passes rfl rfl] at down ⊢
  rw [if_neg ends]
  by_cases pageEnds : n = 32
  · subst pageEnds
    rw [if_pos rfl]
    cases marked : s.engine.chain with
    | none =>
      have waits : b.pageEnd = b.enterPageWait := by unfold State.pageEnd; rw [chain, marked]
      obtain ⟨rest, engine⟩ := State.compareRest_engine (b.setEngine { b.engine with
        walk := .pageWait, step := .none, phase := .none, pageWaitLeft := b.engine.pageWaitSamples })
      have engine : b.enterPageWait.engine = _ := engine
      have stays : b.enterPageWait.goOn = b.enterPageWait := State.goOn_of_none _ (by rw [engine]; exact none)
      rw [waits, stays]
      refine ⟨[], ?_, fun h => absurd h (by decide), fun _ _ => ⟨State.countedBy_of_tallies (by rw [engine]; exact tallies), rfl,
          by rw [engine]; rfl, ?_, by rw [engine]; exact page, by rw [engine]; exact alike.pageWaitSamples, alike.comparesRest⟩,
        fun _ _ h => absurd h (by simp), fun h => absurd h (by decide), fun h => absurd h (by decide)⟩
      · rw [State.Extends, List.append_nil]; exact State.compareRest_queue _
      · exact (State.compareRest_bay _).trans alike.bay
    | some p =>
      have swaps : b.pageEnd = b.swapTo p := by unfold State.pageEnd; rw [chain, marked]
      obtain ⟨more, queue, led⟩ := alike.swaps p
      rw [swaps]
      refine ⟨more, queue, fun h => absurd h (by decide), fun _ h => absurd h (by simp), fun q _ is => ?_,
        fun h => absurd h (by decide), fun h => absurd h (by decide)⟩
      obtain rfl : p = q := by injection is
      exact led
  rw [if_neg pageEnds]
  by_cases empty : (b.currentSlot n).kind = .none
  · obtain ⟨queue, counted, down⟩ := winds .emptyStep
    rw [if_pos empty]
    exact ⟨[], queue, fun h => absurd h ends, fun h => absurd h pageEnds, fun _ h => absurd h pageEnds, fun _ _ => ⟨counted, down⟩,
      fun _ filled => absurd empty filled⟩
  · obtain ⟨more, queue, meets, kept⟩ := alike.meetsBoundary none n
    rw [if_neg empty]
    refine ⟨more, queue, fun h => absurd h ends, fun h => absurd h pageEnds, fun _ h => absurd h pageEnds, fun _ none => absurd none empty,
      fun _ _ => ⟨meets, fun reach => State.countedBy_of_tallies ?_⟩⟩
    rw [← alike.slotClaim] at reach
    rw [kept reach, tallies]

/-- A STEP_RESULT that waits in RUNNING is placed and tallied, and the walk goes on (R30, R31). -/
theorem State.Alike.placesResult {s v : State} (alike : s.Alike v) (engine : v.engine = s.engine) {r : StepResult} {c : StepContext}
    (waiting : s.engine.waiting = some (.stepResult r)) (step : s.engine.step = some c) (walk : s.engine.walk = .running)
    (free : v.queue.length < 32) : ∃ more, v.goOn.queue = v.queue ++ .stepLevel (.stepResult r) :: more
      ∧ s.ResultLeads v.goOn r c.record (v.queue.length + 1) more := by
  obtain ⟨u, made⟩ : ∃ u, u = v.placed (.stepResult r) := ⟨_, rfl⟩
  have engineU : u.engine = { s.engine with waiting := none } := by rw [made, State.placed_engine, engine]
  have queueU : u.queue = v.queue ++ [.stepLevel (.stepResult r)] := by rw [made]; rfl
  have goes : v.goOn = ((u.tallied r).branch r.verdict c.record).goOn := by
    rw [State.goOn_placed (by rw [engine]; exact waiting) free, ← made]
    change (u.afterStepResult r).goOn = _
    rw [State.afterStepResult_of_running r (by rw [engineU]; exact walk),
      Engine.record_of_step (c := c) (by rw [engineU]; exact step)]
  have alikeU : s.Alike (u.tallied r) :=
    ⟨by rw [← alike.bay, made]; rfl, by rw [← alike.drive, made]; rfl, by rw [← alike.acq, made]; rfl, by rw [← alike.store, made]; rfl,
      by change u.engine.header = _; rw [engineU], by change u.engine.profile = _; rw [engineU],
      by change u.engine.pausePending = _; rw [engineU], by change u.engine.abortPending = _; rw [engineU]⟩
  obtain ⟨more, queue, leads⟩ := alikeU.resultLeads (by change u.engine.waiting = none; rw [engineU])
    (by change u.engine.page = _; rw [engineU]) (by change u.engine.chain = _; rw [engineU])
    (r := r) (by change u.engine.tallies.count r = _; rw [engineU]) c.record
  rw [← goes] at queue leads
  have length : (u.tallied r).queue.length = v.queue.length + 1 := by
    change u.queue.length = _
    rw [queueU]; simp
  rw [length] at leads
  refine ⟨more, ?_, leads⟩
  rw [queue]
  change u.queue ++ more = _
  rw [queueU]; simp

/-- A PAGE_SWAP that waits in RUNNING is placed, and the walk goes on (R39). -/
theorem State.Alike.placesSwap {s v : State} (alike : s.Alike v) (engine : v.engine = s.engine) {p q : Page}
    (waiting : s.engine.waiting = some (.pageSwap q)) (page : s.engine.page = some p) (walk : s.engine.walk = .running)
    (free : v.queue.length < 32) : ∃ more, v.goOn.queue = v.queue ++ .stepLevel (.pageSwap q) :: more
      ∧ s.SwapLeads v.goOn p (v.queue.length + 1) more := by
  obtain ⟨u, made⟩ : ∃ u, u = v.placed (.pageSwap q) := ⟨_, rfl⟩
  have engineU : u.engine = { s.engine with waiting := none } := by rw [made, State.placed_engine, engine]
  have queueU : u.queue = v.queue ++ [.stepLevel (.pageSwap q)] := by rw [made]; rfl
  have goes : v.goOn = u.afterPageSwap.goOn := by
    rw [State.goOn_placed (by rw [engine]; exact waiting) free, ← made]; rfl
  have alikeU : s.Alike u :=
    ⟨by rw [← alike.bay, made]; rfl, by rw [← alike.drive, made]; rfl, by rw [← alike.acq, made]; rfl, by rw [← alike.store, made]; rfl,
      by rw [engineU], by rw [engineU], by rw [engineU], by rw [engineU]⟩
  obtain ⟨more, queue, leads⟩ := alikeU.swapLeads (by rw [engineU]) (by rw [engineU]; exact walk) (p := p) (by rw [engineU]; exact page)
  rw [← goes] at queue leads
  have length : u.queue.length = v.queue.length + 1 := by rw [queueU]; simp
  rw [length] at leads
  exact ⟨more, by rw [queue, queueU]; simp, leads⟩

end Sys2Proof.Machine


/-! ## Records that wait, and the chain commands (O9, O10, O26) -/

namespace Sys2Proof.Machine

/-! ### The event that frees an entry -/

theorem exec_stalledRecordPlaced {s : State} {r : StepLevel} (waiting : s.engine.waiting = some r) (free : s.queue.length < 32) :
    exec .stalledRecordPlaced s = .next s.goOn := by
  change Host.Outcome.next (s.stalledRecordPlaced.getD s) = _
  unfold State.stalledRecordPlaced
  rw [if_pos (by rw [waiting]; exact decide_eq_true free)]
  rfl

/-- A port that has been set changes nothing of what the walk engine's decisions are read off. -/
theorem State.alike_self (s : State) : s.Alike s := ⟨rfl, rfl, rfl, rfl, rfl, rfl, rfl, rfl⟩

theorem State.goOn_port (s : State) : s.goOn.port = s.port := congrArg (·.1) s.goOn_outer

/-- The event that frees an entry lets the walk go on, on the queue and under the port that it leaves (R172, R180, R182). -/
theorem State.FreesEntry.goes {s v : State} {take : State → Host.Outcome State Fault Refusal} {out : Host.Outcome State Fault Refusal}
    (frees : s.FreesEntry v take out) {r : StepLevel} (waiting : s.engine.waiting = some r) :
    ∃ w : State, s.Alike w ∧ w.engine = s.engine ∧ w.queue = v.queue ∧ v.queue.length < 32
      ∧ out = take (w.goOn.setPort v.port) := by
  rcases frees with ⟨free, same, taken, outcome⟩ | ⟨bytes, frame, straps, active, long, latched, within, made, taken, outcome⟩
  · subst same
    refine ⟨v, v.alike_self, rfl, rfl, free, ?_⟩
    rw [outcome, taken, exec_stalledRecordPlaced waiting free, ← v.goOn_port]
    rfl
  · refine ⟨s.setQueue s.queue.tail, ⟨rfl, rfl, rfl, rfl, rfl, rfl, rfl, rfl⟩, rfl, by rw [made]; rfl, ?_, ?_⟩
    · rw [made]
      change s.queue.tail.length < 32
      rw [List.length_tail]; omega
    · have consumed : s.consume = (s.setQueue s.queue.tail).goOn := by simp [State.consume, latched]
      have port : (s.setQueue s.queue.tail).goOn.port = s.port := State.goOn_port _
      rw [outcome, taken, exec_transactionComplete_of_active straps active long, State.received, consumed, port, made,
        Port.driven_of_active active latched]
      rfl

/-! ### O9 -/

/-- In WINDDOWN the WALK_SUMMARY follows a record placed, once the releases are made (R41, R42). -/
theorem State.summaryFollows {u : State} (walk : u.engine.walk = .winddown) (none : u.engine.waiting = none) :
    ∃ more, u.offerSummary.goOn.queue = u.queue ++ more ∧ u.offerSummary.goOn.bay = u.bay ∧ u.offerSummary.goOn.drive = u.drive
      ∧ u.offerSummary.goOn.engine.tallies = u.engine.tallies ∧ u.offerSummary.goOn.engine.reason = u.engine.reason
      ∧ (u.engine.releasesDone = false → more = [] ∧ u.offerSummary.goOn = u)
      ∧ (u.engine.releasesDone = true →
        u.offerSummary.goOn.OffersNext u.queue.length more (.walkSummary u.offerSummary.goOn.engine.summary)) := by
  cases done : u.engine.releasesDone with
  | false =>
    rw [State.offerSummary_of_not_released u done, State.goOn_of_none _ none]
    exact ⟨[], (List.append_nil _).symm, rfl, rfl, rfl, rfl, fun _ => ⟨rfl, rfl⟩, fun h => absurd h (by decide)⟩
  | true =>
    have offered := State.offerSummary_of_due u walk done none
    rw [offered]
    rcases Nat.lt_or_ge u.queue.length 32 with free | full
    · rw [State.goOn_summary (s := u.offer (.walkSummary u.engine.summary)) rfl free]
      exact ⟨[.stepLevel (.walkSummary u.engine.summary)], rfl, rfl, rfl, rfl, rfl, fun h => absurd h (by decide),
        fun _ => ⟨fun _ => rfl, fun full => absurd free (Nat.not_lt.2 full)⟩⟩
    · rw [State.goOn_of_full (u.offer (.walkSummary u.engine.summary)) full]
      exact ⟨[], (List.append_nil _).symm, rfl, rfl, rfl, rfl, fun h => absurd h (by decide),
        fun _ => ⟨fun free => absurd free (Nat.not_lt.2 full), fun _ => ⟨rfl, rfl, rfl⟩⟩⟩

/-- A STEP_RESULT or PAGE_SWAP placed in WINDDOWN: what it leaves, with the summary behind it (R42). -/
theorem State.afterPlaced_of_winddown {w : State} {r : StepLevel} (walk : w.engine.walk = .winddown)
    (noSummary : ∀ x, r ≠ .walkSummary x) : ∃ u : State, (w.placed r).afterPlaced r = u.offerSummary
      ∧ u.queue = w.queue ++ [.stepLevel r] ∧ u.bay = w.bay ∧ u.drive = w.drive ∧ u.engine.walk = .winddown
      ∧ u.engine.waiting = none ∧ u.engine.phase = .none ∧ u.engine.reason = w.engine.reason
      ∧ u.engine.releasesDone = w.engine.releasesDone
      ∧ ∀ x, r = .stepResult x → u.engine.tallies = w.engine.tallies.count x := by
  cases r with
  | stepResult x =>
    refine ⟨(w.placed (.stepResult x)).tallied x, ?_, rfl, rfl, rfl, walk, rfl, rfl, rfl, rfl, fun y is => by injection is with is; rw [← is]; rfl⟩
    change State.afterStepResult _ x = _
    unfold State.afterStepResult
    exact if_pos walk
  | pageSwap q =>
    refine ⟨(w.placed (.pageSwap q)).setPhase .none, ?_, rfl, rfl, rfl, walk, rfl, rfl, rfl, rfl, fun y is => absurd is (by simp)⟩
    change State.afterPageSwap _ = _
    unfold State.afterPageSwap
    exact if_pos walk
  | walkSummary x => exact absurd rfl (noSummary x)

/-- Settles O9, by the event that frees the entry and the kinds of record. -/
theorem stalledRecordIsPlaced : Obligations.StalledRecordIsPlaced := by
  intro s v take out r frees waiting
  obtain ⟨w, alike, engine, queue, free, outcome⟩ := frees.goes waiting
  have waitingW : w.engine.waiting = some r := by rw [engine, waiting]
  have freeW : w.queue.length < 32 := by rw [queue]; exact free
  have store : w.goOn.store = s.store := (State.outer_store w.goOn_outer).trans alike.store
  have went := State.goOn_placed waitingW freeW
  by_cases summary : ∃ x, r = .walkSummary x
  · obtain ⟨x, is⟩ := summary
    subst is
    have ends := State.goOn_summary waitingW freeW
    refine ⟨_, [], outcome, ?_, rfl, store, fun y is => ?_, fun _ other => absurd rfl (other x)⟩
    · change w.goOn.queue = _
      rw [ends, ← queue]; rfl
    · obtain rfl : x = y := by injection is
      obtain ⟨t, made⟩ : ∃ t, t = w.goOn := ⟨_, rfl⟩
      rw [← made] at ends ⊢
      change _ ∧ t.engine.waiting = none ∧ t.engine.walk = _ ∧ t.engine.page = none ∧ t.engine.chain = none ∧ t.engine.phase = .none
        ∧ t.bay = s.bay ∧ t.drive = s.drive
      rw [ends]
      exact ⟨rfl, rfl, rfl, rfl, rfl, rfl, alike.bay, alike.drive⟩
  · have noSummary (x : WalkSummary) : r ≠ .walkSummary x := fun is => summary ⟨x, is⟩
    by_cases walk : s.engine.walk = .winddown
    · obtain ⟨u, after, queueU, bay, drive, walkU, waitingU, phase, reason, releases, tallies⟩ :=
        State.afterPlaced_of_winddown (w := w) (by rw [engine]; exact walk) noSummary
      obtain ⟨more, queueT, bayT, driveT, talliesT, reasonT, before, behind⟩ := State.summaryFollows walkU waitingU
      rw [engine] at releases reason tallies
      have length : u.queue.length = v.queue.length + 1 := by rw [queueU, queue]; simp
      rw [went, after] at store outcome
      generalize u.offerSummary.goOn = t at *
      refine ⟨_, more, outcome, ?_, rfl, store, fun x is => absurd is (noSummary x), fun _ _ => ⟨bayT.trans (bay.trans alike.bay),
        driveT.trans (drive.trans alike.drive), reasonT.trans reason, fun x is => ?_, fun unreleased => ?_, fun done => ?_⟩⟩
      · change t.queue = _
        rw [queueT, queueU, queue]; simp
      · exact State.countedBy_of_tallies (t := t.setPort v.port) (talliesT.trans (tallies x is))
      · obtain ⟨none, same⟩ := before (releases.trans unreleased)
        subst same
        exact ⟨none, waitingU, walkU, phase⟩
      · have offers := behind (releases.trans done)
        rw [length] at offers
        exact offers
    · obtain ⟨more, queueT⟩ := State.goOn_queue waitingW freeW
      exact ⟨_, more, outcome, by rw [← queue]; exact queueT, rfl, store, fun x is => absurd is (noSummary x),
        fun winds => absurd winds walk⟩

/-- Settles O10, by the event that frees the entry and what follows the record placed. -/
theorem placedRecordBranches : Obligations.PlacedRecordBranches := by
  intro s v take out frees walk
  refine ⟨fun r c waiting step => ?_, fun p q waiting page => ?_⟩
  · obtain ⟨w, alike, engine, queue, free, outcome⟩ := frees.goes waiting
    obtain ⟨more, queueT, leads⟩ := alike.placesResult engine waiting step walk (by rw [queue]; exact free)
    rw [queue] at queueT leads
    generalize w.goOn = t at *
    exact ⟨_, more, outcome, queueT, leads⟩
  · obtain ⟨w, alike, engine, queue, free, outcome⟩ := frees.goes waiting
    obtain ⟨more, queueT, leads⟩ := alike.placesSwap engine waiting page walk (by rw [queue]; exact free)
    rw [queue] at queueT leads
    generalize w.goOn = t at *
    exact ⟨_, more, outcome, queueT, leads⟩

/-! ### O26 -/

theorem exec_armChain (s : State) : exec .armChain s = .next s.takeArmChain := rfl

/-- Settles O26, by the walk state, with the swap from PAGE_WAIT. -/
theorem chainCommandsMoveTheMark : Obligations.ChainCommandsMoveTheMark := by
  intro s
  refine ⟨fun walk => ?_, fun active marked => ?_, fun p walk unmarked page => ?_, rfl, fun p walk unmarked page => ?_⟩
  · rw [exec_armChain, State.takeArmChain]
    rcases walk with walk | walk <;> rw [walk]
  · rw [exec_armChain, State.takeArmChain]
    cases walk : s.engine.walk with
    | idle | held => rw [walk] at active; exact absurd active (by decide)
    | running | paused | winddown | pageWait => simp only [marked, if_true]
  · rw [exec_armChain, State.takeArmChain]
    have other : s.engine.otherPage = p.other := by rw [Engine.otherPage, page]; rfl
    rcases walk with walk | walk | walk <;> rw [walk, unmarked, other] <;> rfl
  · have run : exec .armChain s = .next (s.armInPageWait.reply 0x28 .ok) := by
      rw [exec_armChain, State.takeArmChain, walk, unmarked]; rfl
    have other : s.engine.otherPage = p.other := by rw [Engine.otherPage, page]; rfl
    let b := (s.setDrive s.drive.halt).setEngine { s.engine with pageWaitLeft := 0, rest := .none }
    have alike : (s.setDrive s.drive.halt).Alike b := ⟨rfl, rfl, rfl, rfl, rfl, rfl, rfl, rfl⟩
    have armed : s.armInPageWait = (b.swapTo p.other).goOn := by
      rw [← other]; rfl
    obtain ⟨more, queue, swaps⟩ := alike.swaps p.other
    have outer : (b.swapTo p.other).goOn.outer = s.outer := State.goOn_outer _
    have waits (full : 32 ≤ s.queue.length) : (b.swapTo p.other).goOn.engine.pageWaitLeft = 0 := by
      rw [State.goOn_of_full (b.swapTo p.other) full]; rfl
    rw [armed] at run
    generalize (b.swapTo p.other).goOn = t at *
    refine ⟨_, more, run, queue, s.drive.haltsTo_halt, swaps, waits, State.reply_port outer _⟩

end Sys2Proof.Machine


/-! ## START_WALK (O20) -/

namespace Sys2Proof.Machine

/-! ### The enables -/

theorem Drive.stage_enables (d : Drive) (g : GenSet) (req : Request) : (d.stage g req).shelfEnable = d.shelfEnable
    ∧ (d.stage g req).lineEnable = d.lineEnable ∧ (d.stage g req).loadEnable = d.loadEnable := by
  unfold Drive.stage Drive.proceed
  cases req <;> dsimp only <;> (repeat' split) <;> exact ⟨rfl, rfl, rfl⟩

/-- Shelf and line enable are active, and load enable is `load`. -/
def Drive.Enabled (load : Bool) (d : Drive) : Prop := d.shelfEnable = true ∧ d.lineEnable = true ∧ d.loadEnable = load

/-- While the walk goes on the enables stay as START_WALK sets them, until the releases (R79, R81, R84). -/
theorem driveKeeps_enabled (load : Bool) : DriveKeeps (fun d _ => d.Enabled load) where
  fields _ _ _ _ _ h := h
  stage d _ g req h := by
    obtain ⟨shelf, line, loads⟩ := d.stage_enables g req
    exact ⟨shelf.trans h.1, line.trans h.2.1, loads.trans h.2.2⟩
  ended d _ h := by
    rw [Drive.endResetPulse_eq]
    exact ⟨by rw [show d.shelfEnable = true from h.1]; rfl, h.2⟩
  dropped d _ h := by
    rw [Drive.tripDrop_eq]
    exact ⟨h.1, by rw [show d.lineEnable = true from h.2.1]; rfl, h.2.2⟩

/-! ### The walk that begins -/

/-- The state in which an accepted START_WALK enters ADMIT of its first step (R22, R81). -/
def State.walkBegun (s : State) (h : WalkHeader) : State :=
  ((s.setEngine (s.engine.beginWalk h (s.store.profile h.profile).ratings)).setLine
      (s.store.profile h.profile).ratings.lineNominal).setDrive
    (s.drive.startWalk (s.store.profile h.profile).ratings.lineNominal)

section
variable {s : State} {h : WalkHeader}

theorem State.startWalk_eq (s : State) (h : WalkHeader) : s.startWalk h = ((s.walkBegun h).enterAdmit h.startIndex).goOn := by
  have drive (line : Nat) (u : State) (e : u.drive = s.drive) : (u.setLine line).drive.startWalk line = s.drive.startWalk line := by
    unfold State.setLine
    split
    · rw [← e]
    · rw [← e]; rfl
  unfold State.startWalk State.walkBegun
  dsimp only
  rw [drive _ (s.setEngine (s.engine.beginWalk h (s.store.profile h.profile).ratings)) rfl]

theorem State.walkBegun_engine : (s.walkBegun h).engine = s.engine.beginWalk h (s.store.profile h.profile).ratings := by
  simp [State.walkBegun]

theorem State.walkBegun_bay : (s.walkBegun h).bay = s.bay := by simp [State.walkBegun]

theorem State.walkBegun_store : (s.walkBegun h).store = s.store := by simp [State.walkBegun]

theorem State.walkBegun_queue : (s.walkBegun h).queue = s.queue := by simp [State.walkBegun]

theorem State.walkBegun_drive : (s.walkBegun h).drive = s.drive.startWalk (s.store.profile h.profile).ratings.lineNominal := rfl

theorem State.walkBegun_acq : (s.walkBegun h).acq = (s.setLine (s.store.profile h.profile).ratings.lineNominal).acq := by
  change (State.setLine (s.setEngine _) _).acq = _
  rw [State.setLine_acq, State.setLine_acq]; rfl

theorem State.walkBegun_outer : (s.walkBegun h).outer = s.outer := by simp [State.walkBegun]

theorem State.walkBegun_seq : (s.walkBegun h).acq.seq = s.acq.seq := by
  rw [State.walkBegun_acq, State.setLine_acq]
  split <;> rfl

/-- The line is set by START_WALK, whatever its ADMIT entry does of the step's own (R85, R92, R94). -/
theorem State.lineSet_walkBegun {t : State} (setpoint : t.drive.lineSetpoint = (s.walkBegun h).drive.lineSetpoint)
    (blanks : t.acq.blanks = (s.walkBegun h).acq.blanks) (averages : t.acq.averages = (s.walkBegun h).acq.averages) :
    s.LineSet t (s.store.profile h.profile).ratings.lineNominal :=
  State.lineSet_of_setLine (u := s) rfl rfl rfl rfl setpoint (by rw [blanks, State.walkBegun_acq]) (by rw [averages, State.walkBegun_acq])

theorem State.walkBegun_enabled : (s.walkBegun h).Has fun d _ => d.Enabled (s.drive.loadEnable || s.drive.relayCount == 0) := by
  unfold State.Has
  rw [State.walkBegun_drive]
  exact ⟨rfl, rfl, rfl⟩

theorem yesOfCode_getD {b : Byte} (code : b.toNat ≤ 1) : (yesOfCode b).getD false = true ↔ b.toNat = 1 := by
  have bits : b.toNat = 0 ∨ b.toNat = 1 := by omega
  rcases bits with bit | bit <;> simp [yesOfCode, bit]

/-- The walk is as START_WALK begins it, once its first step is in ADMIT, GATE or APPLY or has ended (R22, R81). -/
theorem State.beginsWalk_enterAdmit {f : StartFields} {p : Page} (accepted : Accepts (startAccepts s.store f))
    (page : Page.ofCode f.page = some p) :
    s.BeginsWalk ((s.walkBegun (storedHeader f)).enterAdmit f.index.toNat) f p := by
  obtain ⟨-, -, -, -, -, -, stop, chain, -⟩ := accepted
  obtain ⟨step, waiting, phase, engine, -⟩ := (s.walkBegun (storedHeader f)).enterAdmit_engine f.index.toNat
  obtain ⟨shelf, line, load⟩ := (driveKeeps_enabled _).enterAdmit (State.walkBegun_enabled (s := s) (h := storedHeader f)) f.index.toNat
  have start := storedHeader_startPage page
  unfold State.BeginsWalk
  rw [engine, State.beginStep_engine, State.walkBegun_engine]
  refine ⟨⟨storedHeader f, rfl, rfl, rfl, rfl, yesOfCode_getD stop⟩, rfl, congrArg some start, ?_, rfl, rfl, rfl, rfl, rfl, shelf, line, load⟩
  change (if (yesOfCode f.chain).getD false = true then some (storedHeader f).startPage.other else none) = _
  rw [start]
  exact if_congr (yesOfCode_getD chain) rfl rfl

/-- OVER_BAY with the queue full leaves the line and the blanks of START_WALK alone (R92). -/
theorem State.enterAdmit_line_of_over {u : State} {index : Nat} (raises : u.bay.drivenClaim < u.slotClaim index)
    (exceeds : u.bayLimit < u.slotClaim index) : (u.enterAdmit index).drive.lineSetpoint = u.drive.lineSetpoint
      ∧ (u.enterAdmit index).acq.blanks = u.acq.blanks ∧ (u.enterAdmit index).acq.averages = u.acq.averages := by
  rw [State.enterAdmit_of_over raises exceeds, State.endStep_drive _ _ _ (u.freshContext index) rfl,
    State.endStep_acq _ _ _ (u.freshContext index) rfl]
  refine ⟨?_, rfl, rfl⟩
  unfold State.endDrive
  (repeat' split) <;> simp [Drive.tripDrop_eq, Drive.endResetPulse_eq]

/-- A first step that OVER_BAY ends under stop_on_fail fails the walk (R30, R31). -/
theorem State.failsWalk {e : State} {r : StepResult} {c : StepContext} (waiting : e.engine.waiting = some (.stepResult r))
    (step : e.engine.step = some c) (walk : e.engine.walk = .running) (free : e.queue.length < 32)
    (unaborted : e.engine.abortPending = false) (fails : r.verdict ≠ .pass) (stops : e.engine.stopOnFail = true)
    (cleared : e.engine.tallies = Tallies.cleared) :
    e.goOn.queue = e.queue ++ [.stepLevel (.stepResult r)] ∧ e.goOn.engine.walk = .winddown ∧ e.goOn.engine.reason = some .fail
      ∧ e.goOn.engine.tallies = ⟨1, 1, some (r.page, r.index), false⟩ ∧ e.goOn.bay = e.bay := by
  obtain ⟨more, queue, -, failed, -⟩ := e.alike_self.placesResult rfl waiting step walk free
  obtain ⟨⟨ran, -, counted⟩, none, ⟨winds, reason, -⟩, kept⟩ := failed unaborted fails stops
  obtain ⟨failedOnce, first, marked⟩ := counted fails
  rw [cleared] at ran failedOnce first
  refine ⟨by rw [queue, none], winds, reason, ?_, kept⟩
  generalize e.goOn.engine.tallies = tallies at *
  obtain ⟨run, failed, firstFail, allPass⟩ := tallies
  simp only at ran failedOnce first marked
  subst ran failedOnce first marked
  rfl

end

/-- Settles O20, by the state in which the walk begins and the cases of the claim at its ADMIT entry. -/
theorem startWalkBeginsFirstStep : Obligations.StartWalkBeginsFirstStep := by
  intro f s p g record ratings walk config accepted page closed slot filled waiting rated
  have start := storedHeader_startPage page
  obtain ⟨u, made⟩ : ∃ u, u = s.walkBegun (storedHeader f) := ⟨_, rfl⟩
  have run : exec (.startWalk f) s = .next ((u.enterAdmit f.index.toNat).goOn.reply 0x20 .ok) := by
    rw [exec_startWalk_of_accepted, State.startWalk_eq, made]
    · rfl
    · rw [startRefusal_of_accepts walk (by rw [config]; rfl) accepted, closed, start, ← slot, if_neg filled]; rfl
  have engine : u.engine = s.engine.beginWalk (storedHeader f) ratings := by rw [made, rated]; exact State.walkBegun_engine
  have bay : u.bay = s.bay := by rw [made]; exact State.walkBegun_bay
  have store : u.store = s.store := by rw [made]; exact State.walkBegun_store
  have queue : u.queue = s.queue := by rw [made]; exact State.walkBegun_queue
  have drive : u.drive = s.drive.startWalk ratings.lineNominal := by rw [made, rated]; exact State.walkBegun_drive
  have outer : (u.enterAdmit f.index.toNat).goOn.outer = s.outer := by
    rw [State.goOn_outer, State.enterAdmit_outer, made, State.walkBegun_outer]
  have current : u.currentSlot f.index.toNat = record := by
    rw [slot, State.currentSlot, store, engine]
    change s.store.slot (storedHeader f).startPage _ = _
    rw [start]
  have pageOf : u.engine.page.getD .a = p := by
    rw [engine]
    exact start
  have claim : u.slotClaim f.index.toNat = claimOf record.body.peak ratings.vNom := by
    rw [State.slotClaim, current, engine]; rfl
  have limit : u.bayLimit = g.limit := by rw [State.bayLimit, store, config]; rfl
  have settle : u.lineSettle = g.lineSettle * 10 := by rw [State.lineSettle, store, config]; rfl
  have none : u.engine.waiting = none := by rw [engine]; exact waiting
  have seq : u.acq.seq = s.acq.seq := by rw [made]; exact State.walkBegun_seq
  have level : u.drive.level = s.drive.level := by rw [drive]; rfl
  have fresh {c : StepContext} (h : u.FreshStep c (u.currentSlot f.index.toNat) (u.engine.page.getD .a) f.index.toNat) :
      s.FreshStep c record p f.index.toNat := by
    unfold State.FreshStep at h ⊢
    rwa [current, pageOf, seq, level] at h
  have begins : s.BeginsWalk (u.enterAdmit f.index.toNat) f p := by rw [made]; exact State.beginsWalk_enterAdmit accepted page
  have line {t : State} (setpoint : t.drive.lineSetpoint = u.drive.lineSetpoint) (blanks : t.acq.blanks = u.acq.blanks)
      (averages : t.acq.averages = u.acq.averages) : s.LineSet t ratings.lineNominal := by
    rw [made] at setpoint blanks averages
    rw [rated]
    exact State.lineSet_walkBegun (h := storedHeader f) setpoint blanks averages
  have stored : (u.enterAdmit f.index.toNat).goOn.store = s.store := State.outer_store outer
  rw [← claim, ← limit, ← bay]
  refine ⟨fun raises within => ?_, fun driven => ?_, fun raises exceeds => ?_⟩
  · obtain ⟨stays, ⟨-, -, prior, gates, unit, levelT, queueT⟩, inStep, protocol, count, attempts, drives⟩ :=
      State.enterAdmit_raises (s := u) none raises within
    have raised := State.enterAdmit_of_raise (s := u) raises within
    have set : s.LineSet (u.enterAdmit f.index.toNat) ratings.lineNominal := by
      rw [raised]
      exact line (by rw [State.beginAttempt_drive]; rfl) (by rw [State.beginAttempt_acq]; rfl) (by rw [State.beginAttempt_acq]; rfl)
    rw [stays] at run outer stored
    refine ⟨_, u.freshContext f.index.toNat, run, ?_⟩
    simp only [State.reply_bay, State.reply_drive, State.reply_queue, State.reply_store, State.stepIn_reply, State.lineSet_reply,
      State.beginsWalk_reply]
    exact ⟨inStep, fresh State.freshStep_freshContext, begins, set, drives, prior, protocol, count.trans settle, attempts, gates,
      unit, levelT.trans level, queueT.trans queue, stored, State.reply_port outer _⟩
  · obtain ⟨stays, ⟨-, -, prior, gates, unit, levelT, queueT⟩, toGate, toApply, attempts, drives⟩ :=
      State.enterAdmit_driven (s := u) none driven
    rw [stays] at run outer stored
    rw [current] at toGate toApply
    refine ⟨_, u.drivenContext f.index.toNat, run, ?_⟩
    simp only [State.reply_bay, State.reply_drive, State.reply_queue, State.reply_store, State.stepIn_reply, State.lineSet_reply,
      State.beginsWalk_reply, State.entersApply_reply]
    refine ⟨fresh State.freshStep_drivenContext, begins, fun gated => ?_, fun ungated => ?_, drives, prior,
      attempts, gates, unit, levelT.trans level, queueT.trans queue, stored, State.reply_port outer _⟩
    · obtain ⟨inStep, protocol, count, blanks, averages, setpoint⟩ := toGate gated
      exact ⟨inStep, line setpoint blanks averages, protocol, count⟩
    · have applies := (toApply ungated).of_same (s := s) (fun d stop slope range h => by rw [drive] at h; exact h) queue
      rw [drive] at applies
      exact applies
  · obtain ⟨more, reported⟩ := State.endsOverBay_enterAdmit (s := u) (index := f.index.toNat) raises exceeds
    have ends := State.enterAdmit_of_over (s := u) raises exceeds
    obtain ⟨setpoint, blanks, averages⟩ := State.enterAdmit_line_of_over raises exceeds
    obtain ⟨shelf, lineOn, -⟩ := (driveKeeps_enabled _).goOn ((driveKeeps_enabled _).enterAdmit
      (by rw [made]; exact State.walkBegun_enabled (s := s) (h := storedHeader f) : u.Has _) f.index.toNat)
    have full (h : 32 ≤ s.queue.length) : (u.enterAdmit f.index.toNat).goOn = u.enterAdmit f.index.toNat :=
      State.goOn_of_full _ (by rw [ends, State.endStep_queue _ _ _ (u.freshContext f.index.toNat) rfl, State.beginStep_queueAtEnd, queue]; exact h)
    have offered := reported.of_same queue level (congrArg Bay.drivenClaim bay)
    rw [current, pageOf] at offered
    have engineT : (u.enterAdmit f.index.toNat).engine = { (u.beginStep f.index.toNat).engine with
        step := some ((u.beginStep f.index.toNat).endContext [.overBay] (u.freshContext f.index.toNat))
        waiting := some (.stepResult (u.overBayResult f.index.toNat)), phase := .outputStall } := by
      rw [ends, State.endStep_engine _ _ _ (u.freshContext f.index.toNat) rfl]; rfl
    have queueT : (u.enterAdmit f.index.toNat).queue = s.queue := by
      rw [ends, State.endStep_queue _ _ _ (u.freshContext f.index.toNat) rfl, State.beginStep_queueAtEnd, queue]
    obtain ⟨verdict, -, onPage, onIndex, -⟩ := State.overBayResult_spec (s := u) (index := f.index.toNat)
    rw [pageOf] at onPage
    have kept : (u.enterAdmit f.index.toNat).bay.drivenClaim = u.bay.drivenClaim
        ∧ (u.enterAdmit f.index.toNat).bay.protocol = .idle := by
      rw [ends, State.endStep_bay _ _ _ (u.freshContext f.index.toNat) rfl]
      exact State.endBay_claim _ _ _ _
    have stopping (stops : f.stopOnFail.toNat = 1) : (u.enterAdmit f.index.toNat).engine.stopOnFail = true := by
      obtain ⟨-, -, -, -, -, -, code, -⟩ := accepted
      rw [engineT, State.beginStep_engine, engine]
      exact (yesOfCode_getD code).2 stops
    have fresh : (u.enterAdmit f.index.toNat).engine.abortPending = false ∧ (u.enterAdmit f.index.toNat).engine.tallies = Tallies.cleared
        ∧ (u.enterAdmit f.index.toNat).engine.walk = .running := by
      rw [engineT, State.beginStep_engine, engine]; exact ⟨rfl, rfl, rfl⟩
    have fails (free : s.queue.length < 32) (stops : f.stopOnFail.toNat = 1) := State.failsWalk (e := u.enterAdmit f.index.toNat)
      (by rw [engineT]) (by rw [engineT]) fresh.2.2 (by rw [queueT]; exact free) fresh.1 (by rw [verdict]; decide) (stopping stops) fresh.2.1
    have posted : (u.enterAdmit f.index.toNat).goOn.queue = s.queue ++ more := offered.1
    refine ⟨_, _, more, run, offered.reply _ _, ?_⟩
    simp only [State.reply_engine, State.reply_bay, State.reply_drive, State.reply_store, State.lineSet_reply, State.beginsWalk_reply]
    refine ⟨shelf, lineOn, fun h => ?_, fun free stops => ?_, stored, State.reply_port outer _⟩
    · rw [full h]
      exact ⟨begins, line setpoint blanks averages⟩
    · obtain ⟨one, winds, reason, tallies, bayT⟩ := fails free stops
      rw [queueT, posted, List.append_cancel_left_eq] at one
      rw [onPage, onIndex] at tallies
      exact ⟨by rw [one]; rfl, winds, reason, tallies, by rw [bayT, kept.1], by rw [bayT, kept.2]⟩

end Sys2Proof.Machine


/-! ## Frames (O13) -/

namespace Sys2Proof.Machine

/-! ### The bytes that stand in a frame -/

/-- The bytes stand in the frame from byte `i` on (R186). -/
def Carries (frame : List Byte) (i : Nat) (bytes : List Byte) : Prop := ∀ k b, bytes[k]? = some b → byteAt frame (i + k) = b

section
variable {frame : List Byte} {i : Nat}

@[simp] theorem carries_nil : Carries frame i [] ↔ True := by simp [Carries]

@[simp] theorem carries_cons (b : Byte) (rest : List Byte) :
    Carries frame i (b :: rest) ↔ byteAt frame i = b ∧ Carries frame (i + 1) rest := by
  refine ⟨fun all => ⟨all 0 b rfl, fun k c at_k => ?_⟩, fun ⟨first, later⟩ k c at_k => ?_⟩
  · rw [Nat.add_right_comm, Nat.add_assoc]; exact all (k + 1) c at_k
  · cases k with
    | zero => injection at_k with is; exact first.trans is
    | succ k => rw [← Nat.add_assoc, Nat.add_right_comm]; exact later k c at_k

@[simp] theorem carries_append (xs ys : List Byte) :
    Carries frame i (xs ++ ys) ↔ Carries frame i xs ∧ Carries frame (i + xs.length) ys := by
  induction xs generalizing i with
  | nil => simp
  | cons x xs ih => simp [ih, and_assoc, Nat.add_assoc, Nat.add_comm 1]

end

theorem length_toFrame (bytes : List Byte) : (toFrame bytes).length = 64 := by
  simp [toFrame, Config.frameBytes]; omega

/-- A frame holds its bytes, as far as it goes, and 00h after them (R186). -/
theorem byteAt_toFrame (bytes : List Byte) {k : Nat} (within : k < 64) : byteAt (toFrame bytes) k = bytes.getD k 0 := by
  unfold byteAt toFrame
  simp only [List.getD_eq_getElem?_getD, Config.frameBytes]
  by_cases inside : k < bytes.length
  · rw [List.getElem?_append_left (by simp; omega), List.getElem?_take_of_lt within]
  · rw [List.getElem?_append_right (by simp; omega), List.getElem?_eq_none (l := bytes) (by omega)]
    simp only [List.length_take, List.getElem?_replicate]
    split <;> rfl

theorem carries_toFrame {bytes : List Byte} (short : bytes.length ≤ 64) : Carries (toFrame bytes) 0 bytes := by
  intro k b at_k
  have inside := (List.getElem?_eq_some_iff.1 at_k).1
  rw [Nat.zero_add, byteAt_toFrame _ (by omega), List.getD_eq_getElem?_getD, at_k]
  rfl

/-! ### O13 -/

section
variable {frame : List Byte} {i : Nat}

@[simp] theorem length_bytes16 (v : BitVec 16) : (bytes16 v).length = 2 := rfl
@[simp] theorem length_bytes32 (v : BitVec 32) : (bytes32 v).length = 4 := rfl
@[simp] theorem length_checkBytes (c : CheckFields) : (checkBytes c).length = 10 := rfl

@[simp] theorem carries_bytes16 (v : BitVec 16) : Carries frame i (bytes16 v) ↔ field16 frame i = v := by
  unfold bytes16 field16
  simp only [carries_cons, carries_nil, and_true]
  refine ⟨fun ⟨high, low⟩ => by rw [high, low]; exact BitVec.extractLsb'_append_extractLsb', fun is => ?_⟩
  rw [← is]
  exact ⟨BitVec.extractLsb'_append_eq_left.symm, BitVec.extractLsb'_append_eq_right.symm⟩

/-- The four bytes of a field are those of its two halves (R186). -/
theorem bytes32_eq (v : BitVec 32) : bytes32 v = bytes16 (v.extractLsb' 16 16) ++ bytes16 (v.extractLsb' 0 16) := by
  have byte (n k : Nat) (within : k + 8 ≤ 16) : (v.extractLsb' n 16).extractLsb' k 8 = v.extractLsb' (n + k) 8 := by
    refine BitVec.eq_of_getLsbD_eq fun b inside => ?_
    simp only [BitVec.getLsbD_extractLsb', Nat.add_assoc, show k + b < 16 by omega, decide_true, Bool.true_and]
  unfold bytes32 bytes16
  simp [byte]

@[simp] theorem carries_bytes32 (v : BitVec 32) : Carries frame i (bytes32 v) ↔ field32 frame i = v := by
  rw [bytes32_eq, carries_append, carries_bytes16, carries_bytes16, length_bytes16, field32]
  refine ⟨fun ⟨high, low⟩ => by rw [high, low]; exact BitVec.extractLsb'_append_extractLsb', fun is => ?_⟩
  rw [← is]
  exact ⟨BitVec.extractLsb'_append_eq_left.symm, BitVec.extractLsb'_append_eq_right.symm⟩

@[simp] theorem carries_checkBytes (c : CheckFields) : Carries frame i (checkBytes c) ↔ checkAt frame i = c := by
  cases c
  simp [checkBytes, checkAt]

end

/-- The command that a frame's bytes are read as, the code in byte 0 (R173, R187). -/
theorem frameCommand_of_carries {i : Instr} {bytes frame : List Byte} {straps : BitVec 4} (formed : i.wellFormed = true)
    (written : commandBytes i = some bytes) (carried : Carries frame 0 bytes) (resets : ∀ other, i = .reset other → other = straps) :
    frameCommand frame straps = i := by
  cases i <;> simp only [commandBytes, Option.some.injEq, reduceCtorEq] at written
  all_goals subst written
  case configure f | writeStep f | writeProfile f | writeChannel f | startWalk f =>
    cases f
    simp only [carries_append, carries_cons, carries_nil, carries_bytes16, carries_bytes32, carries_checkBytes, List.length_append,
      List.length_cons, List.length_nil, length_bytes16, length_bytes32, length_checkBytes, and_true] at carried
    simp [frameCommand, configFields, stepFields, profileFields, channelFields, startFields, carried]
  case reset other =>
    simp only [carries_cons] at carried
    simp [frameCommand, carried, resets other rfl]
  case badCommand code =>
    have codes : ∀ k ∈ commandCodes, code.toNat ≠ k.toNat := fun k listed same => by
      rw [← BitVec.eq_of_toNat_eq same] at listed
      simp [Instr.wellFormed, listed] at formed
    simp only [commandCodes, List.forall_mem_cons] at codes
    simp only [carries_cons] at carried
    rw [frameCommand, carried.1]
    split <;> simp_all
  case writeCurve f =>
    obtain ⟨curve, axis, n, points⟩ := f
    have twelve : points.length = 12 := of_decide_eq_true formed
    match points, twelve with
    | [p0, p1, p2, p3, p4, p5, p6, p7, p8, p9, p10, p11], _ =>
      simp only [List.map_cons, List.map_nil, List.flatten_cons, List.flatten_nil, carries_append, carries_cons, carries_nil,
        carries_bytes16, List.length_append, List.length_cons, List.length_nil, length_bytes16, and_true] at carried
      simp [frameCommand, curveFields, carried]
  all_goals
    simp only [carries_cons] at carried
    simp [frameCommand, carried]

/-- Settles O13, by the bytes that stand in the frame. -/
theorem commandFrameRoundTrip : Obligations.CommandFrameRoundTrip := by
  intro i frame straps formed framed resets
  obtain ⟨bytes, written, rfl⟩ := Option.map_eq_some_iff.1 framed
  refine frameCommand_of_carries formed written (carries_toFrame ?_) resets
  cases i <;> simp only [commandBytes, Option.some.injEq, reduceCtorEq] at written <;> rw [← written] <;> simp
  case writeCurve f =>
    have twelve : f.points.length = 12 := of_decide_eq_true formed
    simp [Function.comp_def, twelve]

end Sys2Proof.Machine


/-! ## The outgoing frame (O7) -/

namespace Sys2Proof.Machine

/-! ### Fields -/

section
variable {frame : List Byte} {i n : Nat}

@[simp] theorem length_natBytes (n v : Nat) : (natBytes n v).length = n := by
  induction n with
  | zero => rfl
  | succ n ih => simp [natBytes, ih]

@[simp] theorem length_intBytes (n : Nat) (v : Int) : (intBytes n v).length = n := length_natBytes _ _

@[simp] theorem length_optBytes (n : Nat) (v : Option Nat) : (optBytes n v).length = n := length_natBytes _ _

@[simp] theorem length_optIntBytes (n : Nat) (v : Option Int) : (optIntBytes n v).length = n := length_intBytes _ _

theorem natBytes_one (v : Nat) : natBytes 1 v = [BitVec.ofNat 8 v] := by simp [natBytes]

/-- A field reads its first byte as its most significant one (R186). -/
theorem fieldAt_succ (frame : List Byte) (i n : Nat) :
    fieldAt frame i (n + 1) = (byteAt frame i).toNat * 256 ^ n + fieldAt frame (i + 1) n := by
  induction n with
  | zero => simp [fieldAt]
  | succ n ih =>
    rw [fieldAt, ih, fieldAt, show i + 1 + n = i + (n + 1) by omega]
    ring

theorem fieldAt_eq_zero (zero : ∀ j < n, byteAt frame (i + j) = 0) : fieldAt frame i n = 0 := by
  induction n with
  | zero => rfl
  | succ n ih =>
    rw [fieldAt, ih fun j within => zero j (by omega), zero n (by omega)]
    rfl

/-- The bytes of a number are the field that holds it (R186). -/
theorem Carries.holdsNat {v : Nat} (carried : Carries frame i (natBytes n v)) : HoldsNat frame i n v := by
  unfold HoldsNat
  induction n generalizing i with
  | zero => simp [fieldAt, Nat.mod_one]
  | succ n ih =>
    rw [natBytes, carries_cons] at carried
    obtain ⟨first, rest⟩ := carried
    have digits : v % (256 ^ n * 256) = v % 256 ^ n + 256 ^ n * (v / 256 ^ n % 256) := Nat.mod_mul
    rw [fieldAt_succ, first, ih rest, BitVec.toNat_ofNat, show 256 ^ (n + 1) = 256 ^ n * 256 from pow_succ 256 n, digits]
    ring

/-- The bytes of an integer are its field in two's complement (R186). -/
theorem Carries.holdsInt {v : Int} (carried : Carries frame i (intBytes n v)) : HoldsInt frame i n v := by
  have field : fieldAt frame i n = (v % (256 ^ n : Nat)).toNat % 256 ^ n := carried.holdsNat
  have pos : (0 : Int) < (256 ^ n : Nat) := by positivity
  have low := Int.emod_nonneg v (ne_of_gt pos)
  have high := Int.emod_lt_of_pos v pos
  unfold HoldsInt
  rw [field, Nat.mod_eq_of_lt (by omega)]
  omega

theorem Carries.byte {v : Nat} (carried : Carries frame i (natBytes 1 v)) : byteAt frame i = BitVec.ofNat 8 v := by
  rw [natBytes_one, carries_cons] at carried; exact carried.1

/-! ### Flags -/

/-- The number whose bits, bit 0 first, are the flags. -/
def bitsCode : List Bool → Nat
  | [] => 0
  | b :: rest => bitCode b + 2 * bitsCode rest

theorem testBit_bitsCode (bits : List Bool) (k : Nat) : (bitsCode bits).testBit k = bits.getD k false := by
  induction bits generalizing k with
  | nil => simp [bitsCode]
  | cons b rest ih =>
    cases k with
    | zero => cases b <;> simp [bitsCode, bitCode]
    | succ k =>
      have half : bitsCode (b :: rest) / 2 = bitsCode rest := by
        cases b
        · simp [bitsCode, bitCode]
        · simp [bitsCode, bitCode]; omega
      rw [Nat.testBit_succ, half, ih]
      rfl

/-- A flags byte holds the bits of its number (R186). -/
theorem Carries.holdsBits {v : Nat} {bits : List Bool} (carried : Carries frame i (natBytes 1 v)) (code : v = bitsCode bits)
    (short : bits.length ≤ 8) : HoldsBits frame i bits := by
  intro k b at_k
  have inside : k < bits.length := (List.getElem?_eq_some_iff.1 at_k).1
  rw [carried.byte, code, BitVec.getLsbD_ofNat, testBit_bitsCode, List.getD_eq_getElem?_getD, at_k]
  simp; omega

/-! ### The frame and its bytes -/

/-- A frame holds the first of its bytes, as far as it goes (R186). -/
theorem carries_toFrame_of_prefix {xs ys : List Byte} (short : xs.length ≤ 64) : Carries (toFrame (xs ++ ys)) 0 xs := by
  intro k b at_k
  have inside := (List.getElem?_eq_some_iff.1 at_k).1
  rw [Nat.zero_add, byteAt_toFrame _ (by omega), List.getD_eq_getElem?_getD, List.getElem?_append_left inside, at_k]
  rfl

/-- After its bytes a frame is 00h (R186). -/
theorem byteAt_toFrame_of_end {bytes : List Byte} {k : Nat} (past : bytes.length ≤ k) : byteAt (toFrame bytes) k = 0 := by
  by_cases within : k < 64
  · rw [byteAt_toFrame _ within, List.getD_eq_getElem?_getD, List.getElem?_eq_none past]; rfl
  · unfold byteAt
    rw [List.getD_eq_getElem?_getD, List.getElem?_eq_none (by rw [length_toFrame]; omega)]; rfl

/-- Of entries of four bytes each stands at its place. -/
theorem carries_flatten {α : Type} {f : α → List Byte} (four : ∀ x, (f x).length = 4) {l : List α}
    (carried : Carries frame i (l.map f).flatten) {k : Nat} {x : α} (at_k : l[k]? = some x) : Carries frame (i + 4 * k) (f x) := by
  induction l generalizing i k with
  | nil => simp at at_k
  | cons y l ih =>
    rw [List.map_cons, List.flatten_cons, carries_append, four] at carried
    cases k with
    | zero => injection at_k with is; exact is ▸ carried.1
    | succ k =>
      have next := ih carried.2 at_k
      rwa [show i + 4 + 4 * k = i + 4 * (k + 1) by omega] at next

end

/-! ### The layouts -/

section
variable {frame : List Byte}

/-- The bytes of a check entry, 00h when it is absent (R188). -/
def checkEntryBytes (c : Option CheckResult) : List Byte := (c.map checkResultBytes).getD (natBytes 4 0)

@[simp] theorem length_checkResultBytes (c : CheckResult) : (checkResultBytes c).length = 4 := by
  unfold checkResultBytes; split <;> simp

@[simp] theorem length_checkEntryBytes (c : Option CheckResult) : (checkEntryBytes c).length = 4 := by
  cases c <;> simp [checkEntryBytes]

theorem Carries.holdsCheck {i : Nat} {c : Option CheckResult} (carried : Carries frame i (checkEntryBytes c)) : HoldsCheck frame i c := by
  have absent (none : Carries frame i (natBytes 4 0)) : fieldAt frame i 4 = 0 := none.holdsNat
  cases c with
  | none => exact absent carried
  | some c =>
    change Carries frame i (checkResultBytes c) at carried
    unfold checkResultBytes at carried
    unfold HoldsCheck
    dsimp only
    split at carried
    next evaluated =>
      rw [carries_append, length_intBytes] at carried
      rw [if_pos evaluated]
      exact ⟨carried.1.holdsInt, carried.2.holdsBits (by cases c.pass <;> cases c.mark <;> rfl) (by simp)⟩
    next other => rw [if_neg other]; exact absent carried

theorem checkResultsBytes_eq (cs : List CheckResult) :
    checkResultsBytes cs = checkEntryBytes cs[0]? ++ checkEntryBytes cs[1]? ++ checkEntryBytes cs[2]? := by
  have zeros (n : Nat) : natBytes n 0 = List.replicate n 0 := by
    induction n with
    | zero => rfl
    | succ n ih => simp [natBytes, ih, List.replicate_succ]
  unfold checkResultsBytes checkEntryBytes
  match cs with
  | [] => rfl
  | [a] => simp [List.take_append, zeros]
  | [a, b] => simp [List.take_append, List.take_of_length_le, zeros]
  | a :: b :: c :: rest => simp [List.take_append, List.take_of_length_le]

@[simp] theorem length_checkResultsBytes (cs : List CheckResult) : (checkResultsBytes cs).length = 12 := by
  simp [checkResultsBytes]

@[simp] theorem length_tripBytes (t : Option Trip) : (tripBytes t).length = 7 := by cases t <;> simp [tripBytes]

theorem length_kindBytes_le (r : StepResult) : (kindBytes r).length ≤ 9 := by
  unfold kindBytes; split <;> simp

theorem Carries.holdsKind {r : StepResult} (carried : Carries frame 52 (kindBytes r)) : HoldsKind frame r := by
  unfold kindBytes at carried
  unfold HoldsKind
  cases kind : r.kind <;> rw [kind] at carried <;> dsimp only at carried ⊢
  case pulse => exact carried.holdsNat
  case tripTime => exact Carries.holdsNat carried
  case recover =>
    rw [carries_append] at carried
    exact ⟨Carries.holdsNat carried.1, Carries.holdsInt carried.2⟩
  case derate =>
    simp only [List.append_assoc, carries_append, length_optIntBytes, length_optBytes, Nat.reduceAdd] at carried
    obtain ⟨vRef, tUsed, pExp, pKnee⟩ := carried
    exact ⟨Carries.holdsInt vRef, Carries.holdsInt tUsed, Carries.holdsNat pExp, Carries.holdsNat pKnee⟩
  case dropout =>
    rw [carries_append] at carried
    exact ⟨Carries.holdsInt carried.1, fun span is => by have b := carried.2.byte; rw [is] at b; exact b⟩

theorem Carries.holdsTrip {t : Option Trip} (carried : Carries frame 45 (tripBytes t)) :
    ∀ x, t = some x → byteAt frame 45 = BitVec.ofNat 8 x.source.code ∧ HoldsNat frame 46 4 x.date.toNat ∧ HoldsInt frame 50 2 x.iTrip := by
  rintro x rfl
  simp only [tripBytes, List.append_assoc, carries_append, length_natBytes, Nat.reduceAdd] at carried
  obtain ⟨source, date, iTrip⟩ := carried
  exact ⟨source.byte, date.holdsNat, iTrip.holdsInt⟩

theorem resultFlags_eq (r : StepResult) : resultFlags r = bitsCode [r.clamped, r.censusHeld, r.figures.curveMissing,
    r.figures.trip.isSome, (r.figures.trip.map (·.mark)).getD false, r.figures.tUsedMark, false, false] := by
  simp only [resultFlags, bitsCode, bitCode, Bool.false_eq_true, if_false]
  ring

theorem resultPresence_eq (r : StepResult) : resultPresence r = bitsCode [r.figures.tTrip.isSome, r.figures.recovery.isSome,
    r.figures.watchMin.isSome, r.figures.vRef.isSome, r.figures.tUsed.isSome, r.figures.pExp.isSome, r.figures.pKnee.isSome,
    r.figures.vMin.isSome] := by
  simp only [resultPresence, bitsCode]
  ring

theorem length_stepResultBytes_le (r : StepResult) : (stepResultBytes r).length ≤ 57 := by
  have fields := length_kindBytes_le r
  unfold stepResultBytes
  simp only [List.length_append, length_natBytes, length_checkResultsBytes, length_tripBytes]
  omega

theorem Carries.holdsStepResult {r : StepResult} (carried : Carries frame 7 (stepResultBytes r)) : HoldsStepResult frame r := by
  unfold stepResultBytes at carried
  simp only [checkResultsBytes_eq, List.append_assoc, carries_append, length_natBytes, length_checkEntryBytes,
    length_tripBytes, Nat.reduceAdd] at carried
  obtain ⟨page, index, tag, kind, verdict, phase, duration, level, admissions, gates, flags, presence, posted, dropped, count,
    restarts, disturbed, check1, check2, check3, trip, fields⟩ := carried
  exact ⟨page.holdsNat, index.holdsNat, tag.holdsNat, kind.holdsNat, verdict.holdsNat, phase.holdsNat, duration.holdsNat, level.holdsNat,
    admissions.holdsNat, gates.holdsNat, flags.holdsBits (resultFlags_eq r) (by simp), presence.holdsBits (resultPresence_eq r) (by simp),
    posted.holdsNat, dropped.holdsNat, count.holdsNat, restarts.holdsNat, disturbed.holdsNat, check1.holdsCheck, check2.holdsCheck,
    check3.holdsCheck, trip.holdsTrip, fields.holdsKind⟩

theorem Carries.holdsWalkSummary {w : WalkSummary} (carried : Carries frame 7 (walkSummaryBytes w)) : HoldsWalkSummary frame w := by
  simp only [walkSummaryBytes, List.append_assoc, carries_append, length_natBytes, Nat.reduceAdd] at carried
  obtain ⟨verdict, reason, run, failed, page, index⟩ := carried
  exact ⟨by rw [verdict.byte]; cases w.verdictPass <;> rfl, reason.holdsNat, run.holdsNat, failed.holdsNat, page.holdsNat, index.holdsNat⟩

theorem Carries.holdsSnapshot {p : Snapshot} (carried : Carries frame 10 (snapshotBytes p)) : HoldsSnapshot frame p := by
  simp only [snapshotBytes, List.append_assoc, carries_append, length_natBytes, Nat.reduceAdd] at carried
  obtain ⟨walk, phase, page, index, claim, total, census, others, unit, admissions, gates, level, range, queue, interlock, address⟩ := carried
  exact ⟨walk.holdsNat, phase.holdsNat, page.holdsNat, index.holdsNat, claim.holdsNat, total.holdsNat, census.holdsNat, others.holdsNat,
    unit.holdsNat, admissions.holdsNat, gates.holdsNat, level.holdsNat, range.holdsNat, queue.holdsNat,
    by rw [interlock.byte]; cases p.interlockOpen <;> rfl, address.holdsNat⟩

/-! ### Capture blocks -/

/-- The bytes of a pair (R189). -/
def pairBytes (p : RawSample) : List Byte := intBytes 2 p.vOut ++ natBytes 2 (currentWord p)

@[simp] theorem length_pairBytes (p : RawSample) : (pairBytes p).length = 4 := by simp [pairBytes]

/-- The bytes of a block before its pairs (R189). -/
def blockHeadBytes (b : CaptureBlock) : List Byte :=
  natBytes 4 ((b.samples.head?.map (·.seq.toNat)).getD 0) ++ natBytes 1 b.tag ++ natBytes 1 b.index
    ++ natBytes 1 (128 * ((b.samples.head?.map (·.range.code)).getD 0) + b.samples.length)
    ++ natBytes 2 (voltageMask b.samples)

@[simp] theorem length_blockHeadBytes (b : CaptureBlock) : (blockHeadBytes b).length = 9 := by simp [blockHeadBytes]

theorem captureBlockBytes_eq (b : CaptureBlock) : captureBlockBytes b = blockHeadBytes b ++ ((b.samples.take 12).map pairBytes).flatten
    ++ ((b.samples.drop 12).map pairBytes).flatten := by
  rw [List.append_assoc, ← List.flatten_append, ← List.map_append, List.take_append_drop]
  rfl

theorem voltageMask_eq (samples : List RawSample) : voltageMask samples = bitsCode (samples.map (·.vOver)) := by
  induction samples with
  | nil => rfl
  | cons p rest ih => simp [voltageMask, bitsCode, ih]

theorem currentWord_eq (p : RawSample) : currentWord p % 65536 = p.iOut.toNat % 16384 + (if p.disturbed then 16384 else 0)
    + (if p.iOver then 32768 else 0) := by
  unfold currentWord bitCode
  cases p.disturbed <;> cases p.iOver <;> simp <;> omega

/-- The layout of a block whose frame holds its head, its first twelve pairs, and 00h past its end (R189). -/
theorem holdsCaptureBlock_of_carries {b : CaptureBlock} (head : Carries frame 7 (blockHeadBytes b))
    (pairs : Carries frame 16 ((b.samples.take 12).map pairBytes).flatten)
    (past : ∀ k, 16 + 4 * b.samples.length ≤ k → byteAt frame k = 0) : HoldsCaptureBlock frame b := by
  simp only [blockHeadBytes, List.append_assoc, carries_append, length_natBytes, Nat.reduceAdd] at head
  obtain ⟨seq, tag, index, shape, mask⟩ := head
  have masked (k : Nat) (within : k < 12) : (fieldAt frame 14 2).testBit k = (b.samples.map (·.vOver)).getD k false := by
    rw [show fieldAt frame 14 2 = _ from mask.holdsNat, voltageMask_eq, show 256 ^ 2 = 2 ^ 16 from rfl, Nat.testBit_mod_two_pow,
      testBit_bitsCode]
    simp; omega
  refine ⟨tag.holdsNat, index.holdsNat, fun p first => ⟨?_, ?_⟩, fun k p within at_k => ?_, fun short k end_ within => ⟨?_, ?_⟩⟩
  · rw [first] at seq; exact seq.holdsNat
  · rw [shape.byte, first]
    cases range : p.range <;> simp [range, LoadRange.code]
  · have pair : Carries frame (16 + 4 * k) (pairBytes p) :=
      carries_flatten length_pairBytes pairs (by rw [List.getElem?_take_of_lt within]; exact at_k)
    rw [pairBytes, carries_append, length_intBytes] at pair
    obtain ⟨voltage, current⟩ := pair
    refine ⟨voltage.holdsInt, ?_, ?_⟩
    · rw [← currentWord_eq, show 18 + 4 * k = 16 + 4 * k + 2 by omega]
      exact current.holdsNat
    · rw [masked k within, List.getD_eq_getElem?_getD, List.getElem?_map, at_k]; rfl
  · exact fieldAt_eq_zero fun j _ => past _ (by omega)
  · rw [masked k within, List.getD_eq_getElem?_getD, List.getElem?_eq_none (by simpa using end_)]; rfl

end

/-! ### The chosen record -/

section
variable (s : State)

@[simp] theorem length_headerBytes (code : Nat) : (headerBytes s code).length = 7 := by simp [headerBytes]

/-- The status header stands in front of every outgoing frame (R175). -/
theorem State.carries_header : Carries s.outgoingFrame 0 (headerBytes s s.chosenRecord.2.1) :=
  carries_toFrame_of_prefix (by simp)

/-- The bytes of the chosen record stand behind the header, as far as the frame goes (R171). -/
theorem State.carries_body {xs ys : List Byte} (body : s.chosenRecord.2.2 = xs ++ ys) (short : xs.length ≤ 57) :
    Carries s.outgoingFrame 7 xs := by
  have all : Carries s.outgoingFrame 0 (headerBytes s s.chosenRecord.2.1 ++ xs) := by
    unfold State.outgoingFrame
    rw [body, ← List.append_assoc]
    exact carries_toFrame_of_prefix (by simp; omega)
  rw [carries_append, length_headerBytes] at all
  exact all.2

theorem State.byteAt_past {k : Nat} (past : 7 + s.chosenRecord.2.2.length ≤ k) : byteAt s.outgoingFrame k = 0 :=
  byteAt_toFrame_of_end (by simpa using past)

theorem State.carries_whole {bytes : List Byte} (chosen : s.chosenRecord.2.2 = bytes) (short : bytes.length ≤ 57) :
    Carries s.outgoingFrame 7 bytes :=
  s.carries_body (ys := []) (by rw [chosen, List.append_nil]) short

/-- A block stands in the frame by its layout, as far as its first twelve pairs (R189). -/
theorem State.holdsCaptureBlock {b : CaptureBlock} (chosen : s.chosenRecord.2.2 = captureBlockBytes b) :
    HoldsCaptureBlock s.outgoingFrame b := by
  have pairs (l : List RawSample) : ((l.map pairBytes).flatten).length = 4 * l.length := by
    simp [Function.comp_def, Nat.mul_comm]
  have carried := s.carries_body (chosen.trans (captureBlockBytes_eq b)) (by
    simp only [List.length_append, length_blockHeadBytes, pairs, List.length_take]; omega)
  rw [carries_append, length_blockHeadBytes] at carried
  refine holdsCaptureBlock_of_carries carried.1 carried.2 fun k past => s.byteAt_past ?_
  rw [chosen, captureBlockBytes_eq]
  simp only [List.length_append, length_blockHeadBytes, pairs, List.length_take, List.length_drop]
  omega

/-- The queue's record stands in the frame by its layout (R188, R189). -/
theorem State.holdsRecord {r : Record} (chosen : s.chosenRecord.2.2 = r.bytes) : HoldsRecord s.outgoingFrame r := by
  unfold Record.bytes at chosen
  unfold HoldsRecord
  split at chosen
  next x => exact (s.carries_whole chosen (length_stepResultBytes_le x)).holdsStepResult
  next w => exact (s.carries_whole chosen (by simp [walkSummaryBytes])).holdsWalkSummary
  next p => exact (s.carries_whole chosen (by simp)).holdsNat
  next b => exact s.holdsCaptureBlock chosen

end

/-- Settles O7, by the header, the record chosen, and 00h past its end. -/
theorem outgoingFrameLayout : Obligations.OutgoingFrameLayout := by
  intro s t run
  injection run with begun
  obtain rfl : s.beginTransaction = t := begun
  have header := s.carries_header
  unfold headerBytes at header
  simp only [List.append_assoc, carries_append, length_natBytes, Nat.reduceAdd] at header
  obtain ⟨type, walk, page, index, phase, queue, flags⟩ := header
  refine ⟨s.chosenRecord.1, s.outgoingFrame, rfl, length_toFrame _, walk.byte, page.byte, index.byte, phase.byte, queue.byte,
    flags.holdsBits ?_ (by simp), fun a answer => ?_, fun r rest answer queued => ?_, fun answer empty => ?_⟩
  · simp [bitsCode, bitCode]
  · have chosen : s.chosenRecord = (.answer, 0x81, answerBytes a) := by simp [State.chosenRecord, answer]
    have bytes : s.chosenRecord.2.2 = ([a.code] ++ natBytes 1 a.answer.code ++ natBytes 1 a.answer.field)
        ++ (a.snapshot.map snapshotBytes).getD [] := by rw [chosen]; rfl
    have fields := s.carries_body bytes (by simp)
    simp only [List.cons_append, List.nil_append, carries_cons, carries_append, length_natBytes, Nat.reduceAdd] at fields
    obtain ⟨code, result, field⟩ := fields
    refine ⟨by rw [type.byte, chosen]; rfl, code, result.byte, field.byte, fun p shown => ?_, fun none k past => s.byteAt_past ?_⟩
    · rw [shown] at bytes
      have all := s.carries_body (ys := []) (bytes.trans (List.append_nil _).symm) (by simp [snapshotBytes])
      rw [carries_append] at all
      exact all.2.holdsSnapshot
    · rw [bytes, none]
      simpa using past
  · have chosen : s.chosenRecord = (.queue, r.typeCode, r.bytes) := by simp [State.chosenRecord, answer, queued]
    refine ⟨?_, s.holdsRecord (by rw [chosen])⟩
    rw [type.byte, chosen]
    match r with
    | .stepLevel (.stepResult _) | .stepLevel (.walkSummary _) | .stepLevel (.pageSwap _) | .captureBlock _ => rfl
  · have chosen : s.chosenRecord = (.idle, 0x80, []) := by simp [State.chosenRecord, answer, empty]
    exact ⟨by rw [type.byte, chosen]; rfl, fun k past => s.byteAt_past (by rw [chosen]; exact past)⟩

end Sys2Proof.Machine
